-- ==== Sys2Proof/Word.lean ====
section
/-! DEFINITION. The widths the engine adds, shifts or wraps in: bytes, check codes, meter counters, close marks and
round numbers. Everything else the spec counts or names is a `Nat`, an `Int` or a type of its own. -/

namespace Sys2Proof

/-- One byte of a link, of a meter loop or of account memory. -/
abbrev Byte := BitVec 8

/-- A 16-bit check code (R189). -/
abbrev CheckCode := BitVec 16

/-- A meter's energy counter, which wraps from 4,294,967,295 to 0 (R23, R34). -/
abbrev Counter := BitVec 32

/-- A close mark, which wraps from 255 to 0 (R75). -/
abbrev Mark := BitVec 8

/-- A round number, which wraps from 65535 to 0 (R2). -/
abbrev RoundNumber := BitVec 16

/-- One of the four feeders (section 1.6). -/
abbrev Feeder := Fin 4

end Sys2Proof
end

