-- ==== Sys2Proof/Syntax.lean ====
section
/-! DEFINITION. The vocabulary of the tables and of the commands, the station's commands (`Command`, section 12.3), and
`Instr`: one constructor for each row of spec/opcode_table.json. -/

namespace Sys2Proof

/-! ### What the tables hold (chapter 3) -/

/-- The kind of a participant entry (R42, R43). -/
inductive ParticipantKind where
  | vacant | household | store | gridTie
  deriving DecidableEq, Repr

/-- The status of a participant entry (R44). -/
inductive ParticipantStatus where
  | active | suspended
  deriving DecidableEq, Repr

/-- Which postings follow a redirect link (R47). -/
inductive RedirectScope where
  | debits | credits | all
  deriving DecidableEq, Repr

/-- A redirect link: a target participant index and a scope (R47). -/
structure Redirect where
  target : Nat
  scope : RedirectScope
  deriving DecidableEq, Repr

/-- A participant entry (R42). -/
structure ParticipantEntry where
  kind : ParticipantKind
  status : ParticipantStatus
  serial : Nat
  feeder : Nat
  slot : Nat
  ceiling : Nat
  creditFloor : Int
  limit : Nat
  redirect : Option Redirect
  deriving DecidableEq, Repr

/-- A feeder entry (R48). -/
structure FeederEntry where
  enabled : Bool
  slotCount : Nat
  deriving DecidableEq, Repr

/-- The general entry: interval length in minutes and grace in seconds (R49). -/
structure GeneralEntry where
  interval : Nat
  grace : Nat
  deriving DecidableEq, Repr

/-- The class of a day (R50). -/
inductive DayClass where
  | work | rest
  deriving DecidableEq, Repr

/-- The day class of a band (R51). -/
inductive BandClass where
  | work | rest | both
  deriving DecidableEq, Repr

/-- A tariff band (R51). -/
structure Band where
  dayClass : BandClass
  start : Nat
  gridPrice : Nat
  feedPrice : Nat
  share : Nat
  fee : Nat
  deriving DecidableEq, Repr

/-! ### Parameters of commands -/

/-- Which copy of the tables a reading command names (R181 to R183). -/
inductive TableCopy where
  | active | staged
  deriving DecidableEq, Repr

/-- How READ BOOK names a book (R184). -/
inductive BookSelector where
  | startMinute (minute : Nat)
  | newest
  deriving DecidableEq, Repr

/-- The part of a book that READ BOOK returns (R184). -/
inductive BookPart where
  | summary
  | members (position : Nat)
  deriving DecidableEq, Repr

/-- The filter of SWEEP ACCOUNTS (R186). -/
inductive SweepFilter where
  | all | nonzero | arrears | damaged
  deriving DecidableEq, Repr

/-- The comparison of SCAN ACCOUNTS (R188). -/
inductive Comparison where
  | equal | atMost | atLeast
  deriving DecidableEq, Repr

/-- The mode of TRANSFER (R122). -/
inductive TransferMode where
  | checked | forced
  deriving DecidableEq, Repr

/-- The standing of an account (R114). -/
inductive Standing where
  | current | arrears
  deriving DecidableEq, Repr

/-- What TRANSFER names (R122). -/
structure TransferOrder where
  payer : Nat
  payee : Nat
  amount : Nat
  mode : TransferMode
  deriving DecidableEq, Repr

/-- What REPAIR ACCOUNT names (R126). -/
structure RepairOrder where
  account : Nat
  balance : Int
  baseExport : Nat
  baseImport : Nat
  baseMinute : Option Nat
  standing : Standing
  deriving DecidableEq, Repr

/-- What SWEEP ACCOUNTS names (R186). -/
structure SweepOrder where
  first : Nat
  last : Nat
  step : Nat
  filter : SweepFilter
  deriving DecidableEq, Repr

/-- What SCAN ACCOUNTS names (R188). -/
structure ScanOrder where
  first : Nat
  last : Nat
  step : Nat
  comparison : Comparison
  threshold : Int
  skipSuspended : Bool
  deriving DecidableEq, Repr

/-- A station command with its parameters (the command table of section 12.3). Numbers are held as the station gave
them; whether they lie in range is the command's own BAD_PARAMETER step (R166, R191). -/
inductive Command where
  | readAccount (account : Nat)
  | readParticipant (index : Nat) (copy : TableCopy)
  | readFeeder (feeder : Nat) (copy : TableCopy)
  | readBand (position : Nat) (copy : TableCopy)
  | readBook (selector : BookSelector) (part : BookPart)
  | readRoundStatus (feeder : Nat)
  | readClock
  | readEngine
  | sweepAccounts (order : SweepOrder)
  | scanAccounts (order : ScanOrder)
  | hold (feeder : Nat)
  | resume (feeder : Nat)
  | enrol (feeder : Nat) (rounds : Nat) (serial : Nat)
  | rebase (index : Nat)
  | stageParticipant (index : Nat) (entry : ParticipantEntry)
  | stageFeeder (feeder : Nat) (entry : FeederEntry)
  | stageGeneral (general : GeneralEntry) (week : Vector DayClass 7)
  | stageBand (position : Nat) (band : Option Band)
  | clearBands
  | stageCopy
  | activate
  | disarm
  | setClock (day : Nat) (second : Nat) (weekday : Nat)
  | releaseBook (start : Nat)
  | discardBook (start : Nat)
  | transfer (order : TransferOrder)
  | repairAccount (order : RepairOrder)
  | flush
  | initAccountMemory
  | senseAttention
  | restart (keepHeld : Bool)
  deriving DecidableEq, Repr

/-! ### What the lines deliver -/

/-- The three samples the receiver takes within one bit read back (R4). -/
structure Sample where
  first : Bool
  second : Bool
  third : Bool
  deriving DecidableEq, Repr

/-- One character received in a receive window: when it begins and ends, in microseconds from the opening of the
window, its eight data bits, and whether its framing was good (R3, R8). -/
structure LineChar where
  start : Nat
  stop : Nat
  byte : Byte
  framed : Bool
  deriving DecidableEq, Repr

/-! ### The commands and events of the block -/

/-- One constructor for each row of spec/opcode_table.json. A row that is a station command carries the tag of its
frame and the command's parameters; `returned` is what account memory returns for a unit where it does not return what
was last written (`none`: it does its duty, R129); `left` is what a place holds whose write a hardware reset cut off. -/
inductive Instr where
  | hardwareReset (left : Option (List Byte))
  | powerWarningAsserted
  | powerWarningReleased
  | frameReceived (bytes : List Byte)
  | frameGapTimeout (next : Option Byte)
  | unknownCommand (tag : Byte) (body : List Byte)
  | resultQueued
  | blockQueued
  | statement
  | frameSent
  | readAccount (tag : Byte) (account : Nat)
  | readParticipant (tag : Byte) (index : Nat) (copy : TableCopy)
  | readFeeder (tag : Byte) (feeder : Nat) (copy : TableCopy)
  | readBand (tag : Byte) (position : Nat) (copy : TableCopy)
  | readBook (tag : Byte) (selector : BookSelector) (part : BookPart)
  | readRoundStatus (tag : Byte) (feeder : Nat)
  | readClock (tag : Byte)
  | readEngine (tag : Byte)
  | sweepAccounts (tag : Byte) (order : SweepOrder)
  | scanAccounts (tag : Byte) (order : ScanOrder)
  | hold (tag : Byte) (feeder : Nat)
  | resume (tag : Byte) (feeder : Nat)
  | enrol (tag : Byte) (feeder : Nat) (rounds : Nat) (serial : Nat)
  | rebase (tag : Byte) (index : Nat)
  | stageParticipant (tag : Byte) (index : Nat) (entry : ParticipantEntry)
  | stageFeeder (tag : Byte) (feeder : Nat) (entry : FeederEntry)
  | stageGeneral (tag : Byte) (general : GeneralEntry) (week : Vector DayClass 7)
  | stageBand (tag : Byte) (position : Nat) (band : Option Band)
  | clearBands (tag : Byte)
  | stageCopy (tag : Byte)
  | activate (tag : Byte)
  | disarm (tag : Byte)
  | setClock (tag : Byte) (day : Nat) (second : Nat) (weekday : Nat)
  | releaseBook (tag : Byte) (start : Nat)
  | discardBook (tag : Byte) (start : Nat)
  | transfer (tag : Byte) (order : TransferOrder)
  | repairAccount (tag : Byte) (order : RepairOrder)
  | flush (tag : Byte)
  | initAccountMemory (tag : Byte)
  | senseAttention (tag : Byte)
  | restart (tag : Byte) (keepHeld : Bool)
  | headWindowOpen (feeder : Feeder)
  | headWindowClose (feeder : Feeder) (readback : List Sample)
  | orderWindowOpen (feeder : Feeder)
  | orderWindowClose (feeder : Feeder) (readback : List Sample)
  | meterSlotClose (feeder : Feeder) (heard : List LineChar)
  | noticeWindowOpen (feeder : Feeder)
  | noticeWindowClose (feeder : Feeder) (readback : List Sample)
  | quietWindowClose (feeder : Feeder) (heard : List LineChar)
  | clockTick
  | intervalBoundary
  | collectionDeadline
  | cacheFill (returned : Option (List Byte))
  | cacheWriteBack
  | journalEntryWrite
  | journalHeaderWrite
  | journalHeaderClear
  | repairRecordWrite
  | startupHeaderRead (returned : Option (List Byte))
  | journalVerifyRead (returned : Option (List Byte))
  | replayRecordWrite
  | startupHeaderWrite
  | initHeaderWrite
  | initRecordWrite
  | initHeaderReadback (returned : Option (List Byte))
  | byteWithoutStopBit
  deriving DecidableEq, Repr

end Sys2Proof
end

