-- ==== Sys2Proof/Decode.lean ====
section
/-! DEFINITION. The words of the opcode table. No row of spec/opcode_table.json gives bits: a command is sent to the
engine in a station frame, whose bytes FRAME_RECEIVED takes and `Machine.requestOf` decodes, and an event is none of
words at all (log 30). -/

namespace Sys2Proof

/-- The command that a word spells by the table's bits: none, for the table gives no row any (log 30). -/
def decodeTableWord (_nbits _w : Nat) : Option Instr := none

end Sys2Proof
end

