-- ==== Sys2Proof/Config.lean ====
section
/-! DEFINITION. The fixed quantities of the engine (section 1.6 and chapter 12) and the free values: constants without a
body for what the spec leaves open. -/

namespace Sys2Proof.Config

/-- Participants, and participant accounts (section 1.6). -/
def participants : Nat := 192
/-- Accounts: 192 of participants and 4 of the system (R108). -/
def accounts : Nat := 196
def clearing : Nat := 192
def fund : Nat := 193
def grid : Nat := 194
def suspense : Nat := 195
/-- Book records in the Book List (R77). -/
def books : Nat := 8
/-- Frames in the outbound queue (R170). -/
def outbound : Nat := 4
/-- Items in the Attention List (R172). -/
def attention : Nat := 16
/-- Entries of one Directed Queue (R149). -/
def queue : Nat := 16
/-- Turned slots of one round (R152). -/
def turned : Nat := 4
/-- Sends of one order before it is given up (R153, R155). -/
def sends : Nat := 3
/-- Rounds an order waits for its confirmation (R155). -/
def roundsWaited : Nat := 4
/-- Energy per participant and book, in Wh (R35). -/
def energyLimit : Nat := 16777215
/-- The greatest balance, 2^47 − 1 mc (R110). -/
def balanceLimit : Int := 140737488355327
/-- The greatest minute count, that of day 65535, minute 1439 (R85). -/
def lastMinute : Nat := 94371839
/-- The largest step SET CLOCK takes in RUNNING, in seconds (R70). -/
def stepLimit : Int := 120
/-- A window of a round, in microseconds (R1). -/
def window : Nat := 40000
/-- The bit rate of a meter loop, in bit/s (section 12.2). -/
def loopRate : Nat := 9600
/-- The start tolerance, in microseconds (R3). -/
def tolerance : Nat := 10000
/-- The longest gap within a message, in microseconds (R8). -/
def charGap : Nat := 2000
/-- Balances in a NOTICE are held to this many credits (R158). -/
def creditLimit : Int := 8388607

/-- The start byte of a station frame (section 12.3). -/
def startByte : Byte := 0xA5
/-- The format marker of a header the engine wrote (section 12.4). -/
def marker : Nat := 0x3D6A
/-- Bytes of a header up to and with its check word (section 12.4). -/
def headerSize : Nat := 16
/-- Bytes of a record or a journal entry up to and with its check word (section 12.4). -/
def recordSize : Nat := 28
/-- Bytes of a place of account memory (section 12.4). -/
def placeSize : Nat := 32
def headerPlace : Nat := 0
/-- Where the record of an account stands (section 12.4). -/
def recordPlace (account : Nat) : Nat := 32 + 32 * account
/-- Where a journal entry stands (section 12.4). -/
def journalPlace (place : Nat) : Nat := 6304 + 32 * place
/-- The bytes the account memory needs (section 12.4). -/
def memoryBytes : Nat := 12576

/-- DESIGN CHOICE (log 6), unsafe: what a byte of account memory that nothing has written reads as. -/
def unwritten : Byte := 0

/-- FREE VALUE (log 10): a byte the spec has the engine send and gives no value for: the command code echoed for an
empty command body (R166, R167), and the last account visited of a run that visited none (R187, R188). -/
opaque freeByte : Nat → Byte

/-- FREE VALUE (log 11): which of two is taken first when, in one instant, a command waiting for the books and the
oldest WAITING book can both proceed (R38, R81, R122). `true`: the command. -/
opaque commandFirst : Nat → Bool

/-- The most turns the engine's units take between two events (log 32): more than any sequence of them needs. -/
def turns : Nat := 8192

end Sys2Proof.Config
end

