-- ==== Sys2Proof/Machine/State.lean ====
section
/-! DEFINITION. Everything the spec gives the engine to hold, as plain data, unit by unit in the order of the chapters;
the outcomes' reasons; and the machine right after a hardware reset. A field marked MODEL'S OWN is not the spec's
(log 23). -/

namespace Sys2Proof.Machine

/-! ### Why a step could stop -/

/-- The engine has no fault: every command and event has an effect in every state, so no constructor is needed and
no step answers one. -/
inductive Fault where
  deriving DecidableEq, Repr

/-- Refusals of the model. -/
inductive Refusal where
  /-- Raised by an arm of `exec` whose row has no meaning yet; safe. No arm raises it. -/
  | notModelled (mnemonic : String)
  deriving DecidableEq, Repr

/-! ### Engine state (section 1.2.2) -/

/-- The state of the engine as a whole. -/
inductive EngineState where
  | unconfigured | running | quiesced
  deriving DecidableEq, Repr

/-! ### Tables (chapter 3) -/

/-- One table set (R39). -/
structure TableSet where
  participants : Vector ParticipantEntry 192
  feeders : Vector FeederEntry 4
  general : GeneralEntry
  week : Vector DayClass 7
  bands : Vector (Option Band) 12
  deriving DecidableEq, Repr

/-- The vacant entry of an empty table set (R41). -/
def emptyEntry : ParticipantEntry :=
  { kind := .vacant, status := .active, serial := 1, feeder := 0, slot := 0, ceiling := 1, creditFloor := 0,
    limit := 0, redirect := none }

/-- The empty table set (R41). -/
def TableSet.empty : TableSet :=
  { participants := Vector.replicate 192 emptyEntry
    feeders := Vector.replicate 4 { enabled := false, slotCount := 0 }
    general := { interval := 15, grace := 60 }
    week := Vector.replicate 7 .work
    bands := Vector.replicate 12 none }

/-! ### Snapshots and live state (chapter 2) -/

/-- A taken snapshot (R24, R28). -/
structure Snapshot where
  exported : Counter
  imported : Counter
  counterFault : Bool
  deriving DecidableEq, Repr

/-- The live-state record of a participant index (R24). -/
structure LiveState where
  lastRound : Option RoundNumber
  lastMark : Option Mark
  limitActive : Bool
  tamper : Bool
  counterFault : Bool
  taken : Option Snapshot
  absence : Nat
  deriving DecidableEq, Repr

/-- The initial condition of a live-state record (R24). -/
def LiveState.initial : LiveState :=
  { lastRound := none, lastMark := none, limitActive := false, tamper := false, counterFault := false, taken := none,
    absence := 0 }

/-! ### Accounts (R109) -/

/-- The fields of an account record. -/
structure AccountRecord where
  balance : Int
  baseExport : Counter
  baseImport : Counter
  baseMinute : Option Nat
  rebasePending : Bool
  standing : Standing
  lastPosted : Option Nat
  deriving DecidableEq, Repr

/-- A record image for one account: the content of a journal entry (R116, R124). `changes` tells whether the balance
changes, and `was` is the standing of the record the image was made from. -/
structure Image where
  account : Nat
  record : AccountRecord
  changes : Bool
  was : Standing
  deriving DecidableEq, Repr

/-! ### Orders, notices and feeder ports (chapters 1 and 9) -/

/-- What an order asks of a meter (R149). -/
inductive OrderKind where
  | limit | release
  deriving DecidableEq, Repr

/-- An entry of a Directed Queue (R149). `sent` is the state SENT, its absence READY. `turned` (named by the HEAD of
the round in progress and neither replaced since) and `sentAtHead` (SENT when that HEAD was built) are the model's own
bookkeeping of R153 and R155. -/
structure OrderEntry where
  slot : Nat
  participant : Nat
  kind : OrderKind
  watts : Nat
  sends : Nat
  sent : Bool
  waited : Nat
  turned : Bool
  sentAtHead : Bool
  deriving DecidableEq, Repr

/-- The order copy the queue hands the port with a HEAD (R152). -/
structure OrderCopy where
  slot : Nat
  serial : Nat
  kind : OrderKind
  watts : Nat
  deriving DecidableEq, Repr

/-- What a meter slot closed with (R8). -/
inductive SlotOutcome where
  | good | silent | garbled | checkFail | foreign | intruder | vacant | turned
  deriving DecidableEq, Repr

/-- What a QUIET slot closed with (R10). -/
inductive QuietOutcome where
  | nothing
  | announce (serial : Nat)
  | garbled
  deriving DecidableEq, Repr

/-- The NOTICE result of a round (R7, R11). -/
inductive NoticeResult where
  | ok | failed | skipped
  deriving DecidableEq, Repr

/-- The round status record (R11). -/
structure RoundRecord where
  number : RoundNumber
  headOk : Bool
  slotCount : Nat
  outcomes : List SlotOutcome
  orders : List (Nat × Bool)
  notice : NoticeResult
  quiet : QuietOutcome
  deriving DecidableEq, Repr

/-- What the round's NOTICE carried (R159, R160): the household part, the broadcast part alone because the prefetched
part is the mark DAMAGED, or the broadcast part alone for another reason. -/
inductive NoticeSent where
  | household | damaged | plain
  deriving DecidableEq, Repr

/-- The round in progress: the slot count read at its HEAD, and the record being built (R1, R5, R11). -/
structure Round where
  slotCount : Nat
  headOk : Bool
  copies : List OrderCopy
  outcomes : List SlotOutcome
  orders : List (Nat × Bool)
  notice : NoticeResult
  sentNotice : NoticeSent
  deriving DecidableEq, Repr

/-- Where a feeder port stands in its round. `headDue`, `orderDue` and `noticeDue` are the instants at which the window
of that kind is about to open; the others are open windows. -/
inductive Window where
  | shut
  | headDue
  | head
  | slot (number : Nat)
  | orderDue (number : Nat)
  | order (number : Nat)
  | noticeDue
  | notice
  | quiet
  deriving DecidableEq, Repr

/-- A feeder's state (section 1.5). -/
inductive FeederState where
  | off | running | holdPending | held
  deriving DecidableEq, Repr

/-- How an enrolment ended (R18, R19). -/
inductive EnrolEnding where
  | found (serial : Nat)
  | heardOther
  | notHeard
  deriving DecidableEq, Repr

/-- The condition of an enrolment register (R17). -/
inductive EnrolCondition where
  | free | listening
  | ended (ending : EnrolEnding)
  deriving DecidableEq, Repr

/-- An enrolment register (R17). `counted` is the number of QUIET slots counted; `counting` tells whether the QUIET
window now open counts (R18). -/
structure Enrolment where
  condition : EnrolCondition
  expected : Nat
  remaining : Nat
  others : Nat
  counted : Nat
  counting : Bool
  deriving DecidableEq, Repr

/-- The FREE register. -/
def Enrolment.free : Enrolment :=
  { condition := .free, expected := 0, remaining := 0, others := 0, counted := 0, counting := false }

/-- The household part of a NOTICE, as prefetched (R157, R158). -/
structure HouseholdPart where
  index : Nat
  credits : Int
  standing : Standing
  deriving DecidableEq, Repr

/-- The prefetch state of a Notice Builder with what it has prefetched (R157): `arrived none` is the mark DAMAGED. -/
inductive Prefetch where
  | none
  | waiting (target : Nat)
  | arrived (target : Nat) (part : Option HouseholdPart)
  deriving DecidableEq, Repr

/-- What a port does when its window in progress closes: cut its round short, because the power warning came within the
window (R20), or cut it short and act on keep-held, because a RESTART sequence has reached the port (R21). -/
inductive PortEnding where
  | cut
  | restart (keepHeld : Bool)
  deriving DecidableEq, Repr

/-- A feeder port with its Directed Queue and its Notice Builder. `restartDue` tells what the port does when its window
in progress closes, where it does not simply go on (R20, R21). `sending` is the message of the open send window, and
`driving` tells that the port sends in the open window: how long its line driver enable FDE is raised follows from the
message (R3, section 1.3; `FeederPort.drivesAt`). -/
structure FeederPort where
  state : FeederState
  number : RoundNumber
  last : Option RoundRecord
  round : Option Round
  window : Window
  sending : List Byte
  driving : Bool
  restartDue : Option PortEnding
  enrolment : Enrolment
  queue : List OrderEntry
  cursor : Nat
  prefetch : Prefetch
  deriving DecidableEq, Repr

/-- A feeder port after a hardware reset (R22, R156, R161). -/
def FeederPort.afterReset : FeederPort :=
  { state := .off, number := 0, last := none, round := none, window := .shut, sending := [], driving := false,
    restartDue := none, enrolment := .free, queue := [], cursor := 0, prefetch := .none }

/-! ### Activation Unit (chapter 4) -/

/-- The activation phase (R59). -/
inductive ActivationPhase where
  | idle | awaitBoundary | awaitQuiet | checking
  deriving DecidableEq, Repr

/-- The Activation Unit (R59). `toCheck` holds the indices check 11 has still to read while CHECKING. The object of the
failure report is an entry index, a band index, or a day class (0 WORK, 1 REST). -/
structure Activation where
  phase : ActivationPhase
  toCheck : List Nat
  marking : List Nat
  report : Option (Nat × Option Nat)
  deriving DecidableEq, Repr

/-! ### Day Clock and Book List (chapter 5) -/

/-- The Day Clock (R69). `boundaryDue` is the model's own: the clock has advanced to a multiple of the interval length
and the boundary search of that occasion has not yet run (log 9). -/
structure DayClock where
  day : Nat
  second : Nat
  weekday : Nat
  isSet : Bool
  mark : Mark
  openStart : Option Nat
  boundaryDue : Bool
  deriving DecidableEq, Repr

/-- The state of a book (R78). -/
inductive BookState where
  | collecting | waiting | settling | posting | held | posted | discarded
  deriving DecidableEq, Repr

/-- Why a book is HELD (R82). -/
inductive HoldReason where
  | range | systemDamaged
  deriving DecidableEq, Repr

/-- The band and prices a book captured (R53). -/
structure Capture where
  band : Nat
  gridPrice : Nat
  feedPrice : Nat
  share : Nat
  fee : Nat
  localPrice : Nat
  deriving DecidableEq, Repr

/-- The grid-tie figures of a book (R102). -/
structure GridFigures where
  gridImport : Nat
  gridExport : Nat
  loss : Int
  deriving DecidableEq, Repr

/-- The figures the Settlement Unit writes into a book record (R78). `grid` is absent when UNKNOWN. -/
structure Figures where
  settled : Nat
  missing : Nat
  rebased : Nat
  suspended : Nat
  excluded : Nat
  clamped : Nat
  totalSale : Nat
  totalPurchase : Nat
  localMatch : Nat
  excludedExport : Nat
  excludedImport : Nat
  grid : Option GridFigures
  residue : Nat
  localDebits : Nat
  localCredits : Nat
  gridDebits : Nat
  gridCredits : Nat
  deriving DecidableEq, Repr

/-- A member of a snapshot set: its index and its taken snapshot, or the mark missing (R31). -/
structure Member where
  index : Nat
  snapshot : Option Snapshot
  deriving DecidableEq, Repr

/-- A book record (R78). The snapshot set is empty until the end of collection; the discarded indicator of R87 is the
state DISCARDED. -/
structure Book where
  start : Nat
  close : Nat
  mark : Mark
  deadline : Nat
  state : BookState
  holdReason : Option HoldReason
  expected : List Nat
  members : List Member
  missing : Nat
  counterFaults : Nat
  capture : Option Capture
  figures : Option Figures
  owed : Bool
  deriving DecidableEq, Repr

/-! ### Settlement Unit (chapter 6) -/

/-- The treatment of a member (R32). -/
inductive Treatment where
  | missing | excluded | rebased | suspended | settled
  deriving DecidableEq, Repr

/-- The group of a member (R92). -/
inductive Group where
  | seller | buyer | neither
  deriving DecidableEq, Repr

/-- A new baseline (R33, R36); `clears` tells that the rebase flag is to be cleared with it (R103). -/
structure NewBaseline where
  exported : Counter
  imported : Counter
  minute : Nat
  clears : Bool
  deriving DecidableEq, Repr

/-- A member row of the work record (R90). `clamped` holds the raw deltas and the allowance of a clamped member. -/
structure MemberRow where
  index : Nat
  kind : ParticipantKind
  treatment : Treatment
  exportDelta : Nat
  importDelta : Nat
  clamped : Option (Nat × Nat × Nat)
  baseline : Option NewBaseline
  sale : Nat
  purchase : Nat
  group : Group
  localShare : Nat
  gridPart : Nat
  localAmount : Nat
  gridAmount : Nat
  deriving DecidableEq, Repr

/-- The direction of an amount, seen from the participant (R112). -/
inductive Direction where
  | debit | credit
  deriving DecidableEq, Repr

/-- An amount on its redirect walk: whom it is aimed at, and the account the walk has reached (R112). -/
structure Aim where
  participant : Nat
  direction : Direction
  amount : Nat
  reached : Nat
  deriving DecidableEq, Repr

/-- An item of the account change list (R103): `read` is the balance read and `balance` the new one, when the item changes
the balance. -/
structure ChangeItem where
  account : Nat
  read : Option Int
  net : Int
  balance : Option Int
  baseline : Option NewBaseline
  deriving DecidableEq, Repr

/-- Whether the Settlement Unit is reading (steps 1 and 2 of R91), walking redirects (step 3), or done. -/
inductive WorkStage where
  | reading | walking | done
  deriving DecidableEq, Repr

/-- The totals of the work record (R90): S, D, M, the excluded energy, and gi, ge and U, absent when UNKNOWN. -/
structure Totals where
  totalSale : Nat
  totalPurchase : Nat
  localMatch : Nat
  excludedExport : Nat
  excludedImport : Nat
  grid : Option GridFigures
  deriving DecidableEq, Repr

/-- The work record (R90). `totals` are absent until stages 1 to 6 have computed them. `copies` are the records read,
`none` for DAMAGED (the system reads among them); `toRead` the accounts still to be read; `aims` the amounts whose walk
has not ended; `landed` where amounts have landed. -/
structure Work where
  book : Nat
  stage : WorkStage
  copies : List (Nat × Option AccountRecord)
  toRead : List Nat
  rows : List MemberRow
  totals : Option Totals
  aims : List Aim
  landed : List (Nat × Int)
  changes : List ChangeItem
  deriving DecidableEq, Repr

/-! ### Posting Unit (chapter 7) -/

/-- The posting phase (section 7.4). -/
inductive PostingPhase where
  | idle | journal | apply | writeBack | clear
  deriving DecidableEq, Repr

/-- The Posting Unit (section 7.4). `images` are the journal entries built on entry into POSTING (R116); `durable`
tells whether the BOOK_READY header write has completed; `recheck` is the recheck list (R121). -/
structure Posting where
  phase : PostingPhase
  book : Option Nat
  cursor : Nat
  images : List Image
  durable : Bool
  recheck : List (Nat × Standing)
  deriving DecidableEq, Repr

/-! ### Account memory, its port and the cache (chapter 8) -/

/-- The journal state of a header (R128). -/
inductive JournalState where
  | empty | bookReady | transferReady
  deriving DecidableEq, Repr

/-- The fields of a header but for its marker and check word (R128). -/
structure Header where
  lastPosted : Option Nat
  journal : JournalState
  book : Option Nat
  count : Nat
  deriving DecidableEq, Repr

/-- A cache line that is valid (R136): `record := none` is the mark DAMAGED. -/
structure CacheLine where
  tag : Nat
  record : Option AccountRecord
  dirty : Bool
  locked : Bool
  deriving DecidableEq, Repr

/-- The account cache: its 32 lines (`none` is an invalid line) and the use order, most recently used line first
(R136). -/
structure Cache where
  lines : Vector (Option CacheLine) 32
  order : List Nat
  deriving DecidableEq, Repr

/-- The cache with every line invalid (R148). -/
def Cache.empty : Cache := { lines := Vector.replicate 32 none, order := [] }

/-- Who asks for a fill (R137, R142). -/
inductive Reader where
  | settlement | activation | command
  | notice (feeder : Feeder)
  deriving DecidableEq, Repr

/-- Who writes the journal (R116, R124). -/
inductive JournalUser where
  | posting | transfer
  deriving DecidableEq, Repr

/-- The occasions of a write-back that is a grant of its own (R139). -/
inductive WriteBackUse where
  | powerFlush | restartFlush
  | postingVictim (image : Image)
  | postingWriteBack | transfer | flush
  deriving DecidableEq, Repr

/-- An operation granted the account memory port (section 8.6). A fill holds the record of its dirty victim, which its
unit writes back first (R138). -/
inductive PortOp where
  | fill (reader : Reader) (account : Nat) (line : Nat) (victim : Option (Nat × AccountRecord))
  | writeBack (purpose : WriteBackUse) (line : Nat) (account : Nat)
  | journalEntry (user : JournalUser) (place : Nat) (image : Image)
  | journalHeader (user : JournalUser) (header : Header)
  | journalClear (user : JournalUser) (header : Header)
  | repairRecord (account : Nat) (record : AccountRecord)
  | startupHeaderRead
  | journalVerifyRead (place : Nat)
  | replayRecord (account : Nat) (record : AccountRecord)
  | startupHeaderWrite (header : Header)
  | initHeader (final : Bool)
  | initRecord (account : Nat)
  | initReadback
  deriving DecidableEq, Repr

/-- How start-up leaves a journal (R132, R133). -/
inductive ReplayOutcome where
  | replayed
  | lost (place : Nat)
  deriving DecidableEq, Repr

/-- Where start-up stands (R131 to R133). -/
inductive Startup where
  | idle
  | readingHeader
  | verifying (header : Header) (seen : List (Nat × AccountRecord))
  | writing (header : Header) (toWrite : List (Nat × AccountRecord))
  | closing (header : Header) (outcome : ReplayOutcome)
  deriving DecidableEq, Repr

/-- The memory state (R130). -/
inductive MemoryState where
  | notReady | ready
  deriving DecidableEq, Repr

/-- The Account Memory Port: memory state, header copy (`none` when empty), the operation in progress, and start-up
(R130, R131, R143). -/
structure MemoryPort where
  state : MemoryState
  header : Option Header
  inProgress : Option PortOp
  startup : Startup
  deriving DecidableEq, Repr

/-! ### Station link and commands (chapter 10) -/

/-- The receive side (R162): the bytes received since the start byte while ASSEMBLING. -/
inductive ReceiveSide where
  | hunting
  | assembling (bytes : List Byte)
  deriving DecidableEq, Repr

/-- A COMMAND frame's body as R166 and R191 read it: a body that names no command (with the code it holds, if any), a
parameter fault of the command of that code, or a command. -/
inductive Request where
  | unknown (code : Option Byte)
  | faulty (code : Byte)
  | command (command : Command)
  deriving DecidableEq, Repr

/-- A buffered COMMAND frame (R164). -/
structure Buffered where
  tag : Byte
  request : Request
  deriving DecidableEq, Repr

/-- The outcome class of a result (R168). -/
inductive OutcomeClass where
  | done | cut | refused
  deriving DecidableEq, Repr

/-- Whether a frame is the RESULT of RESTART, after whose sending the sequence begins (R174), or one whose sequence the
power warning has overtaken. -/
inductive RestartMark where
  | absent
  | commanded (keepHeld : Bool)
  | overtaken
  deriving DecidableEq, Repr

/-- A RESULT as built, before the indicators are taken (R167). `overflow` is the attention overflow indicator that a
SENSE ATTENTION result reports in place of its value when queued (R173). -/
structure CommandResult where
  code : Byte
  outcome : OutcomeClass
  detail : Nat
  fields : List Byte
  overflow : Option Bool
  restart : RestartMark
  deriving DecidableEq, Repr

/-- A frame in the outbound queue (R170). -/
structure OutFrame where
  kind : Byte
  tag : Byte
  body : List Byte
  restart : RestartMark
  deriving DecidableEq, Repr

/-- Why a command is cut (R168, R169). -/
inductive CutReason where
  | quiesced | restart
  deriving DecidableEq, Repr

/-- What has been asked of a SWEEP or SCAN in its execution phase (R165, R187). -/
inductive RunEnding where
  | goingOn | stopped
  | cut (reason : CutReason)
  deriving DecidableEq, Repr

/-- A SWEEP ACCOUNTS in its execution phase (R186): the account in hand, the counts, the BLOCK that waits for room. -/
structure SweepRun where
  order : SweepOrder
  inHand : Nat
  visited : Nat
  blocks : Nat
  damaged : Nat
  lastVisited : Option Nat
  block : Option (List Byte)
  ending : RunEnding
  deriving DecidableEq, Repr

/-- A SCAN ACCOUNTS in its execution phase (R188). `tested` tells that the account in hand has passed the suspended test
and is being read. -/
structure ScanRun where
  order : ScanOrder
  inHand : Nat
  tested : Bool
  visited : Nat
  suspended : Nat
  damaged : Nat
  lastVisited : Option Nat
  ending : RunEnding
  deriving DecidableEq, Repr

/-- Where the executing command stands: in its execution phase at some step of its own rule, or in its result phase. -/
inductive Run where
  /-- Taken by the Command Unit and being decided; it stands so within a step only. -/
  | deciding
  | readAccount (account : Nat)
  | sweep (run : SweepRun)
  | scan (run : ScanRun)
  | rebaseWait (index : Nat)
  | rebaseRead (index : Nat)
  | transferWait (order : TransferOrder)
  | transferPayer (order : TransferOrder)
  | transferPayee (order : TransferOrder)
  | transferJournal (order : TransferOrder) (images : List Image) (cursor : Nat)
  | transferHeader (order : TransferOrder) (images : List Image)
  | transferWriteBack (order : TransferOrder) (images : List Image) (cursor : Nat)
  | transferClear (order : TransferOrder) (images : List Image)
  | repairWait (order : RepairOrder)
  | repairRead (order : RepairOrder)
  | repairWrite (order : RepairOrder)
  | flush (toWrite : List Nat) (count : Nat)
  | initWait
  | initHeader
  | initRecords (next : Nat)
  | initFinal
  | initReadback
  /-- Cut, with an operation of the command still in progress on the port; FLUSH carries its count. -/
  | cutting (reason : CutReason) (flushed : Option Nat)
  | result (built : CommandResult)
  deriving DecidableEq, Repr

/-- The executing command (R164). -/
structure Executing where
  tag : Byte
  code : Byte
  run : Run
  deriving DecidableEq, Repr

/-- The Station Link Unit and the Command Unit. `restartHold`: the RESULT of RESTART has been queued and step 9 of the
sequence has not come (R164). -/
structure StationLink where
  receive : ReceiveSide
  discardsSeen : Bool
  overrun : Bool
  executing : Option Executing
  waiting : List Buffered
  restartHold : Bool
  outbound : List OutFrame
  deriving DecidableEq, Repr

/-- The steps of a RESTART sequence that take time, with keep-held (R175): 5, 7, and 8. -/
inductive Sequence where
  | none
  | flush (keepHeld : Bool)
  | startup (keepHeld : Bool)
  | ports (keepHeld : Bool)
  deriving DecidableEq, Repr

/-! ### Attention List (R172) -/

/-- An event the station is told of, with its object and detail: the kinds of the table of section 10.5. -/
inductive Attention where
  | enrolDone (feeder : Nat) (ending : EnrolEnding) (others : Nat) (counted : Nat)
  | activated (marked : Nat) (state : EngineState)
  | activateFailed (check : Nat) (object : Option Nat)
  | bookHeld (start : Nat) (reason : HoldReason) (account : Nat)
  | bookMerged (candidate : Nat) (openStart : Nat)
  | absent (participant : Nat) (run : Nat)
  | snapshotChanged (participant : Nat) (taken : Snapshot) (exported imported : Counter) (round : RoundNumber)
  | clamped (participant : Nat) (rawExport rawImport allowed : Nat)
  | foreignMeter (feeder slot : Nat) (serial : Nat) (round : RoundNumber)
  | tamper (participant : Nat) (feeder slot : Nat) (round : RoundNumber)
  | arrears (account : Nat) (balance creditFloor : Int)
  | orderUnconfirmed (participant : Nat) (feeder slot : Nat) (kind : OrderKind) (watts sends : Nat)
  | queueFull (feeder : Nat) (slot : Nat) (kind : OrderKind)
  | damaged (account : Nat) (reader : Reader)
  | redirectToSuspense (participant : Nat) (book : Nat) (account : Nat) (direction : Direction)
  | journalReplayed (journal : JournalState) (book : Option Nat) (count : Nat)
  | journalLost (journal : JournalState) (book : Option Nat) (count : Nat) (place : Nat)
  deriving DecidableEq, Repr

/-- An attention item (R172). -/
structure AttentionItem where
  event : Attention
  repeats : Nat
  deriving DecidableEq, Repr

/-- The Attention List (R172). -/
structure AttentionList where
  items : List AttentionItem
  overflow : Bool
  deriving DecidableEq, Repr

/-! ### The whole machine -/

/-- The machine. `before` is the engine state to which QUIESCED returns (R145); `powerWarning` is the input PWARN*
asserted; `memory` is the external account memory's contents; `freeCount` (the free values already drawn) and `pending`
(the commands and events not yet taken, first in first out) are the model's own. -/
structure State where
  engine : EngineState
  before : EngineState
  powerWarning : Bool
  sequence : Sequence
  active : TableSet
  staged : TableSet
  live : Vector LiveState 192
  ports : Vector FeederPort 4
  activation : Activation
  clock : DayClock
  books : List Book
  work : Option Work
  posting : Posting
  memory : List Host.Cell
  port : MemoryPort
  cache : Cache
  link : StationLink
  attention : AttentionList
  freeCount : Nat
  pending : List Instr
  deriving DecidableEq, Repr

/-- Start-up at its first operation: the memory state NOT_READY, the header copy empty, and the header read granted
(R131, R148). -/
def MemoryPort.starting : MemoryPort :=
  { state := .notReady, header := none, inProgress := some .startupHeaderRead, startup := .readingHeader }

/-- The Account Memory Port after a hardware reset with the power-warning input still asserted: start-up waits for the
RESTART sequence at the release (R145). -/
def MemoryPort.waiting : MemoryPort :=
  { state := .notReady, header := none, inProgress := none, startup := .idle }

/-- The engine after a hardware reset, over the account memory's contents, the level of the power-warning input and the
events still waiting (R22, R24, R41, R68, R69, R90, R127, R145, R148, R156, R161, R178). -/
def State.afterHardwareReset (memory : List Host.Cell) (powerWarning : Bool) (freeCount : Nat) (pending : List Instr) :
    State :=
  { engine := if powerWarning then .quiesced else .unconfigured
    before := .unconfigured
    powerWarning := powerWarning
    sequence := .none
    active := .empty
    staged := .empty
    live := Vector.replicate 192 .initial
    ports := Vector.replicate 4 .afterReset
    activation := { phase := .idle, toCheck := [], marking := [], report := none }
    clock := { day := 0, second := 0, weekday := 0, isSet := false, mark := 0, openStart := none, boundaryDue := false }
    books := []
    work := none
    posting := { phase := .idle, book := none, cursor := 0, images := [], durable := false, recheck := [] }
    memory := memory
    port := if powerWarning then .waiting else .starting
    cache := .empty
    link := { receive := .hunting, discardsSeen := false, overrun := false, executing := none, waiting := [],
              restartHold := false, outbound := [] }
    attention := { items := [], overflow := false }
    freeCount := freeCount
    pending := pending }

/-- The machine right after reset: nothing has ever been written to account memory, the power-warning input is
released, and start-up has asked for the header. -/
def State.reset : State := State.afterHardwareReset [] false 0 []

end Sys2Proof.Machine
end

