-- ==== Sys2Proof/Machine/Operands.lean ====
section
/-! DEFINITION. How values become bytes and bytes become values (chapter 12): the coding of fields, the check code, the
station commands, station frames, the messages of a meter loop and the judging of what a window heard. -/

namespace Sys2Proof.Machine

/-! ### Fields (section 12.3): most significant byte first -/

/-- `n` bytes of a value, most significant byte first. -/
def be : Nat → Nat → List Byte
  | 0, _ => []
  | n + 1, v => BitVec.ofNat 8 (v / 256 ^ n) :: be n v

/-- `n` bytes of a signed value in two's complement. -/
def signedBe (n : Nat) (v : Int) : List Byte := be n (v % (256 ^ n : Nat)).toNat

/-- The unsigned value of some bytes. -/
def fromBe (bytes : List Byte) : Nat := bytes.foldl (fun v b => v * 256 + b.toNat) 0

/-- The value of some bytes in two's complement. -/
def fromSignedBe (bytes : List Byte) : Int :=
  if 2 * fromBe bytes < 256 ^ bytes.length then fromBe bytes else (fromBe bytes : Int) - (256 ^ bytes.length : Nat)

/-- The `n` bytes at an offset. -/
def slice (bytes : List Byte) (offset n : Nat) : List Byte := (bytes.drop offset).take n

/-- The unsigned field of `n` bytes at an offset. -/
def field (bytes : List Byte) (offset n : Nat) : Nat := fromBe (slice bytes offset n)

/-- A flag: 0 clear or no, 1 set or yes. -/
def flagByte (b : Bool) : Byte := if b then 1 else 0

/-- The flag a byte holds; a byte that is neither 0 nor 1 holds none. -/
def flagOf (n : Nat) : Option Bool := if n = 0 then some false else if n = 1 then some true else none

/-- A field that may be absent: its presence byte, then its bytes, which are 0 when it is absent. -/
def presence {α : Type} (size : Nat) (code : α → List Byte) : Option α → List Byte
  | some v => 1 :: code v
  | none => 0 :: List.replicate size 0

/-- Whether some bytes are all 0. -/
def allZero (bytes : List Byte) : Bool := bytes.all (· == 0)

/-! ### Enumerations: the position of the value in its owning rule's list -/

def kindCode : ParticipantKind → Nat
  | .vacant => 0 | .household => 1 | .store => 2 | .gridTie => 3

def kindOf : Nat → Option ParticipantKind
  | 0 => some .vacant | 1 => some .household | 2 => some .store | 3 => some .gridTie | _ => none

def statusCode : ParticipantStatus → Nat
  | .active => 0 | .suspended => 1

def statusOf : Nat → Option ParticipantStatus
  | 0 => some .active | 1 => some .suspended | _ => none

def scopeCode : RedirectScope → Nat
  | .debits => 0 | .credits => 1 | .all => 2

def scopeOf : Nat → Option RedirectScope
  | 0 => some .debits | 1 => some .credits | 2 => some .all | _ => none

def dayClassCode : DayClass → Nat
  | .work => 0 | .rest => 1

def dayClassOf : Nat → Option DayClass
  | 0 => some .work | 1 => some .rest | _ => none

def bandClassCode : BandClass → Nat
  | .work => 0 | .rest => 1 | .both => 2

def bandClassOf : Nat → Option BandClass
  | 0 => some .work | 1 => some .rest | 2 => some .both | _ => none

def copyCode : TableCopy → Nat
  | .active => 0 | .staged => 1

def copyOf : Nat → Option TableCopy
  | 0 => some .active | 1 => some .staged | _ => none

def filterCode : SweepFilter → Nat
  | .all => 0 | .nonzero => 1 | .arrears => 2 | .damaged => 3

def filterOf : Nat → Option SweepFilter
  | 0 => some .all | 1 => some .nonzero | 2 => some .arrears | 3 => some .damaged | _ => none

def comparisonCode : Comparison → Nat
  | .equal => 0 | .atMost => 1 | .atLeast => 2

def comparisonOf : Nat → Option Comparison
  | 0 => some .equal | 1 => some .atMost | 2 => some .atLeast | _ => none

def modeCode : TransferMode → Nat
  | .checked => 0 | .forced => 1

def modeOf : Nat → Option TransferMode
  | 0 => some .checked | 1 => some .forced | _ => none

def standingCode : Standing → Nat
  | .current => 0 | .arrears => 1

def standingOf : Nat → Option Standing
  | 0 => some .current | 1 => some .arrears | _ => none

def engineCode : EngineState → Nat
  | .unconfigured => 0 | .running => 1 | .quiesced => 2

def phaseCode : ActivationPhase → Nat
  | .idle => 0 | .awaitBoundary => 1 | .awaitQuiet => 2 | .checking => 3

def feederStateCode : FeederState → Nat
  | .off => 0 | .running => 1 | .holdPending => 2 | .held => 3

def outcomeCode : SlotOutcome → Nat
  | .good => 0 | .silent => 1 | .garbled => 2 | .checkFail => 3 | .foreign => 4 | .intruder => 5 | .vacant => 6
  | .turned => 7

def noticeCode : NoticeResult → Nat
  | .ok => 0 | .failed => 1 | .skipped => 2

def bookStateCode : BookState → Nat
  | .collecting => 0 | .waiting => 1 | .settling => 2 | .posting => 3 | .held => 4 | .posted => 5 | .discarded => 6

/-- The hold reason as the STATEMENT codes it: 0 is absent (section 12.3). -/
def holdReasonCode : Option HoldReason → Nat
  | none => 0 | some .range => 1 | some .systemDamaged => 2

def orderKindCode : OrderKind → Nat
  | .limit => 0 | .release => 1

def journalCode : JournalState → Nat
  | .empty => 0 | .bookReady => 1 | .transferReady => 2

def journalOf : Nat → Option JournalState
  | 0 => some .empty | 1 => some .bookReady | 2 => some .transferReady | _ => none

def memoryCode : MemoryState → Nat
  | .notReady => 0 | .ready => 1

def readerCode : Reader → Nat
  | .settlement => 0 | .activation => 1 | .command => 2 | .notice _ => 3

def directionCode : Direction → Nat
  | .debit => 0 | .credit => 1

def outcomeClassCode : OutcomeClass → Nat
  | .done => 0 | .cut => 1 | .refused => 2

/-- A minute count that may be absent: five bytes. -/
def minuteField (m : Option Nat) : List Byte := presence 4 (be 4) m

/-! ### The check code (R189) -/

/-- One bit of the check code: shift left, and exclusive-or the generator when the bit shifted out differs. -/
def crcBit (register : CheckCode) (bit : Bool) : CheckCode :=
  if register.msb != bit then (register <<< 1) ^^^ 0x1021#16 else register <<< 1

/-- The bits of a byte, most significant first. -/
def bitsHighFirst (b : Byte) : List Bool := [7, 6, 5, 4, 3, 2, 1, 0].map b.getLsbD

/-- The check code over some bytes. -/
def checkCode (bytes : List Byte) : CheckCode := (bytes.flatMap bitsHighFirst).foldl crcBit 0xFFFF#16

/-- Some bytes with their check code after them, high byte first. -/
def withCheck (bytes : List Byte) : List Byte := bytes ++ be 2 (checkCode bytes).toNat

/-- Whether the last two bytes are the check code of those before them. -/
def checkGood (bytes : List Byte) : Bool :=
  2 ≤ bytes.length && bytes == withCheck (bytes.take (bytes.length - 2))

/-! ### Station commands (the command table of section 12.3, R191) -/

/-- The command code. -/
def commandCode : Command → Nat
  | .readAccount _ => 0x01 | .readParticipant _ _ => 0x02 | .readFeeder _ _ => 0x03 | .readBand _ _ => 0x04
  | .readBook _ _ => 0x05 | .readRoundStatus _ => 0x06 | .readClock => 0x07 | .readEngine => 0x08
  | .sweepAccounts _ => 0x09 | .scanAccounts _ => 0x0A
  | .hold _ => 0x10 | .resume _ => 0x11 | .enrol _ _ _ => 0x12 | .rebase _ => 0x18
  | .stageParticipant _ _ => 0x20 | .stageFeeder _ _ => 0x21 | .stageGeneral _ _ => 0x22 | .stageBand _ _ => 0x23
  | .clearBands => 0x24 | .stageCopy => 0x25 | .activate => 0x26 | .disarm => 0x27
  | .setClock _ _ _ => 0x30 | .releaseBook _ => 0x31 | .discardBook _ => 0x32
  | .transfer _ => 0x40 | .repairAccount _ => 0x41 | .flush => 0x48 | .initAccountMemory => 0x49
  | .senseAttention => 0x50 | .restart _ => 0x51

/-- The codes that name a command. -/
def commandCodes : List Nat :=
  [0x01, 0x02, 0x03, 0x04, 0x05, 0x06, 0x07, 0x08, 0x09, 0x0A, 0x10, 0x11, 0x12, 0x18, 0x20, 0x21, 0x22, 0x23, 0x24, 0x25,
   0x26, 0x27, 0x30, 0x31, 0x32, 0x40, 0x41, 0x48, 0x49, 0x50, 0x51]

/-- The staging commands (R54), whose ARMED step stands before their BAD_PARAMETER step. -/
def stagingCodes : List Nat := [0x20, 0x21, 0x22, 0x23, 0x24, 0x25]

/-- Whether every parameter of an entry lies in its field's range (R42, R55). -/
def entryInRange (e : ParticipantEntry) : Bool :=
  1 ≤ e.serial && e.serial ≤ 4294967295 && e.feeder ≤ 3 && e.slot ≤ 47 && 1 ≤ e.ceiling && e.ceiling ≤ 65535 &&
  decide (-1099511627776 ≤ e.creditFloor) && decide (e.creditFloor ≤ 0) && e.limit ≤ 65535 &&
  (match e.redirect with | none => true | some r => r.target ≤ 191)

/-- Whether every field of a band lies in its range (R51). -/
def bandInRange (b : Band) : Bool :=
  b.start ≤ 1439 && b.gridPrice ≤ 999999 && b.feedPrice ≤ 999999 && b.share ≤ 256 && b.fee ≤ 99999

/-- Whether a general entry lies in its range (R49, R56). -/
def generalInRange (g : GeneralEntry) : Bool :=
  [5, 10, 15, 30, 60].contains g.interval && 10 ≤ g.grace && g.grace ≤ 600

/-- Whether a balance or threshold lies within ±(2^47 − 1) mc. -/
def balanceInRange (b : Int) : Bool := decide (-Config.balanceLimit ≤ b) && decide (b ≤ Config.balanceLimit)

/-- Whether a run of accounts is well named (R186, R188). -/
def runInRange (first last step : Nat) : Bool := first ≤ last && last ≤ 195 && 1 ≤ step && step ≤ 16

/-- Whether every parameter lies in the range its rule gives: the BAD_PARAMETER step of the command's rule. -/
def commandInRange : Command → Bool
  | .readAccount a => a ≤ 195
  | .readParticipant i _ => i ≤ 191
  | .readFeeder f _ => f ≤ 3
  | .readBand p _ => p ≤ 11
  | .readBook sel part =>
      (match sel with | .startMinute m => m ≤ Config.lastMinute | .newest => true) &&
      (match part with | .summary => true | .members p => p ≤ 191)
  | .readRoundStatus f => f ≤ 3
  | .readClock => true
  | .readEngine => true
  | .sweepAccounts o => runInRange o.first o.last o.step
  | .scanAccounts o => runInRange o.first o.last o.step && balanceInRange o.threshold
  | .hold f => f ≤ 3
  | .resume f => f ≤ 3
  | .enrol f n s => f ≤ 3 && 1 ≤ n && n ≤ 255 && s ≤ 4294967295
  | .rebase i => i ≤ 191
  | .stageParticipant i e => i ≤ 191 && entryInRange e
  | .stageFeeder f e => f ≤ 3 && e.slotCount ≤ 48
  | .stageGeneral g _ => generalInRange g
  | .stageBand p b => p ≤ 11 && (match b with | none => true | some b => bandInRange b)
  | .clearBands => true
  | .stageCopy => true
  | .activate => true
  | .disarm => true
  | .setClock d s w => d ≤ 65535 && s ≤ 86399 && w ≤ 6
  | .releaseBook m => m ≤ Config.lastMinute
  | .discardBook m => m ≤ Config.lastMinute
  | .transfer o =>
      o.payer ≤ 195 && o.payee ≤ 195 && 1 ≤ o.amount && o.amount ≤ 1099511627776 && o.payer != o.payee &&
      o.payer != Config.clearing && o.payee != Config.clearing
  | .repairAccount o =>
      o.account ≤ 195 && balanceInRange o.balance && o.baseExport ≤ 4294967295 && o.baseImport ≤ 4294967295 &&
      (match o.baseMinute with | none => true | some m => m ≤ Config.lastMinute) &&
      (o.account != Config.clearing || decide (o.balance = 0)) && (o.account ≤ 191 || o.standing == .current)
  | .flush => true
  | .initAccountMemory => true
  | .senseAttention => true
  | .restart _ => true

/-- The parameters of a command as the station sends them. -/
def commandParameters : Command → List Byte
  | .readAccount a => be 1 a
  | .readParticipant i c => be 1 i ++ be 1 (copyCode c)
  | .readFeeder f c => be 1 f ++ be 1 (copyCode c)
  | .readBand p c => be 1 p ++ be 1 (copyCode c)
  | .readBook sel part =>
      (match sel with | .startMinute m => be 1 0 ++ be 4 m | .newest => be 1 1 ++ be 4 0) ++
      (match part with | .summary => be 1 0 ++ be 1 0 | .members p => be 1 1 ++ be 1 p)
  | .readRoundStatus f => be 1 f
  | .readClock => []
  | .readEngine => []
  | .sweepAccounts o => be 1 o.first ++ be 1 o.last ++ be 1 o.step ++ be 1 (filterCode o.filter)
  | .scanAccounts o =>
      be 1 o.first ++ be 1 o.last ++ be 1 o.step ++ be 1 (comparisonCode o.comparison) ++ signedBe 6 o.threshold ++
      [flagByte o.skipSuspended]
  | .hold f => be 1 f
  | .resume f => be 1 f
  | .enrol f n s => be 1 f ++ be 1 n ++ be 4 s
  | .rebase i => be 1 i
  | .stageParticipant i e =>
      be 1 i ++ be 1 (kindCode e.kind) ++ be 1 (statusCode e.status) ++ be 4 e.serial ++ be 1 e.feeder ++ be 1 e.slot ++
      be 2 e.ceiling ++ signedBe 6 e.creditFloor ++ be 2 e.limit ++
      presence 2 (fun r : Redirect => be 1 r.target ++ be 1 (scopeCode r.scope)) e.redirect
  | .stageFeeder f e => be 1 f ++ [flagByte e.enabled] ++ be 1 e.slotCount
  | .stageGeneral g w => be 1 g.interval ++ be 2 g.grace ++ w.toList.flatMap (fun c => be 1 (dayClassCode c))
  | .stageBand p b =>
      be 1 p ++ presence 14 (fun b : Band => be 1 (bandClassCode b.dayClass) ++ be 2 b.start ++ be 3 b.gridPrice ++
        be 3 b.feedPrice ++ be 2 b.share ++ be 3 b.fee) b
  | .clearBands => []
  | .stageCopy => []
  | .activate => []
  | .disarm => []
  | .setClock d s w => be 2 d ++ be 4 s ++ be 1 w
  | .releaseBook m => be 4 m
  | .discardBook m => be 4 m
  | .transfer o => be 1 o.payer ++ be 1 o.payee ++ be 6 o.amount ++ be 1 (modeCode o.mode)
  | .repairAccount o =>
      be 1 o.account ++ signedBe 6 o.balance ++ be 4 o.baseExport ++ be 4 o.baseImport ++ minuteField o.baseMinute ++
      be 1 (standingCode o.standing)
  | .flush => []
  | .initAccountMemory => []
  | .senseAttention => []
  | .restart k => [flagByte k]

/-- The body of a command's COMMAND frame. -/
def commandBody (c : Command) : List Byte := be 1 (commandCode c) ++ commandParameters c

/-- The optional field behind a presence byte at an offset: `none` is a parameter fault (R191). -/
def optionalAt {α : Type} (p : List Byte) (offset size : Nat) (read : Option α) : Option (Option α) :=
  match flagOf (field p offset 1) with
  | none => none
  | some false => if allZero (slice p (offset + 1) size) then some none else none
  | some true => read.map some

/-- The parameters of the command that a code names, when the bytes are exactly as long as its row lists and every
enumeration, flag and presence byte holds a value (R191); `none` is a parameter fault. Ranges are `commandInRange`'s. -/
def parseParameters (code : Nat) (p : List Byte) : Option Command :=
  let exactly (n : Nat) (c : Option Command) : Option Command := if p.length = n then c else none
  match code with
  | 0x01 => exactly 1 (some (.readAccount (field p 0 1)))
  | 0x02 => exactly 2 ((copyOf (field p 1 1)).map (.readParticipant (field p 0 1)))
  | 0x03 => exactly 2 ((copyOf (field p 1 1)).map (.readFeeder (field p 0 1)))
  | 0x04 => exactly 2 ((copyOf (field p 1 1)).map (.readBand (field p 0 1)))
  | 0x05 =>
      let selector : Option BookSelector :=
        match field p 0 1 with | 0 => some (.startMinute (field p 1 4)) | 1 => some .newest | _ => none
      let part : Option BookPart :=
        match field p 5 1 with | 0 => some .summary | 1 => some (.members (field p 6 1)) | _ => none
      exactly 7 (selector.bind fun s => part.map fun t => .readBook s t)
  | 0x06 => exactly 1 (some (.readRoundStatus (field p 0 1)))
  | 0x07 => exactly 0 (some .readClock)
  | 0x08 => exactly 0 (some .readEngine)
  | 0x09 =>
      exactly 4 ((filterOf (field p 3 1)).map fun f =>
        .sweepAccounts { first := field p 0 1, last := field p 1 1, step := field p 2 1, filter := f })
  | 0x0A =>
      exactly 11 ((comparisonOf (field p 3 1)).bind fun c => (flagOf (field p 10 1)).map fun k =>
        .scanAccounts { first := field p 0 1, last := field p 1 1, step := field p 2 1, comparison := c,
                        threshold := fromSignedBe (slice p 4 6), skipSuspended := k })
  | 0x10 => exactly 1 (some (.hold (field p 0 1)))
  | 0x11 => exactly 1 (some (.resume (field p 0 1)))
  | 0x12 => exactly 6 (some (.enrol (field p 0 1) (field p 1 1) (field p 2 4)))
  | 0x18 => exactly 1 (some (.rebase (field p 0 1)))
  | 0x20 =>
      let redirect : Option (Option Redirect) :=
        optionalAt p 19 2 ((scopeOf (field p 21 1)).map fun s => { target := field p 20 1, scope := s })
      exactly 22 ((kindOf (field p 1 1)).bind fun kind => (statusOf (field p 2 1)).bind fun status =>
        redirect.map fun r => .stageParticipant (field p 0 1)
          { kind := kind, status := status, serial := field p 3 4, feeder := field p 7 1, slot := field p 8 1,
            ceiling := field p 9 2, creditFloor := fromSignedBe (slice p 11 6), limit := field p 17 2, redirect := r })
  | 0x21 =>
      exactly 3 ((flagOf (field p 1 1)).map fun e => .stageFeeder (field p 0 1) { enabled := e, slotCount := field p 2 1 })
  | 0x22 =>
      exactly 10 ((dayClassOf (field p 3 1)).bind fun d0 => (dayClassOf (field p 4 1)).bind fun d1 =>
        (dayClassOf (field p 5 1)).bind fun d2 => (dayClassOf (field p 6 1)).bind fun d3 =>
        (dayClassOf (field p 7 1)).bind fun d4 => (dayClassOf (field p 8 1)).bind fun d5 =>
        (dayClassOf (field p 9 1)).map fun d6 =>
          .stageGeneral { interval := field p 0 1, grace := field p 1 2 } #v[d0, d1, d2, d3, d4, d5, d6])
  | 0x23 =>
      let band : Option (Option Band) :=
        optionalAt p 1 14 ((bandClassOf (field p 2 1)).map fun c =>
          { dayClass := c, start := field p 3 2, gridPrice := field p 5 3, feedPrice := field p 8 3, share := field p 11 2,
            fee := field p 13 3 })
      exactly 16 (band.map (.stageBand (field p 0 1)))
  | 0x24 => exactly 0 (some .clearBands)
  | 0x25 => exactly 0 (some .stageCopy)
  | 0x26 => exactly 0 (some .activate)
  | 0x27 => exactly 0 (some .disarm)
  | 0x30 => exactly 7 (some (.setClock (field p 0 2) (field p 2 4) (field p 6 1)))
  | 0x31 => exactly 4 (some (.releaseBook (field p 0 4)))
  | 0x32 => exactly 4 (some (.discardBook (field p 0 4)))
  | 0x40 =>
      exactly 9 ((modeOf (field p 8 1)).map fun m =>
        .transfer { payer := field p 0 1, payee := field p 1 1, amount := field p 2 6, mode := m })
  | 0x41 =>
      exactly 21 ((optionalAt p 15 4 (some (field p 16 4))).bind fun minute => (standingOf (field p 20 1)).map fun s =>
        .repairAccount { account := field p 0 1, balance := fromSignedBe (slice p 1 6), baseExport := field p 7 4,
                         baseImport := field p 11 4, baseMinute := minute, standing := s })
  | 0x48 => exactly 0 (some .flush)
  | 0x49 => exactly 0 (some .initAccountMemory)
  | 0x50 => exactly 0 (some .senseAttention)
  | 0x51 => exactly 1 ((flagOf (field p 0 1)).map .restart)
  | _ => none

/-- A command with its BAD_PARAMETER step decided: a parameter out of range is a fault of that command (R166, R191). -/
def Request.ofCommand (c : Command) : Request :=
  if commandInRange c then .command c else .faulty (BitVec.ofNat 8 (commandCode c))

/-- What the Command Unit reads in a COMMAND body (R166, R191). -/
def requestOf (body : List Byte) : Request :=
  match body with
  | [] => .unknown none
  | code :: p =>
    if commandCodes.contains code.toNat then
      match parseParameters code.toNat p with
      | some c => Request.ofCommand c
      | none => .faulty code
    else .unknown (some code)

/-! ### Station frames (section 10.1) -/

/-- The kind codes the engine accepts and sends (section 12.3). -/
def commandKind : Byte := 0x01
def stopKind : Byte := 0x02
def resultKind : Byte := 0x81
def blockKind : Byte := 0x82
def statementKind : Byte := 0x83

/-- A frame's bytes on the link. -/
def frameBytes (kind tag : Byte) (body : List Byte) : List Byte :=
  Config.startByte :: withCheck (be 1 body.length ++ [kind, tag] ++ body)

/-- The bytes of a frame in the outbound queue. -/
def OutFrame.bytes (f : OutFrame) : List Byte := frameBytes f.kind f.tag f.body

/-! ### Messages of a meter loop (section 12.2, R190) -/

def headKind : Byte := 0x51
def reportKind : Byte := 0x52
def orderKind : Byte := 0x53
def noticeKind : Byte := 0x54
def announceKind : Byte := 0x55

/-- Length of a REPORT and of an ANNOUNCE (section 12.2). -/
def reportLength : Nat := 17
def announceLength : Nat := 7

/-- The HEAD of a round: feeder, round number, close mark and the turned list, padded with FFh (R5, R190). -/
def headMessage (feeder : Feeder) (number : RoundNumber) (mark : Mark) (turned : List Nat) : List Byte :=
  withCheck ([headKind] ++ be 1 feeder.val ++ be 2 number.toNat ++ be 1 mark.toNat ++ be 1 turned.length ++
    turned.flatMap (be 1) ++ List.replicate (4 - turned.length) 0xFF)

/-- The ORDER of an order copy (R6, R152, R190). -/
def orderMessage (c : OrderCopy) : List Byte :=
  withCheck ([orderKind] ++ be 4 c.serial ++ be 1 c.slot ++ be 1 (orderKindCode c.kind) ++ be 2 c.watts)

/-- The NOTICE with its broadcast part and, when given, its household part (R159, R190). -/
def noticeMessage (band localPrice gridPrice feedPrice : Nat) (mark : Mark) (part : Option HouseholdPart) : List Byte :=
  withCheck ([noticeKind] ++ be 1 band ++ be 3 localPrice ++ be 3 gridPrice ++ be 3 feedPrice ++ be 1 mark.toNat ++
    presence 5 (fun h : HouseholdPart => be 1 h.index ++ signedBe 3 h.credits ++ be 1 (standingCode h.standing)) part)

/-- A REPORT's fields (R9, section 12.2). -/
structure Report where
  serial : Nat
  mark : Mark
  exported : Counter
  imported : Counter
  limitActive : Bool
  tamper : Bool
  counterFault : Bool
  deriving DecidableEq, Repr

/-- The fields of a message of REPORT length (section 12.2, R190: flag bits 3 to 7 are ignored). -/
def reportOf (m : List Byte) : Report :=
  let flags : Byte := BitVec.ofNat 8 (field m 14 1)
  { serial := field m 1 4, mark := BitVec.ofNat 8 (field m 5 1), exported := BitVec.ofNat 32 (field m 6 4),
    imported := BitVec.ofNat 32 (field m 10 4), limitActive := flags.getLsbD 0, tamper := flags.getLsbD 1,
    counterFault := flags.getLsbD 2 }

/-! ### What a line carries (R3, R4, R8) -/

/-- The bits of a character: a start bit, the data bits least significant first, a stop bit (section 12.2). -/
def charBits (b : Byte) : List Bool := [false] ++ [0, 1, 2, 3, 4, 5, 6, 7].map b.getLsbD ++ [true]

/-- The bits the port means to send for a message. -/
def lineBits (message : List Byte) : List Bool := message.flatMap charBits

/-- The bit of a message on the line at a time in microseconds from the start of its window; `none` once the message has
been sent (R3, section 12.2). -/
def bitAt (message : List Byte) (time : Nat) : Option Bool := (lineBits message)[time * Config.loopRate / 1000000]?

/-- The bit read back: the value at least two of the three samples agree on (R4). -/
def sampleBit (s : Sample) : Bool := (s.first && s.second) || (s.first && s.third) || (s.second && s.third)

/-- Verify success: every bit read back is the bit the port meant to send (R4). -/
def verified (message : List Byte) (readback : List Sample) : Bool := readback.map sampleBit == lineBits message

/-- The samples of a line that carried a message undisturbed. -/
def cleanReadback (message : List Byte) : List Sample := (lineBits message).map fun b => ⟨b, b, b⟩

/-- The characters after the first that still belong to the message which a character ending at `stop` has reached, and
the characters after it (R8: each begins within 2 ms of the end of the one before). -/
def messageTail (stop : Nat) : List LineChar → List LineChar × List LineChar
  | [] => ([], [])
  | c :: rest =>
    if c.start ≤ stop + Config.charGap then
      ((c :: (messageTail c.stop rest).1), (messageTail c.stop rest).2)
    else ([], c :: rest)

/-- What a receive window heard, judged for a message of one kind and length (R8, R10, tests 1 to 4): nothing; a first
start in time or not; a well formed message with its bytes. -/
inductive Heard where
  | nothing | garbled
  | checkFail
  | message (bytes : List Byte)
  deriving DecidableEq, Repr

/-- The judging of R8 and R10. The message is still in progress when the window closes while no gap longer than 2 ms has
followed its last character (log 14). -/
def judge (kind : Byte) (length : Nat) (heard : List LineChar) : Heard :=
  match heard with
  | [] => .nothing
  | c :: rest =>
    let message := c :: (messageTail c.stop rest).1
    let bytes := message.map LineChar.byte
    let last := (message.getLast?.map LineChar.stop).getD 0
    if Config.tolerance < c.start then .garbled
    else if bytes.head? != some kind || bytes.length != length || !message.all LineChar.framed ||
        Config.window ≤ last + Config.charGap || (messageTail c.stop rest).2 != [] then .garbled
    else if checkGood bytes then .message bytes else .checkFail

end Sys2Proof.Machine
end

