-- ==== Sys2Proof/Machine/Ops.lean ====
section
/-! DEFINITION. The named operations over account memory and its units, the Attention List, the account cache, and the
small updates of State that every unit uses. -/

namespace Sys2Proof.Machine

/-! ### Lists in ascending order -/

/-- A number put into an ascending list. -/
def insertAscending (n : Nat) : List Nat → List Nat
  | [] => [n]
  | m :: rest => if n ≤ m then n :: m :: rest else m :: insertAscending n rest

/-- Some numbers in ascending order. -/
def ascending (l : List Nat) : List Nat := l.foldr insertAscending []

/-! ### Account memory: bytes (section 12.4) -/

/-- The byte at an address. -/
def readByte : List Host.Cell → Nat → Byte
  | [], _ => Config.unwritten
  | (k, v) :: rest, a => if a = k then v else if a < k then Config.unwritten else readByte rest a

/-- A byte written at an address, in canonical form: a byte that reads as an unwritten one is not listed. -/
def writeByte : List Host.Cell → Nat → Byte → List Host.Cell
  | [], a, v => if v = Config.unwritten then [] else [(a, v)]
  | (k, w) :: rest, a, v =>
    if a < k then (if v = Config.unwritten then (k, w) :: rest else (a, v) :: (k, w) :: rest)
    else if a = k then (if v = Config.unwritten then rest else (a, v) :: rest)
    else (k, w) :: writeByte rest a v

/-- Whether every address of some cells is above a bound and the cells are in canonical form. -/
def memoryWfAbove : Option Nat → List Host.Cell → Bool
  | _, [] => true
  | bound, (k, v) :: rest =>
    (match bound with | none => true | some b => b < k) && v != Config.unwritten && memoryWfAbove (some k) rest

/-- The canonical form: addresses strictly rising, and no entry that reads as an unwritten byte. -/
def Memory.wf (m : List Host.Cell) : Bool := memoryWfAbove none m

/-- `n` bytes from an address on. -/
def readBytes (m : List Host.Cell) (a : Nat) : Nat → List Byte
  | 0 => []
  | n + 1 => readByte m a :: readBytes m (a + 1) n

/-- Bytes written from an address on. -/
def writeBytes (m : List Host.Cell) (a : Nat) : List Byte → List Host.Cell
  | [] => m
  | b :: rest => writeBytes (writeByte m a b) (a + 1) rest

/-- The whole place of a unit: its bytes, then zeros up to 32 (section 12.4). -/
def placeBytes (bytes : List Byte) : List Byte := bytes ++ List.replicate (Config.placeSize - bytes.length) 0

/-- A unit written at its place. -/
def writeUnit (m : List Host.Cell) (place : Nat) (bytes : List Byte) : List Host.Cell :=
  writeBytes m place (placeBytes bytes)

/-! ### Account memory: units (section 12.4, R128, R129, R192) -/

/-- The flag byte of a record: bit 0 rebase pending, bit 1 ARREARS. -/
def recordFlags (r : AccountRecord) : Nat := (if r.rebasePending then 1 else 0) + 2 * standingCode r.standing

/-- The bytes of an account record, or of a journal entry for the account, with a fresh check word. -/
def recordBytes (account : Nat) (r : AccountRecord) : List Byte :=
  withCheck (be 1 account ++ signedBe 6 r.balance ++ be 4 r.baseExport.toNat ++ be 4 r.baseImport.toNat ++
    minuteField r.baseMinute ++ be 1 (recordFlags r) ++ minuteField r.lastPosted)

/-- A minute count behind a presence byte; `none` when the presence byte is neither 0 nor 1, or is 0 before bytes that are
not zeros (R192). That any four bytes behind a 1 are a value, above 94,371,839 too, is the model's reading (log 26). -/
def minuteAt (bytes : List Byte) (offset : Nat) : Option (Option Nat) :=
  optionalAt bytes offset 4 (some (field bytes (offset + 1) 4))

/-- The account and record a journal entry holds; `none` is a check failure (R129, R192). -/
def entryOf (bytes : List Byte) : Option (Nat × AccountRecord) :=
  if bytes.length = Config.recordSize && checkGood bytes && field bytes 0 1 ≤ 195 &&
      balanceInRange (fromSignedBe (slice bytes 1 6)) && field bytes 20 1 ≤ 3 then
    (minuteAt bytes 15).bind fun minute => (minuteAt bytes 21).map fun posted =>
      (field bytes 0 1,
        { balance := fromSignedBe (slice bytes 1 6), baseExport := BitVec.ofNat 32 (field bytes 7 4),
          baseImport := BitVec.ofNat 32 (field bytes 11 4), baseMinute := minute,
          rebasePending := field bytes 20 1 % 2 = 1,
          standing := if 2 ≤ field bytes 20 1 then .arrears else .current, lastPosted := posted })
  else none

/-- The record read from the place of an account; `none` is a check failure (R129, R192). -/
def recordOf (account : Nat) (bytes : List Byte) : Option AccountRecord :=
  match entryOf bytes with
  | some (a, r) => if a = account then some r else none
  | none => none

/-- The bytes of a header under a format marker. -/
def headerBytes (marker : Nat) (h : Header) : List Byte :=
  withCheck (be 2 marker ++ minuteField h.lastPosted ++ be 1 (journalCode h.journal) ++ minuteField h.book ++ be 1 h.count)

/-- The header some bytes hold; `none` is a bad header (R131, R192). -/
def headerOf (bytes : List Byte) : Option Header :=
  if bytes.length = Config.headerSize && checkGood bytes && field bytes 0 2 = Config.marker && field bytes 13 1 ≤ 196 then
    (minuteAt bytes 2).bind fun posted => (journalOf (field bytes 7 1)).bind fun journal =>
    (minuteAt bytes 8).bind fun book =>
      if journal = .transferReady && field bytes 13 1 != 2 then none
      else some { lastPosted := posted, journal := journal, book := book, count := field bytes 13 1 }
  else none

/-- What a read of a unit returns: what the memory was told to have returned, or what was last written (R129). -/
def readUnit (m : List Host.Cell) (place size : Nat) (returned : Option (List Byte)) : List Byte :=
  returned.getD (readBytes m place size)

/-- The record INIT ACCOUNT MEMORY writes (R135). -/
def freshRecord : AccountRecord :=
  { balance := 0, baseExport := 0, baseImport := 0, baseMinute := none, rebasePending := false, standing := .current,
    lastPosted := none }

/-- The header INIT ACCOUNT MEMORY writes (R135). -/
def freshHeader : Header := { lastPosted := none, journal := .empty, book := none, count := 0 }

/-! ### Attention List (R172, section 10.5) -/

/-- The kind code: the place of the kind in the table of section 10.5, counted from 1 (R191). -/
def Attention.kind : Attention → Nat
  | .enrolDone _ _ _ _ => 1 | .activated _ _ => 2 | .activateFailed _ _ => 3 | .bookHeld _ _ _ => 4 | .bookMerged _ _ => 5
  | .absent _ _ => 6 | .snapshotChanged _ _ _ _ _ => 7 | .clamped _ _ _ _ => 8 | .foreignMeter _ _ _ _ => 9
  | .tamper _ _ _ _ => 10 | .arrears _ _ _ => 11 | .orderUnconfirmed _ _ _ _ _ _ => 12 | .queueFull _ _ _ => 13
  | .damaged _ _ => 14 | .redirectToSuspense _ _ _ _ => 15 | .journalReplayed _ _ _ => 16 | .journalLost _ _ _ _ => 17

/-- The object, coded as R191 gives it. -/
def Attention.object : Attention → Nat
  | .enrolDone f _ _ _ => f | .activated _ _ => 0 | .activateFailed _ _ => 0 | .bookHeld m _ _ => m | .bookMerged _ _ => 0
  | .absent p _ => p | .snapshotChanged p _ _ _ _ => p | .clamped p _ _ _ => p | .foreignMeter f s _ _ => f * 256 + s
  | .tamper p _ _ _ => p | .arrears a _ _ => a | .orderUnconfirmed p _ _ _ _ _ => p | .queueFull f _ _ => f
  | .damaged a _ => a | .redirectToSuspense p _ _ _ => p | .journalReplayed _ _ _ => 0 | .journalLost _ _ _ _ => 0

/-- An enrolment's ending in bytes: which, then the serial found (R19; log 18). -/
def endingBytes : EnrolEnding → List Byte
  | .found serial => be 1 0 ++ presence 4 (be 4) (some serial)
  | .heardOther => be 1 1 ++ presence 4 (be 4) none
  | .notHeard => be 1 2 ++ presence 4 (be 4) none

/-- The detail fields in the order in which the raising rule lists them (R191; log 18). -/
def Attention.detail : Attention → List Byte
  | .enrolDone _ ending others counted => endingBytes ending ++ be 1 others ++ be 1 counted
  | .activated marked state => be 1 marked ++ be 1 (engineCode state)
  | .activateFailed check object => be 1 check ++ presence 1 (be 1) object
  | .bookHeld _ reason account => be 1 (holdReasonCode (some reason)) ++ be 1 account
  | .bookMerged candidate openStart => be 4 candidate ++ be 4 openStart
  | .absent _ run => be 1 run
  | .snapshotChanged _ taken e i round =>
      be 4 taken.exported.toNat ++ be 4 taken.imported.toNat ++ be 4 e.toNat ++ be 4 i.toNat ++ be 2 round.toNat
  | .clamped _ e i allowed => be 4 e ++ be 4 i ++ be 4 allowed
  | .foreignMeter _ _ serial round => be 4 serial ++ be 2 round.toNat
  | .tamper _ feeder slot round => be 1 feeder ++ be 1 slot ++ be 2 round.toNat
  | .arrears _ balance creditFloor => signedBe 6 balance ++ signedBe 6 creditFloor
  | .orderUnconfirmed _ feeder slot kind watts sends =>
      be 1 feeder ++ be 1 slot ++ be 1 (orderKindCode kind) ++ be 2 watts ++ be 1 sends
  | .queueFull _ slot kind => be 1 slot ++ be 1 (orderKindCode kind)
  | .damaged _ reader => be 1 (readerCode reader)
  | .redirectToSuspense _ book account direction => be 4 book ++ be 1 account ++ be 1 (directionCode direction)
  | .journalReplayed journal book count => be 1 (journalCode journal) ++ minuteField book ++ be 1 count
  | .journalLost journal book count place => be 1 (journalCode journal) ++ minuteField book ++ be 1 count ++ be 1 place

/-- Whether two events share kind and object, and so coalesce (R172). -/
def Attention.matches (a b : Attention) : Bool := a.kind == b.kind && a.object == b.object

/-- The items after a matching item has taken the new detail and one more repeat, held at 255 (R172). -/
def coalesce (e : Attention) : List AttentionItem → List AttentionItem
  | [] => []
  | i :: rest =>
    if i.event.matches e then { event := e, repeats := min 255 (i.repeats + 1) } :: rest else i :: coalesce e rest

/-- Whether the list holds an item of the event's kind and object. -/
def AttentionList.holds (l : AttentionList) (e : Attention) : Bool := l.items.any (fun i => i.event.matches e)

/-- Whether raising the event drops it: the list is full and holds no such item (R172). -/
def AttentionList.drops (l : AttentionList) (e : Attention) : Bool :=
  !l.holds e && decide (Config.attention ≤ l.items.length)

/-- An event raised (R172). -/
def AttentionList.raise (l : AttentionList) (e : Attention) : AttentionList :=
  if l.holds e then { l with items := coalesce e l.items }
  else if l.items.length < Config.attention then { l with items := l.items ++ [{ event := e, repeats := 1 }] }
  else { l with overflow := true }

/-! ### The account cache (R136 to R141) -/

/-- What a reader that asks for an account meets (R137). -/
inductive Lookup where
  | good (line : Nat) (record : AccountRecord)
  | damaged (line : Nat)
  | miss
  deriving DecidableEq, Repr

/-- The line of a number. -/
def Cache.line (c : Cache) (i : Nat) : Option CacheLine := (c.lines[i]?).join

/-- The number of the line that holds an account. -/
def Cache.find (c : Cache) (account : Nat) : Option Nat :=
  c.lines.toList.findIdx? fun l => match l with | some l => l.tag == account | none => false

/-- What the cache answers for an account. -/
def Cache.lookup (c : Cache) (account : Nat) : Lookup :=
  match c.find account with
  | none => .miss
  | some i =>
    match c.line i with
    | some { record := some r, .. } => .good i r
    | some { record := none, .. } => .damaged i
    | none => .miss

/-- A line put in place, the use order unchanged. -/
def Cache.set (c : Cache) (i : Nat) (l : Option CacheLine) : Cache := { c with lines := c.lines.setIfInBounds i l }

/-- A line moved to the most recently used end of the use order (R136). -/
def Cache.touch (c : Cache) (i : Nat) : Cache := { c with order := i :: c.order.filter (· != i) }

/-- A line made invalid: it leaves the use order (R136). -/
def Cache.drop (c : Cache) (i : Nat) : Cache := { (c.set i none) with order := c.order.filter (· != i) }

/-- A line filled with what the read of an account gave, clean and unlocked (R137). -/
def Cache.fill (c : Cache) (i account : Nat) (r : Option AccountRecord) : Cache :=
  (c.set i (some { tag := account, record := r, dirty := false, locked := false })).touch i

/-- Whether a line is valid and dirty. -/
def Cache.isDirty (c : Cache) (i : Nat) : Bool := match c.line i with | some l => l.dirty | none => false

/-- Whether a line is locked. -/
def Cache.isLocked (c : Cache) (i : Nat) : Bool := match c.line i with | some l => l.locked | none => false

/-- The accounts of the dirty lines, in ascending account number. -/
def Cache.dirtyAccounts (c : Cache) : List Nat :=
  ascending (c.lines.toList.filterMap fun l => match l with | some l => if l.dirty then some l.tag else none | none => none)

/-- The number of valid dirty lines (R185). -/
def Cache.dirtyCount (c : Cache) : Nat :=
  (c.lines.toList.filter fun l => match l with | some l => l.dirty | none => false).length

/-- Whether any line is locked (R80, condition 2). -/
def Cache.anyLocked (c : Cache) : Bool :=
  c.lines.toList.any fun l => match l with | some l => l.locked | none => false

/-- The victim of R138, apart from the line whose fill is in progress. -/
def Cache.victim (c : Cache) (filling : Option Nat) : Option Nat :=
  match (List.range 32).find? (fun i => c.line i == none && some i != filling) with
  | some i => some i
  | none =>
    match c.order.reverse.find? (fun i => !c.isLocked i && !c.isDirty i) with
    | some i => some i
    | none => c.order.reverse.find? (fun i => !c.isLocked i)

/-- An image placed in a line (R140): valid and dirty, any DAMAGED mark cleared, the lock kept when the line already
held the account. -/
def Cache.place (c : Cache) (i : Nat) (image : Image) : Cache :=
  let locked := match c.line i with | some l => l.tag == image.account && l.locked | none => false
  (c.set i (some { tag := image.account, record := some image.record, dirty := true, locked := locked })).touch i

/-- The rebase-pending flag set in the record of a good line, which becomes dirty (R38, R67, R140). -/
def Cache.setRebase (c : Cache) (i : Nat) : Cache :=
  match c.line i with
  | some { tag := t, record := some r, locked := k, .. } =>
      c.set i (some { tag := t, record := some { r with rebasePending := true }, dirty := true, locked := k })
  | _ => c

/-- A line locked or unlocked (R141). -/
def Cache.setLock (c : Cache) (i : Nat) (locked : Bool) : Cache :=
  match c.line i with
  | some l => c.set i (some { l with locked := locked })
  | none => c

/-- Every lock released (R123, R124 step 6: the locks are the executing TRANSFER's alone). -/
def Cache.unlockAll (c : Cache) : Cache :=
  { c with lines := c.lines.map fun l => l.map fun l => { l with locked := false } }

/-- A line made clean by its write-back (R139). -/
def Cache.clean (c : Cache) (i : Nat) : Cache :=
  match c.line i with
  | some l => c.set i (some { l with dirty := false })
  | none => c

/-! ### Small updates of State -/

/-- A feeder port replaced. -/
def State.setPort (s : State) (f : Feeder) (p : FeederPort) : State := { s with ports := s.ports.set f p }

/-- The live-state record of an index. -/
def State.liveOf (s : State) (i : Nat) : LiveState := (s.live[i]?).getD .initial

/-- The live-state record of an index replaced. -/
def State.setLive (s : State) (i : Nat) (l : LiveState) : State := { s with live := s.live.setIfInBounds i l }

/-- An attention item raised. -/
def State.raise (s : State) (e : Attention) : State := { s with attention := s.attention.raise e }

/-- The entry of an index. -/
def TableSet.entry (t : TableSet) (i : Nat) : ParticipantEntry := (t.participants[i]?).getD emptyEntry

/-- The entry of a feeder. -/
def TableSet.feeder (t : TableSet) (f : Nat) : FeederEntry := (t.feeders[f]?).getD { enabled := false, slotCount := 0 }

/-- Whether an entry is non-vacant (R42). -/
def nonVacant (e : ParticipantEntry) : Bool := e.kind != .vacant

/-- The indices of the participant table. -/
def indices : List Nat := List.range 192

/-- The participant of a meter slot: the index of a non-vacant active entry that names the feeder and slot (R8, R45). -/
def TableSet.slotParticipant (t : TableSet) (feeder slot : Nat) : Option Nat :=
  indices.find? fun i => nonVacant (t.entry i) && (t.entry i).feeder == feeder && (t.entry i).slot == slot

/-- The line whose fill is in progress. -/
def MemoryPort.filling (p : MemoryPort) : Option Nat :=
  match p.inProgress with
  | some (.fill _ _ line _) => some line
  | _ => none

/-- The account of the dirty victim whose write-back and fill are in progress as one unit (R138). -/
def MemoryPort.evicting (p : MemoryPort) : Option Nat :=
  match p.inProgress with
  | some (.fill _ _ _ (some v)) => some v.1
  | _ => none

/-- Whether the operation in progress is a fill of an account (R136, R140). -/
def MemoryPort.fills (p : MemoryPort) (account : Nat) : Bool :=
  match p.inProgress with
  | some (.fill _ a _ _) => a == account
  | _ => false

end Sys2Proof.Machine
end

