-- ==== Sys2Proof/Machine/Flags.lean ====
section
/-! DEFINITION. The conditions the rules test and the indicators they report: engine states, the conditions on books and
commands, standing, the indicator byte of a RESULT. -/

namespace Sys2Proof.Machine

/-- The engine is QUIESCED. -/
def State.isQuiesced (s : State) : Bool := s.engine == .quiesced

/-- The memory state is READY. -/
def State.memoryReady (s : State) : Bool := s.port.state == .ready

/-- An activation is armed (R59). -/
def State.isArmed (s : State) : Bool := s.activation.phase != .idle

/-- Some book is in a state. -/
def State.hasBook (s : State) (st : BookState) : Bool := s.books.any (fun b => b.state == st)

/-- A book is SETTLING or POSTING (R38, R122, R126). -/
def State.bookBusy (s : State) : Bool := s.hasBook .settling || s.hasBook .posting

/-- A book is final: POSTED or DISCARDED. -/
def Book.isFinal (b : Book) : Bool := b.state == .posted || b.state == .discarded

/-- A book can be replaced (R87). -/
def Book.replaceable (b : Book) : Bool := b.isFinal && !b.owed

/-- The executing command's stage. -/
def State.run (s : State) : Option Run := s.link.executing.map Executing.run

/-- The executing command is a TRANSFER, REBASE or REPAIR ACCOUNT that has passed the step at which it waits for books,
its execution phase not ended (R80, condition 6). -/
def State.commandPassed (s : State) : Bool :=
  match s.link.executing with
  | none => false
  | some e =>
    match e.run with
    | .rebaseRead _ | .transferPayer _ | .transferPayee _ | .transferJournal _ _ _ | .transferHeader _ _
    | .transferWriteBack _ _ _ | .transferClear _ _ | .repairRead _ | .repairWrite _ => true
    | .cutting _ _ => e.code == 0x18 || e.code == 0x40 || e.code == 0x41
    | _ => false

/-- A TRANSFER is in its execution phase, waiting or running (R62, condition 2). -/
def State.transferExecuting (s : State) : Bool :=
  match s.link.executing with
  | none => false
  | some e =>
    match e.run with
    | .result _ => false
    | _ => e.code == 0x40

/-- Every older book is final: the first book that is not final is the one named (R80, condition 1; R81). -/
def State.oldestOpen (s : State) : Option Book := s.books.find? (fun b => !b.isFinal)

/-- The entry conditions of R80 but for the first. -/
def State.entryConditions (s : State) : Bool :=
  !s.cache.anyLocked && s.activation.marking.isEmpty && s.memoryReady && !s.isQuiesced && !s.commandPassed

/-- The book that can enter SETTLING now: the oldest book that is not final, when it is WAITING and the entry
conditions hold (R80, R81). -/
def State.admissible (s : State) : Option Book :=
  match s.oldestOpen with
  | some b => if b.state = .waiting && s.entryConditions && s.sequence == .none then some b else none
  | none => none

/-- The commit moment (R62): AWAIT_QUIET, no book still to be settled or released, no TRANSFER, no marking. -/
def State.commitMoment (s : State) : Bool :=
  s.activation.phase == .awaitQuiet && s.books.all Book.isFinal && !s.transferExecuting && s.activation.marking.isEmpty &&
    s.sequence == .none

/-- A frame of the executing command waits for the outbound queue (R170, R171). -/
def State.frameWaiting (s : State) : Bool :=
  match s.run with
  | some (.result _) => true
  | some (.sweep r) => r.block.isSome
  | _ => false

/-- The outbound queue has room (R170). -/
def StationLink.hasRoom (l : StationLink) : Bool := l.outbound.length < Config.outbound

/-- A RESTART result waits to be sent (R171, R174). -/
def StationLink.restartUnsent (l : StationLink) : Bool := l.outbound.any (fun f => f.restart != .absent)

/-- No frame becomes the executing command (R164). -/
def State.commandsHeld (s : State) : Bool := s.link.restartHold || s.sequence != .none

/-- The standing of an account at a balance (R114). -/
def TableSet.standing (t : TableSet) (account : Nat) (balance : Int) : Standing :=
  if account < Config.participants && nonVacant (t.entry account) && decide (balance < (t.entry account).creditFloor) then
    .arrears
  else .current

/-- The indicator byte of a RESULT: bit 0 attention overflow, bit 1 overrun, bit 2 discards seen (section 12.3). -/
def indicatorByte (overflow overrun discards : Bool) : Byte :=
  BitVec.ofNat 8 ((if overflow then 1 else 0) + (if overrun then 2 else 0) + (if discards then 4 else 0))

end Sys2Proof.Machine
end

