-- ==== Sys2Proof/Machine/Tariff.lean ====
section
/-! DEFINITION. Day classes, the selection of a band, and the local price (R50 to R53, R97). -/

namespace Sys2Proof.Machine

/-- The class of a day number under a week map and a weekday of day 0 (R50). -/
def dayClass (week : Vector DayClass 7) (weekday day : Nat) : DayClass := (week[(weekday + day) % 7]?).getD .work

/-- Whether a band may apply on days of a class (R51). -/
def bandServes : BandClass → DayClass → Bool
  | .both, _ => true
  | .work, c => c == .work
  | .rest, c => c == .rest

/-- The later of two bands, the one met first when both start at the same minute (R52). -/
def laterBand (best : Option (Nat × Band)) (i : Nat) (b : Band) : Option (Nat × Band) :=
  match best with
  | some (j, c) => if c.start < b.start then some (i, b) else some (j, c)
  | none => some (i, b)

/-- The band for a minute count, with its band index (R52). -/
def TableSet.bandFor (t : TableSet) (weekday minute : Nat) : Option (Nat × Band) :=
  let c := dayClass t.week weekday (minute / 1440)
  (List.range 12).foldl (fun best i =>
    match (t.bands[i]?).join with
    | some b => if bandServes b.dayClass c && b.start ≤ minute % 1440 then laterBand best i b else best
    | none => best) none

/-- The local price L of a band (R97). -/
def localPrice (gridPrice feedPrice share : Nat) : Nat := feedPrice + (gridPrice - feedPrice) * share / 256

/-- What a book captures from a band (R53). -/
def captureOf (i : Nat) (b : Band) : Capture :=
  { band := i, gridPrice := b.gridPrice, feedPrice := b.feedPrice, share := b.share, fee := b.fee,
    localPrice := localPrice b.gridPrice b.feedPrice b.share }

/-- The capture for a minute count. The checks leave a RUNNING engine a band for every minute (R52); without one every
price would be 0 (log 29). -/
def TableSet.captureFor (t : TableSet) (weekday minute : Nat) : Capture :=
  match t.bandFor weekday minute with
  | some (i, b) => captureOf i b
  | none => { band := 0, gridPrice := 0, feedPrice := 0, share := 0, fee := 0, localPrice := 0 }

end Sys2Proof.Machine
end

