-- ==== Sys2Proof/Machine/Books.lean ====
section
/-! DEFINITION. The Day Clock, its boundaries, the Book List and the end of a collection (chapter 5; R27, R31). -/

namespace Sys2Proof.Machine

/-! ### Time (R69) -/

/-- The clock time in seconds. -/
def DayClock.time (c : DayClock) : Nat := c.day * 86400 + c.second

/-- The minute count of the clock. -/
def DayClock.minute (c : DayClock) : Nat := c.day * 1440 + c.second / 60

/-- The clock stands at its last second and advances no further (R69). -/
def DayClock.stopped (c : DayClock) : Bool := c.day == 65535 && c.second == 86399

/-- The clock advanced by one second (R69). -/
def DayClock.advance (c : DayClock) : DayClock :=
  if c.stopped then c
  else if c.second = 86399 then { c with day := c.day + 1, second := 0 }
  else { c with second := c.second + 1 }

/-- The greatest multiple of an interval length that is at or below a minute count (R72, R73). -/
def lastMultiple (interval minute : Nat) : Nat := minute / interval * interval

/-! ### Books -/

/-- Every book of a start minute changed. -/
def State.updateBook (s : State) (start : Nat) (f : Book → Book) : State :=
  { s with books := s.books.map fun b => if b.start = start then f b else b }

/-- The book of a start minute. -/
def State.book (s : State) (start : Nat) : Option Book := s.books.find? (fun b => b.start == start)

/-- The collecting book. -/
def State.collecting (s : State) : Option Book := s.books.find? (fun b => b.state == .collecting)

/-- The expected set of a book that enters COLLECTING (R27). -/
def TableSet.expectedSet (t : TableSet) : List Nat :=
  indices.filter fun i => nonVacant (t.entry i) && (t.feeder (t.entry i).feeder).enabled

/-- The snapshot set for an expected set, from the live-state records (R31). -/
def snapshotSet (live : Vector LiveState 192) (expected : List Nat) : List Member :=
  expected.map fun i => { index := i, snapshot := ((live[i]?).getD .initial).taken }

/-- Whether a taken snapshot carries COUNTER_FAULT. -/
def hasFault (m : Member) : Bool := match m.snapshot with | some x => x.counterFault | none => false

/-- The absence run of a missing member counted, and ABSENT raised from the third book on (R31). -/
def State.countAbsence (s : State) (i : Nat) : State :=
  let run := min 255 ((s.liveOf i).absence + 1)
  let s := s.setLive i { s.liveOf i with absence := run }
  if 3 ≤ run then s.raise (.absent i run) else s

/-- A book after its collection has handed it its snapshot set (R31, R79). It is WAITING until the Book List's test
admits it, which the same event makes (R80, R81). -/
def Book.collected (b : Book) (members : List Member) : Book :=
  { b with state := .waiting, members := members,
           missing := (members.filter (fun m => m.snapshot.isNone)).length,
           counterFaults := (members.filter hasFault).length }

/-- The collecting book's collection ends (R31, R79). While QUIESCED no book changes state (R89). R31 orders the snapshot
set by index and not the ABSENT items of one end; that they are raised in ascending index is the model's choice (log 47). -/
def State.endCollection (s : State) : State :=
  match s.collecting with
  | none => s
  | some b =>
    if s.isQuiesced then s
    else
      let members := snapshotSet s.live b.expected
      ((members.filter (fun m => m.snapshot.isNone)).foldl (fun s m => s.countAbsence m.index) s).updateBook b.start
        (fun x => if x.state = .collecting then x.collected members else x)

/-- Every member of the expected set has a taken snapshot (R27). -/
def State.collectionComplete (s : State) : Bool :=
  match s.collecting with
  | some b => b.expected.all fun i => (s.liveOf i).taken.isSome
  | none => false

/-- The list with a record made free: the oldest book that can be replaced leaves a full list (R74, step 2; R87). -/
def freeRecord (books : List Book) : List Book :=
  if books.length < Config.books then books else books.eraseP Book.replaceable

/-- The book a boundary at a minute count creates (R74, step 3). Its two collection counts stand at 0 until the end of
collection writes them (R31, R78; log 36). -/
def State.newBook (s : State) (start candidate : Nat) : Book :=
  { start := start, close := candidate, mark := s.clock.mark + 1,
    deadline := max (candidate * 60) s.clock.time + s.active.general.grace, state := .collecting, holdReason := none,
    expected := s.active.expectedSet, members := [], missing := 0, counterFaults := 0, capture := none, figures := none,
    owed := false }

/-- An armed activation moves on at a boundary taken (R59, R74 step 6). -/
def Activation.boundaryTaken (a : Activation) : Activation :=
  if a.phase = .awaitBoundary then { a with phase := .awaitQuiet } else a

/-- The boundary at a candidate minute count taken: the steps of R74 in order. -/
def State.takeBoundary (s : State) (start candidate : Nat) : State :=
  let s := s.endCollection
  let b := s.newBook start candidate
  let s : State :=
    { s with books := freeRecord s.books ++ [b],
             clock := { s.clock with mark := b.mark, openStart := some candidate },
             activation := s.activation.boundaryTaken,
             live := s.live.map fun l => { l with taken := none } }
  if s.collectionComplete then s.endCollection else s

/-- The candidate of a boundary search (R73). -/
def State.candidate (s : State) : Nat := lastMultiple s.active.general.interval s.clock.minute

/-- The boundary search and whether it took a boundary: the table of R73. A RESTART sequence finds none (R176). -/
def State.boundarySearch (s : State) : State × Bool :=
  if s.engine != .running || s.activation.phase == .checking || s.sequence != .none then (s, false)
  else
    match s.clock.openStart with
    | none => (s, false)
    | some start =>
      if s.candidate ≤ start then (s, false)
      else if Config.books ≤ s.books.length && !s.books.any Book.replaceable then
        (s.raise (.bookMerged s.candidate start), false)
      else (s.takeBoundary start s.candidate, true)

/-- Whether the collecting book's deadline lies at or before the clock time (R71, R79). -/
def State.deadlineReached (s : State) : Bool :=
  match s.collecting with
  | some b => decide (b.deadline ≤ s.clock.time)
  | none => false

/-- The collection of a book whose deadline the clock has reached ends; during a RESTART sequence none does (R176). -/
def State.serveDeadline (s : State) : State :=
  if s.deadlineReached && s.sequence == .none then s.endCollection else s

/-- The boundary search of an occasion the clock's advance has brought (R73). -/
def State.serveBoundary (s : State) : State :=
  if s.clock.boundaryDue then ({ s with clock := { s.clock with boundaryDue := false } } : State).boundarySearch.1 else s

/-- The clock advanced, noting whether it has reached a multiple of the active interval length (R69, R73). -/
def State.advanceClock (s : State) : State :=
  let c := s.clock.advance
  let reached := !s.clock.stopped && c.second % 60 == 0 && c.minute % s.active.general.interval == 0
  { s with clock := { c with boundaryDue := s.clock.boundaryDue || reached } }

end Sys2Proof.Machine
end

