-- ==== Sys2Proof/Machine/Orders.lean ====
section
/-! DEFINITION. The Directed Queues (R149 to R156) and the reconciliation pass that feeds them (R120, R121). -/

namespace Sys2Proof.Machine

/-- The entry a queue holds for a slot. -/
def entryFor (q : List OrderEntry) (slot : Nat) : Option OrderEntry := q.find? (fun e => e.slot == slot)

/-- A request taken by the queue: replaced in place, joined, or refused (`none`) (R150). -/
def requestOrder (q : List OrderEntry) (slot participant : Nat) (kind : OrderKind) (watts : Nat) :
    Option (List OrderEntry) :=
  let fresh : OrderEntry :=
    { slot := slot, participant := participant, kind := kind, watts := watts, sends := 0, sent := false, waited := 0,
      turned := false, sentAtHead := false }
  if (entryFor q slot).isSome then some (q.map fun e => if e.slot = slot then fresh else e)
  else if q.length < Config.queue then some (q ++ [fresh])
  else none

/-- The slots the queue names for a round of `n` meter slots: the first READY entries, up to 4, those not below `n`
dropped by the port, in ascending order (R5, R152). -/
def turnedSlots (q : List OrderEntry) (n : Nat) : List Nat :=
  ascending ((((q.filter (fun e => !e.sent)).take Config.turned).map OrderEntry.slot).filter (· < n))

/-- The order copy of a slot (R152). -/
def orderCopy (t : TableSet) (feeder : Feeder) (q : List OrderEntry) (slot : Nat) : Option OrderCopy :=
  (entryFor q slot).map fun e =>
    { slot := slot, serial := match t.slotParticipant feeder.val slot with | some i => (t.entry i).serial | none => 0,
      kind := e.kind, watts := e.watts }

/-- The queue as a HEAD that names some slots leaves it. -/
def markHead (q : List OrderEntry) (slots : List Nat) : List OrderEntry :=
  q.map fun e => { e with turned := slots.contains e.slot, sentAtHead := e.sent }

/-- An entry after a readback result that applies to it: `none` when it is removed (R153). -/
def afterReadback (e : OrderEntry) (ok : Bool) : Option OrderEntry :=
  if ok then some { e with sends := e.sends + 1, sent := true, waited := 0, turned := false }
  else if e.sends + 1 < Config.sends then some { e with sends := e.sends + 1, sent := false, waited := 0, turned := false }
  else none

/-- The readback result of a slot's ORDER window applied to the entry that the round's HEAD turned, if it has been
neither replaced nor removed since (R153): the queue, and the entry given up with its sends counted. -/
def applyReadback (q : List OrderEntry) (slot : Nat) (ok : Bool) : List OrderEntry × Option OrderEntry :=
  match q.find? (fun e => e.slot == slot && e.turned) with
  | none => (q, none)
  | some e =>
    match afterReadback e ok with
    | some e' => (q.map (fun x => if x.slot = slot then e' else x), none)
    | none => (q.filter (fun x => x.slot != slot), some { e with sends := e.sends + 1 })

/-- Whether a LIMIT_ACTIVE flag matches an order (R154). -/
def orderMatches : OrderKind → Bool → Bool
  | .limit, flag => flag
  | .release, flag => !flag

/-- The queue after a GOOD report has presented a slot's LIMIT_ACTIVE flag (R154). -/
def confirmOrder (q : List OrderEntry) (slot : Nat) (flag : Bool) : List OrderEntry :=
  q.filter fun e => !(e.slot == slot && e.sent && orderMatches e.kind flag)

/-- An entry after a completed round: counted if it was SENT at the round's HEAD, resent or given up (`none`) at 4
rounds (R155). -/
def afterRound (e : OrderEntry) : Option OrderEntry :=
  if e.sent && e.sentAtHead then
    if e.waited + 1 < Config.roundsWaited then some { e with waited := e.waited + 1 }
    else if e.sends < Config.sends then some { e with sent := false, waited := 0, sentAtHead := false }
    else none
  else some e

/-- The entries a completed round gives up (R155). -/
def givenUp (q : List OrderEntry) : List OrderEntry := q.filter (fun e => (afterRound e).isNone)

/-- ORDER_UNCONFIRMED for an entry (R153). -/
def unconfirmed (feeder : Feeder) (e : OrderEntry) : Attention :=
  .orderUnconfirmed e.participant feeder.val e.slot e.kind e.watts e.sends

/-- The queue after a commit: entries whose slot has lost or changed its participant leave (R151). -/
def commitQueue (old new : TableSet) (feeder : Nat) (q : List OrderEntry) : List OrderEntry :=
  q.filter fun e =>
    match new.slotParticipant feeder e.slot, old.slotParticipant feeder e.slot with
    | some i, some j => i == j && (new.entry i).serial == (old.entry j).serial
    | _, _ => false

/-! ### The reconciliation pass -/

/-- What a standing and an entry want of the meter: kind and watts (R120). -/
def wanted (e : ParticipantEntry) (st : Standing) : OrderKind × Nat :=
  if st = .arrears && 0 < e.limit then (.limit, e.limit) else (.release, 0)

/-- Whether the pass requests an order: the table of R120. -/
def orderNeeded (present : Option OrderEntry) (limitActive : Bool) (kind : OrderKind) (watts : Nat) : Bool :=
  match present with
  | none => !(orderMatches kind limitActive)
  | some e => !(e.kind == kind && e.watts == watts)

/-- An index put on the recheck list with its standing, or its standing replaced; the list is ascending (R121). -/
def putRecheck (i : Nat) (st : Standing) : List (Nat × Standing) → List (Nat × Standing)
  | [] => [(i, st)]
  | (j, t) :: rest =>
    if i < j then (i, st) :: (j, t) :: rest else if i = j then (i, st) :: rest else (j, t) :: putRecheck i st rest

/-- The recheck list replaced. -/
def State.setRecheck (s : State) (l : List (Nat × Standing)) : State := { s with posting := { s.posting with recheck := l } }

/-- The visit of one participant with the standing the pass takes (R120, R121). -/
def State.reconcileAt (s : State) (i : Nat) (st : Standing) : State :=
  let e := s.active.entry i
  let leaves (s : State) : State := s.setRecheck (s.posting.recheck.filter (fun r => r.1 != i))
  if !nonVacant e then leaves s
  else
    match s.ports[e.feeder]? with
    | none => leaves s
    | some p =>
      let w := wanted e st
      if orderNeeded (entryFor p.queue e.slot) (s.liveOf i).limitActive w.1 w.2 then
        match requestOrder p.queue e.slot i w.1 w.2 with
        | some q => leaves { s with ports := s.ports.setIfInBounds e.feeder { p with queue := q } }
        | none => (s.setRecheck (putRecheck i st s.posting.recheck)).raise (.queueFull e.feeder e.slot w.1)
      else leaves s

/-- The standing a pass uses for an index: the concerned account's, or its recheck entry's (R120, R121). -/
def State.passStanding (s : State) (concerned : List (Nat × Standing)) (i : Nat) : Option Standing :=
  match concerned.lookup i with
  | some st => some st
  | none => s.posting.recheck.lookup i

/-- The reconciliation pass for the concerned accounts, in ascending index, the recheck list with them (R120, R121). -/
def State.reconcile (s : State) (concerned : List (Nat × Standing)) : State :=
  indices.foldl (fun s i =>
    match s.passStanding concerned i with
    | some st => s.reconcileAt i st
    | none => s) s

end Sys2Proof.Machine
end

