-- ==== Sys2Proof/Machine/Intake.lean ====
section
/-! DEFINITION. Snapshot Intake (chapter 2): what a REPORT handed over by a feeder port does. -/

namespace Sys2Proof.Machine

/-- A live-state record after a GOOD report (R26). -/
def LiveState.heard (l : LiveState) (r : Report) (round : RoundNumber) : LiveState :=
  { l with lastRound := some round, lastMark := some r.mark, limitActive := r.limitActive, tamper := r.tamper,
           counterFault := r.counterFault }

/-- The snapshot a report carries (R28). -/
def Report.snapshot (r : Report) : Snapshot :=
  { exported := r.exported, imported := r.imported, counterFault := r.counterFault }

/-- A GOOD report compared with the collecting book: taken (R28), stale (R29), or compared with the taken snapshot
(R30). A completed collection ends. -/
def State.compareReport (s : State) (i : Nat) (r : Report) (round : RoundNumber) : State :=
  match s.collecting with
  | none => s
  | some b =>
    if b.expected.contains i && r.mark == b.mark then
      match (s.liveOf i).taken with
      | none =>
        let s := s.setLive i { s.liveOf i with taken := some r.snapshot, absence := 0 }
        if s.collectionComplete then s.endCollection else s
      | some x =>
        if x.exported = r.exported && x.imported = r.imported then s
        else s.raise (.snapshotChanged i x r.exported r.imported round)
    else s

/-- A GOOD report of a participant (R26): live state, TAMPER, the flag presented to the Directed Queue, the book. -/
def State.goodReport (s : State) (feeder : Feeder) (slot i : Nat) (r : Report) (round : RoundNumber) : State :=
  let before := s.liveOf i
  let s := s.setLive i (before.heard r round)
  let s := if r.tamper && !before.tamper then s.raise (.tamper i feeder.val slot round) else s
  let s := s.setPort feeder { s.ports[feeder] with queue := confirmOrder s.ports[feeder].queue slot r.limitActive }
  s.compareReport i r round

/-- A report handed over (R9): GOOD, or FOREIGN and INTRUDER, which raise FOREIGN_METER and do nothing else (R25). -/
def State.handReport (s : State) (feeder : Feeder) (slot : Nat) (outcome : SlotOutcome) (r : Report)
    (round : RoundNumber) : State :=
  match outcome with
  | .good =>
    match s.active.slotParticipant feeder.val slot with
    | some i => s.goodReport feeder slot i r round
    | none => s
  | .foreign | .intruder => s.raise (.foreignMeter feeder.val slot r.serial round)
  | _ => s

end Sys2Proof.Machine
end

