-- ==== Sys2Proof/Machine/Ports.lean ====
section
/-! DEFINITION. The feeder ports' own operations: enrolments (R17 to R19), the start, cutting and end of a round (R2, R13,
R20, R21), the line driver (R3), the Notice Builders' cursor and prefetch (R157, R158), and the effect of a commit on a
feeder (R13, R66). -/

namespace Sys2Proof.Machine

/-- One port changed. -/
def State.modifyPort (s : State) (f : Feeder) (g : FeederPort → FeederPort) : State := s.setPort f (g s.ports[f])

/-! ### Enrolments -/

/-- An enrolment that ends: its register holds the ending and ENROL_DONE is raised; an item that a full list drops frees
the register at once (R19). -/
def State.endEnrolment (s : State) (f : Feeder) (ending : EnrolEnding) : State :=
  let r := s.ports[f].enrolment
  let item : Attention := .enrolDone f.val ending r.others r.counted
  let after : Enrolment :=
    if s.attention.drops item then .free else { r with condition := .ended ending, counting := false }
  (s.modifyPort f fun p => { p with enrolment := after }).raise item

/-- An enrolment started (R17). -/
def Enrolment.start (rounds serial : Nat) : Enrolment :=
  { condition := .listening, expected := serial, remaining := rounds, others := 0, counted := 0, counting := false }

/-- Whether an announced serial is the one listened for (R18, step 1). -/
def Enrolment.expects (r : Enrolment) (serial : Nat) : Bool :=
  if r.expected = 0 then serial != 0 else serial == r.expected

/-- A counted QUIET slot in a LISTENING register: the register with the round counted, and its ending if it ends
(R18). -/
def Enrolment.hear (r : Enrolment) (q : QuietOutcome) : Enrolment × Option EnrolEnding :=
  let counted := { r with counted := r.counted + 1, counting := false }
  match q with
  | .announce serial =>
    if r.expects serial then (counted, some (.found serial))
    else
      let r' := { counted with others := min 255 (r.others + 1), remaining := r.remaining - 1 }
      (r', if r'.remaining = 0 then some .heardOther else none)
  | _ =>
    let r' := { counted with remaining := r.remaining - 1 }
    (r', if r'.remaining = 0 then some (if 0 < r.others then .heardOther else .notHeard) else none)

/-- The enrolment of a port at the close of a QUIET window that counts (R18). -/
def State.hearEnrolment (s : State) (f : Feeder) (q : QuietOutcome) : State :=
  let r := s.ports[f].enrolment
  if r.condition = .listening && r.counting then
    let s := s.modifyPort f fun p => { p with enrolment := (r.hear q).1 }
    match (r.hear q).2 with
    | some ending => s.endEnrolment f ending
    | none => s
  else s

/-! ### Rounds -/

/-- Whether a window is open. -/
def Window.isOpen : Window → Bool
  | .head | .slot _ | .order _ | .notice | .quiet => true
  | _ => false

/-- The bit a port drives onto its loop at a time in microseconds from the start of the open window; `none` while the
line is released: from the end of the message on, and in every window in which the engine listens (R3). -/
def FeederPort.lineBit (p : FeederPort) (time : Nat) : Option Bool := if p.driving then bitAt p.sending time else none

/-- The line driver enable FDE of a port at a time in microseconds from the start of the open window (R3). -/
def FeederPort.drivesAt (p : FeederPort) (time : Nat) : Bool := (p.lineBit time).isSome

/-- The port is about to open the HEAD window of a new round. -/
def FeederPort.newRound (p : FeederPort) : FeederPort :=
  { p with state := .running, window := .headDue, round := none, sending := [], driving := false }

/-- The port stops: no window, line released. -/
def FeederPort.stop (p : FeederPort) (st : FeederState) : FeederPort :=
  { p with state := st, window := .shut, round := none, sending := [], driving := false }

/-- The round in progress, if any, cut short: its record is discarded and its number used up (R2, R20). -/
def FeederPort.cutRound (p : FeederPort) : FeederPort :=
  { p with window := .shut, round := none, sending := [], driving := false, restartDue := none,
           number := if p.round.isSome then p.number + 1 else p.number }

/-- A feeder goes OFF: a LISTENING enrolment ends NOT_HEARD (R13, R19). -/
def State.feederOff (s : State) (f : Feeder) : State :=
  let s := s.modifyPort f fun p => p.stop .off
  if s.ports[f].enrolment.condition = .listening then s.endEnrolment f .notHeard else s

/-- Whether a feeder's active entry is enabled. -/
def State.enabled (s : State) (f : Feeder) : Bool := (s.active.feeder f.val).enabled

/-- The port acts on its feeder state and keep-held once its round has been cut short: the table of R21. The prefetch
becomes NONE (R161, R175 step 8). -/
def State.actOnRestart (s : State) (f : Feeder) (keepHeld : Bool) : State :=
  let s := s.modifyPort f fun p => { p with restartDue := none, prefetch := .none }
  match s.ports[f].state with
  | .off => s
  | .running => if s.enabled f then s.modifyPort f FeederPort.newRound else s.feederOff f
  | .holdPending =>
    if !s.enabled f then s.feederOff f
    else if keepHeld then s.modifyPort f fun p => p.stop .held
    else s.modifyPort f FeederPort.newRound
  | .held =>
    if keepHeld then s
    else if s.enabled f then s.modifyPort f FeederPort.newRound
    else s.feederOff f

/-- A commit's effect on one feeder (R13, R66 step 2): an OFF feeder made enabled runs; one made disabled with no round
in progress goes OFF at once, any other at the end of its round. -/
def State.commitFeeder (s : State) (f : Feeder) : State :=
  match s.ports[f].state with
  | .off => if s.enabled f then s.modifyPort f FeederPort.newRound else s
  | .held => s
  | _ => if !s.enabled f && s.ports[f].round.isNone then s.feederOff f else s

/-! ### The Notice Builder -/

/-- The participant at the lowest slot of a feeder at or above a slot. -/
def TableSet.atOrAbove (t : TableSet) (feeder slot : Nat) : Option Nat :=
  ((List.range 48).filter (fun j => slot ≤ j)).findSome? fun j => t.slotParticipant feeder j

/-- The cursor's participant (R157). -/
def TableSet.cursorParticipant (t : TableSet) (feeder cursor : Nat) : Option Nat :=
  match t.atOrAbove feeder cursor with
  | some i => some i
  | none => t.atOrAbove feeder 0

/-- The cursor after it has advanced past its participant (R157). On a feeder that has no participant left it stays where
it stands, which the spec leaves open (log 39). -/
def TableSet.nextCursor (t : TableSet) (feeder cursor : Nat) : Nat :=
  match t.cursorParticipant feeder cursor with
  | some i => if (t.entry i).slot + 1 = 48 then 0 else (t.entry i).slot + 1
  | none => cursor

/-- A balance in whole credits: truncated toward zero and held (R158). -/
def wholeCredits (balance : Int) : Int := max (-Config.creditLimit) (min Config.creditLimit (Int.tdiv balance 1000))

/-- The household part made from a record (R158). -/
def householdPart (index : Nat) (r : AccountRecord) : HouseholdPart :=
  { index := index, credits := wholeCredits r.balance, standing := r.standing }

/-- The cache's answer taken by a prefetch; a miss leaves it WAITING (R158). -/
def State.servePrefetch (s : State) (f : Feeder) (target : Nat) : State :=
  match s.cache.lookup target with
  | .good line r =>
    ({ s with cache := s.cache.touch line } : State).modifyPort f fun p =>
      { p with prefetch := .arrived target (some (householdPart target r)) }
  | .damaged line =>
    ({ s with cache := s.cache.touch line } : State).modifyPort f fun p => { p with prefetch := .arrived target none }
  | .miss => s.modifyPort f fun p => { p with prefetch := .waiting target }

/-- The prefetch of a round whose HEAD verified (R158). -/
def State.startPrefetch (s : State) (f : Feeder) (slotCount : Nat) : State :=
  let s := s.modifyPort f fun p => { p with prefetch := .none }
  if slotCount = 0 || !s.memoryReady || s.isQuiesced then s
  else
    match s.active.cursorParticipant f.val s.ports[f].cursor with
    | none => s
    | some i => s.servePrefetch f i

/-- One turn of the Notice Builders: a waiting prefetch whose account the cache now holds is served. R158 speaks of the
grant and the fill alone; that an account which a posting image (R140), or another reader's fill, has brought into the
cache is served at once and without a grant is the model's choice (log 49; another reader's fill: log 25). -/
def State.noticeTurn (s : State) : Option State :=
  (List.finRange 4).findSome? fun f =>
    match s.ports[f].prefetch with
    | .waiting t => if s.cache.lookup t = .miss then none else some (s.servePrefetch f t)
    | _ => none

/-- The prefetch that waits for the port: the lowest feeder's first (R142). -/
def State.noticeWant (s : State) : Option (Feeder × Nat) :=
  (List.finRange 4).findSome? fun f =>
    match s.ports[f].prefetch with
    | .waiting t => some (f, t)
    | _ => none

/-- Every waiting prefetch withdrawn (R176). -/
def State.withdrawPrefetches (s : State) : State :=
  { s with ports := s.ports.map fun p =>
      match p.prefetch with
      | .waiting _ => { p with prefetch := .none }
      | _ => p }

end Sys2Proof.Machine
end

