-- ==== Sys2Proof/Machine/Activation.lean ====
section
/-! DEFINITION. The ordered checks, the commit and its effects, and commit marking (R62 to R67). -/

namespace Sys2Proof.Machine

/-! ### The ordered checks (R64) -/

/-- The non-vacant indices of a set. -/
def TableSet.occupied (t : TableSet) : List Nat := indices.filter fun i => nonVacant (t.entry i)

/-- The indices whose entry is of a kind. -/
def TableSet.ofKind (t : TableSet) (k : ParticipantKind) : List Nat := indices.filter fun i => (t.entry i).kind == k

/-- Whether an earlier non-vacant entry stands in a relation to an entry. -/
def TableSet.earlier (t : TableSet) (i : Nat) (rel : ParticipantEntry → ParticipantEntry → Bool) : Bool :=
  t.occupied.any fun j => j < i && rel (t.entry j) (t.entry i)

/-- Whether a chain passes: it reaches an entry with no link within the links left, never one already marked (R64,
check 7). -/
def chainPasses (t : TableSet) : Nat → List Nat → Nat → Bool
  | links, marked, i =>
    match (t.entry i).redirect with
    | none => true
    | some r =>
      match links with
      | 0 => false
      | n + 1 => !marked.contains r.target && chainPasses t n (r.target :: marked) r.target

/-- Whether an entry's link names another entry that is a household or a store (R64, check 6). -/
def linkPasses (t : TableSet) (i : Nat) : Bool :=
  match (t.entry i).redirect with
  | none => true
  | some r => r.target != i && ((t.entry r.target).kind == .household || (t.entry r.target).kind == .store)

/-- Whether an entry fails check 5. -/
def placeFails (t : TableSet) (i : Nat) : Bool :=
  let e := t.entry i
  !(t.feeder e.feeder).enabled || (t.feeder e.feeder).slotCount ≤ e.slot ||
    t.earlier i fun a b => a.feeder == b.feeder && a.slot == b.slot

/-- Whether some band of a class starts at minute 0 (R64, check 8). -/
def classServed (t : TableSet) (c : DayClass) : Bool :=
  t.bands.toList.any fun b => match b with | some b => bandServes b.dayClass c && b.start == 0 | none => false

/-- A failure of a check, with its object. -/
abbrev CheckFailure := Nat × Option Nat

/-- The check of a number, from 1 to 10, against the staged set: its failure. -/
def checkFailure (t : TableSet) (ready : Bool) : Nat → Option CheckFailure
  | 1 => if ready then none else some (1, none)
  | 2 =>
    match t.ofKind .gridTie with
    | [] => some (2, none)
    | [_] => none
    | _ :: second :: _ => some (2, some second)
  | 3 => ((t.ofKind .store)[2]?).map fun i => (3, some i)
  | 4 => (t.occupied.find? fun i => t.earlier i fun a b => a.serial == b.serial).map fun i => (4, some i)
  | 5 => (t.occupied.find? fun i => placeFails t i).map fun i => (5, some i)
  | 6 => (t.occupied.find? fun i => !linkPasses t i).map fun i => (6, some i)
  | 7 => (t.occupied.find? fun i => !chainPasses t 4 [i] i).map fun i => (7, some i)
  | 8 => if !classServed t .work then some (8, some 0) else if !classServed t .rest then some (8, some 1) else none
  | 9 =>
    ((List.range 12).find? fun i =>
      match (t.bands[i]?).join with | some b => b.gridPrice < b.feedPrice | none => false).map fun i => (9, some i)
  | 10 => if t.general.grace < t.general.interval * 60 then none else some (10, none)
  | _ => none

/-- The first of checks 1 to 10 that fails (R64). -/
def firstFailure (t : TableSet) (ready : Bool) : Option CheckFailure :=
  [1, 2, 3, 4, 5, 6, 7, 8, 9, 10].findSome? (checkFailure t ready)

/-- The accounts check 11 reads: non-vacant in the active set and VACANT in the staged set. -/
def vacating (active staged : TableSet) : List Nat :=
  indices.filter fun i => nonVacant (active.entry i) && !nonVacant (staged.entry i)

/-! ### The end of the checks -/

/-- The Activation Unit replaced. -/
def State.setActivation (s : State) (a : Activation) : State := { s with activation := a }

/-- A failed check (R65), after which the Day Clock searches again (R73). -/
def State.failChecks (s : State) (f : CheckFailure) : State :=
  let s := s.setActivation { s.activation with phase := .idle, toCheck := [], report := some f }
  (s.raise (.activateFailed f.1 f.2)).boundarySearch.1

/-- Whether a commit resets an index's live state (R24, R66 step 1). -/
def meterChanged (a b : ParticipantEntry) : Bool :=
  a.serial != b.serial || a.kind != b.kind || a.feeder != b.feeder || a.slot != b.slot

/-- The marking list of a commit: every index now non-vacant that was VACANT or had another serial (R66 step 3). -/
def markingList (old new : TableSet) : List Nat :=
  indices.filter fun i =>
    nonVacant (new.entry i) && (!nonVacant (old.entry i) || (old.entry i).serial != (new.entry i).serial)

/-- The two sets exchanged, with what belongs to the same event in the tables' readers: live-state records and Directed
Queues (R40, R66 step 1, R151). -/
def State.exchange (s : State) : State :=
  let old := s.active
  let new := s.staged
  { s with active := new, staged := old,
           live := Vector.ofFn fun i : Fin 192 =>
             if meterChanged (old.entry i.val) (new.entry i.val) then .initial else s.live[i],
           ports := Vector.ofFn fun f : Fin 4 =>
             { s.ports[f] with queue := commitQueue old new f.val s.ports[f].queue } }

/-- An engine that was UNCONFIGURED becomes RUNNING and opens its first interval (R66 step 4, R72). -/
def State.becomeRunning (s : State) : State :=
  if s.engine = .unconfigured then
    { s with engine := .running, clock := { s.clock with openStart := some (lastMultiple s.active.general.interval s.clock.minute) } }
  else s

/-- The commit: the steps of R66 in order, then the Day Clock's search (R73). -/
def State.commit (s : State) : State :=
  let marking := markingList s.active s.staged
  let s := s.exchange
  let s := (List.finRange 4).foldl State.commitFeeder s
  let s := s.becomeRunning
  let s := s.setActivation { s.activation with phase := .idle, toCheck := [], marking := marking }
  (s.raise (.activated marking.length s.engine)).boundarySearch.1

/-- The commit moment: the phase becomes CHECKING; checks 1 to 10 need no port, and check 11 reads from then on
(R62, R64). -/
def State.beginChecks (s : State) : State :=
  let s := s.setActivation { s.activation with phase := .checking, toCheck := vacating s.active s.staged }
  match firstFailure s.staged s.memoryReady with
  | some f => s.failChecks f
  | none => s

/-- One turn of the checks: check 11 on the next account (R64). -/
def State.checkTurn (s : State) : Option State :=
  if s.activation.phase != .checking then none
  else
    match s.activation.toCheck with
    | [] => some s.commit
    | i :: rest =>
      match s.cache.lookup i with
      | .good line r =>
        let s : State := { s with cache := s.cache.touch line }
        if r.balance = 0 then some (s.setActivation { s.activation with toCheck := rest })
        else some (s.failChecks (11, some i))
      | .damaged line => some (({ s with cache := s.cache.touch line } : State).failChecks (11, some i))
      | .miss => none

/-! ### Commit marking (R67) -/

/-- One turn of marking: the next index marked, or passed over as DAMAGED; a locked line is waited for, and its read counts
as made, in the use order too, once the lock is released (log 38). -/
def State.markTurn (s : State) : Option State :=
  if !s.memoryReady then none
  else
    match s.activation.marking with
    | [] => none
    | i :: rest =>
      let drop (s : State) : State := s.setActivation { s.activation with marking := rest }
      match s.cache.lookup i with
      | .good line _ =>
        if s.cache.isLocked line then none
        else some (drop { s with cache := (s.cache.touch line).setRebase line })
      | .damaged line => some (drop { s with cache := s.cache.touch line })
      | .miss => none

/-- The account the Activation Unit waits for: check 11's, or the marking's. -/
def State.activationWant (s : State) : Option Nat :=
  if s.activation.phase = .checking then s.activation.toCheck.head?
  else if s.memoryReady then
    match s.activation.marking with
    | i :: _ => if s.cache.lookup i = .miss then some i else none
    | [] => none
  else none

end Sys2Proof.Machine
end

