-- ==== Sys2Proof/Machine/Settlement.lean ====
section
/-! DEFINITION. Treatments and deltas (R32 to R37), the settlement arithmetic (chapter 6), and the Settlement Unit's
turns: its reads, its redirect walks (R112, R113) and the end of SETTLING (R82). -/

namespace Sys2Proof.Machine

/-! ### Treatments, deltas and baselines -/

/-- The records a settling has read, `none` for DAMAGED. -/
abbrev Copies := List (Nat × Option AccountRecord)

/-- The record read for an account, if it was read and is good. -/
def goodCopy (c : Copies) (account : Nat) : Option AccountRecord := (c.lookup account).join

/-- The treatment of a member, tested in the order of R32. -/
def treatmentOf (t : TableSet) (c : Copies) (m : Member) : Treatment :=
  match m.snapshot, goodCopy c m.index with
  | none, _ => .missing
  | some _, none => .excluded
  | some _, some r =>
    if r.baseMinute.isNone || r.rebasePending then .rebased
    else if (t.entry m.index).status = .suspended then .suspended
    else .settled

/-- The minutes a member's delta covers (R35). -/
def elapsed (b : Book) (baseMinute : Option Nat) : Nat :=
  match baseMinute with
  | some m => if m < b.close then b.close - m else b.close - b.start
  | none => b.close - b.start

/-- What the ceiling allows over the elapsed minutes (R35). -/
def allowed (ceiling minutes : Nat) : Nat := min Config.energyLimit (ceiling * minutes / 60)

/-- The raw delta of a counter: snapshot minus baseline, modulo 2^32 (R34). -/
def rawDelta (now base : Counter) : Nat := (now - base).toNat

/-- The later of the old baseline minute and the book's close (R33, R36). -/
def laterMinute (old : Option Nat) (close : Nat) : Nat := match old with | some m => max m close | none => close

/-- A member row before allocation: treatment, deltas, clamping, new baseline, net sale and purchase, group (R32 to R36,
R92). -/
def memberRow (t : TableSet) (b : Book) (c : Copies) (m : Member) : MemberRow :=
  let e := t.entry m.index
  let treatment := treatmentOf t c m
  let base : MemberRow :=
    { index := m.index, kind := e.kind, treatment := treatment, exportDelta := 0, importDelta := 0, clamped := none,
      baseline := none, sale := 0, purchase := 0, group := .neither, localShare := 0, gridPart := 0, localAmount := 0,
      gridAmount := 0 }
  match treatment, m.snapshot, goodCopy c m.index with
  | .rebased, some x, some r =>
    { base with baseline := some { exported := x.exported, imported := x.imported,
                                   minute := laterMinute r.baseMinute b.close, clears := true } }
  | .suspended, some x, some r | .settled, some x, some r =>
    let rawE := rawDelta x.exported r.baseExport
    let rawI := rawDelta x.imported r.baseImport
    let limit := allowed e.ceiling (elapsed b r.baseMinute)
    let de := min rawE limit
    let di := min rawI limit
    let takesPart := treatment == .settled && (e.kind == .household || e.kind == .store)
    let s := if takesPart then de - di else 0
    let d := if takesPart then di - de else 0
    { base with
      exportDelta := de, importDelta := di,
      clamped := if limit < rawE || limit < rawI then some (rawE, rawI, limit) else none,
      baseline := some { exported := x.exported, imported := x.imported, minute := laterMinute r.baseMinute b.close,
                         clears := true },
      sale := s, purchase := d, group := if 0 < s then .seller else if 0 < d then .buyer else .neither }
  | _, _, _ => base

/-! ### Allocation (R93 to R96) -/

/-- The sum of a figure over rows. -/
def sumOf (rows : List MemberRow) (f : MemberRow → Nat) : Nat := (rows.map f).sum

/-- How many of a sharing group stand before a member in the order of R95, step 4: a greater remainder, or an equal one
and a lower index. -/
def rankBefore (group : List (Nat × Nat)) (index remainder : Nat) : Nat :=
  (group.filter fun g => remainder < g.2 || (g.2 == remainder && g.1 < index)).length

/-- The share of a member of the sharing group that has its own amount `x` of the total `total` (R95); `group` holds the
own amounts of the whole group by index. -/
def shareOf (localMatch total : Nat) (group : List (Nat × Nat)) (index x : Nat) : Nat :=
  if localMatch = 0 then 0
  else
    let remainders := group.map fun g => (g.1, localMatch * g.2 % total)
    let shortfall := localMatch - (group.map fun g => localMatch * g.2 / total).sum
    localMatch * x / total +
      (if rankBefore remainders index (localMatch * x % total) < shortfall then 1 else 0)

/-- The ceiling of an energy at a price, in mc (R98). -/
def amountUp (energy price : Nat) : Nat := (energy * price + 999) / 1000

/-- The floor of an energy at a price, in mc (R99). -/
def amountDown (energy price : Nat) : Nat := energy * price / 1000

/-- A row with its local share, grid part and amounts, given the totals, the groups' own amounts and the prices: the
SHORT case when S is at most D, the LONG case otherwise (R94 to R99). -/
def allocate (k : Capture) (s d : Nat) (sellers buyers : List (Nat × Nat)) (r : MemberRow) : MemberRow :=
  let m := min s d
  match r.group with
  | .neither => r
  | .seller =>
    let share := if s ≤ d then r.sale else shareOf m s sellers r.index r.sale
    { r with localShare := share, gridPart := r.sale - share, localAmount := amountDown share k.localPrice,
             gridAmount := amountDown (r.sale - share) k.feedPrice }
  | .buyer =>
    let share := if s ≤ d then shareOf m d buyers r.index r.purchase else r.purchase
    { r with localShare := share, gridPart := r.purchase - share, localAmount := amountUp share (k.localPrice + k.fee),
             gridAmount := amountUp (r.purchase - share) k.gridPrice }

/-- The rows of a book after stages 1 to 5 (R92 to R99). -/
def settleRows (t : TableSet) (b : Book) (k : Capture) (c : Copies) : List MemberRow :=
  let rows := b.members.map (memberRow t b c)
  let sellers := (rows.filter (fun r => r.group == .seller)).map fun r => (r.index, r.sale)
  let buyers := (rows.filter (fun r => r.group == .buyer)).map fun r => (r.index, r.purchase)
  rows.map (allocate k (sumOf rows MemberRow.sale) (sumOf rows MemberRow.purchase) sellers buyers)

/-- How many rows have a treatment. -/
def countTreated (rows : List MemberRow) (t : Treatment) : Nat := (rows.filter (fun r => r.treatment == t)).length

/-- A figure summed over the rows of a group. -/
def groupSum (rows : List MemberRow) (g : Group) (f : MemberRow → Nat) : Nat := sumOf (rows.filter (fun r => r.group == g)) f

/-- Whether a row is of a suspended household or store (R93). -/
def isExcludedEnergy (r : MemberRow) : Bool := r.treatment == .suspended && (r.kind == .household || r.kind == .store)

/-- The grid-tie figures: UNKNOWN unless the GRID_TIE member is settled or suspended (R102). -/
def gridFigures (rows : List MemberRow) (s d : Nat) : Option GridFigures :=
  match rows.find? (fun r => r.kind == .gridTie) with
  | some r =>
    if r.treatment = .settled || r.treatment = .suspended then
      some { gridImport := r.importDelta, gridExport := r.exportDelta,
             loss := ((r.importDelta : Int) - r.exportDelta) - ((d : Int) - s) }
    else none
  | none => none

/-- The totals of a book from its rows (R93, R102). -/
def totalsOf (rows : List MemberRow) : Totals :=
  let s := sumOf rows MemberRow.sale
  let d := sumOf rows MemberRow.purchase
  { totalSale := s, totalPurchase := d, localMatch := min s d,
    excludedExport := sumOf (rows.filter isExcludedEnergy) MemberRow.exportDelta,
    excludedImport := sumOf (rows.filter isExcludedEnergy) MemberRow.importDelta,
    grid := gridFigures rows s d }

/-- The figures of a book from the totals and rows of its work record (R78, R100, R101). -/
def figuresFrom (t : Totals) (rows : List MemberRow) : Figures :=
  { settled := countTreated rows .settled, missing := countTreated rows .missing, rebased := countTreated rows .rebased,
    suspended := countTreated rows .suspended, excluded := countTreated rows .excluded,
    clamped := (rows.filter (fun r => r.clamped.isSome)).length,
    totalSale := t.totalSale, totalPurchase := t.totalPurchase, localMatch := t.localMatch,
    excludedExport := t.excludedExport, excludedImport := t.excludedImport, grid := t.grid,
    residue := groupSum rows .buyer MemberRow.localAmount - groupSum rows .seller MemberRow.localAmount,
    localDebits := groupSum rows .buyer MemberRow.localAmount, localCredits := groupSum rows .seller MemberRow.localAmount,
    gridDebits := groupSum rows .buyer MemberRow.gridAmount, gridCredits := groupSum rows .seller MemberRow.gridAmount }

/-- The figures of a book from its rows. -/
def figuresOf (rows : List MemberRow) : Figures := figuresFrom (totalsOf rows) rows

/-- The figures of a book from its work record. -/
def Work.figures (w : Work) : Figures := figuresFrom (w.totals.getD (totalsOf w.rows)) w.rows

/-! ### Where the amounts land (R103, R112, R113) -/

/-- The amounts aimed at a member's own account: its local amount, then its grid amount (R98, R99; log 17). An amount of 0
moves nothing (R103), and the model lets it walk nowhere (log 37). -/
def aimsOf (r : MemberRow) : List Aim :=
  let aim (dir : Direction) (amount : Nat) : List Aim :=
    if amount = 0 then [] else [{ participant := r.index, direction := dir, amount := amount, reached := r.index }]
  match r.group with
  | .neither => []
  | .buyer => aim .debit r.localAmount ++ aim .debit r.gridAmount
  | .seller => aim .credit r.localAmount ++ aim .credit r.gridAmount

/-- Whether a link's scope covers a direction (R112). -/
def covers : RedirectScope → Direction → Bool
  | .all, _ => true
  | .debits, d => d == .debit
  | .credits, d => d == .credit

/-- Where the walk goes from an account: a link's target, or nowhere (R112). -/
def nextLink (t : TableSet) (account : Nat) (d : Direction) : Option Nat :=
  match (t.entry account).redirect with
  | some r => if account < Config.participants && covers r.scope d then some r.target else none
  | none => none

/-- What an amount adds to the balance of the account it lands on. -/
def signedAmount (a : Aim) : Int := match a.direction with | .debit => -(a.amount : Int) | .credit => a.amount

/-- The changes of FUND and GRID that face the participants' amounts (R98 to R100); CLEARING's cancel. -/
def systemLandings (f : Figures) : List (Nat × Int) :=
  [(Config.fund, f.residue), (Config.grid, (f.gridDebits : Int) - f.gridCredits)]

/-- The net of what has landed on an account. -/
def netOn (landed : List (Nat × Int)) (account : Nat) : Int :=
  ((landed.filter (fun l => l.1 == account)).map (fun l => l.2)).sum

/-- The account change list, in ascending account number (R103). -/
def changeList (c : Copies) (rows : List MemberRow) (landed : List (Nat × Int)) : List ChangeItem :=
  (List.range Config.accounts).filterMap fun a =>
    let net := netOn landed a
    let baseline := (rows.find? (fun r => r.index == a)).bind MemberRow.baseline
    if net = 0 && baseline.isNone then none
    else
      some { account := a, net := net,
             read := if net = 0 then none else (goodCopy c a).map AccountRecord.balance,
             balance := if net = 0 then none else (goodCopy c a).map (fun r => r.balance + net),
             baseline := baseline }

/-- The lowest damaged system account (R104). -/
def damagedSystem (c : Copies) : Option Nat := [192, 193, 194, 195].find? fun a => (goodCopy c a).isNone

/-- The lowest account whose new balance lies out of range (R105). -/
def outOfRange (changes : List ChangeItem) : Option Nat :=
  (changes.find? fun i => match i.balance with | some b => !balanceInRange b | none => false).map ChangeItem.account

/-- The journal image of an item, made from the record read (R116). -/
def imageOf (t : TableSet) (c : Copies) (start : Nat) (i : ChangeItem) : Image :=
  let r := (goodCopy c i.account).getD freshRecord
  let based : AccountRecord :=
    match i.baseline with
    | some n => { r with baseExport := n.exported, baseImport := n.imported, baseMinute := some n.minute,
                         rebasePending := if n.clears then false else r.rebasePending }
    | none => r
  let paid : AccountRecord :=
    match i.balance with
    | some b => { based with balance := b, standing := t.standing i.account b }
    | none => based
  { account := i.account, record := { paid with lastPosted := some start }, changes := i.balance.isSome, was := r.standing }

/-! ### The Settlement Unit's turns -/

/-- A book enters SETTLING: it captures band and prices, and the reads of R91 begin (R53, R82). -/
def State.enterSettling (s : State) (b : Book) : State :=
  let s := s.updateBook b.start fun b =>
    { b with state := .settling, capture := some (s.active.captureFor s.clock.weekday b.start), figures := none }
  { s with work := some { book := b.start, stage := .reading, copies := [],
                          toRead := [192, 193, 194, 195] ++
                            (b.members.filter (fun m => m.snapshot.isSome)).map Member.index,
                          rows := [], totals := none, aims := [], landed := [], changes := [] } }

/-- The work record replaced. -/
def State.setWork (s : State) (w : Work) : State := { s with work := some w }

/-- CLAMPED raised for each clamped member, in index order (R35; log 17). -/
def State.raiseClamped (s : State) (rows : List MemberRow) : State :=
  rows.foldl (fun s r => match r.clamped with | some (e, i, a) => s.raise (.clamped r.index e i a) | none => s) s

/-- Stages 1 to 6, once the reads of steps 1 and 2 are complete (R92 to R102). -/
def State.computeStages (s : State) (w : Work) (b : Book) : State :=
  let k := b.capture.getD (s.active.captureFor s.clock.weekday b.start)
  let rows := settleRows s.active b k w.copies
  (s.raiseClamped rows).setWork { w with
    stage := .walking, rows := rows, totals := some (totalsOf rows), aims := rows.flatMap aimsOf }

/-- The book becomes HELD (R82, R104, R105). -/
def State.holdBook (s : State) (b : Book) (f : Figures) (reason : HoldReason) (account : Nat) : State :=
  ({ (s.updateBook b.start fun b => { b with state := .held, holdReason := some reason, figures := some f }) with
     work := none } : State).raise (.bookHeld b.start reason account)

/-- The book enters POSTING, and the Posting Unit builds its journal entries (R106, R116). -/
def State.startPosting (s : State) (w : Work) (b : Book) (f : Figures) (changes : List ChangeItem) : State :=
  { (s.updateBook b.start fun b => { b with state := .posting, figures := some f }) with
    work := some { w with stage := .done, changes := changes }
    posting := { s.posting with phase := .journal, book := some b.start, cursor := 0, durable := false,
                                images := changes.map (imageOf s.active w.copies b.start) } }

/-- Stage 7 once every walk has ended (R103 to R106). -/
def State.finishSettling (s : State) (w : Work) (b : Book) : State :=
  let f := w.figures
  let changes := changeList w.copies w.rows (w.landed ++ systemLandings f)
  match damagedSystem w.copies with
  | some a => s.holdBook b f .systemDamaged a
  | none =>
    match outOfRange changes with
    | some a => s.holdBook b f .range a
    | none => s.startPosting w b f changes

/-- A walk that has reached an account whose record has been read (R112, R113). -/
def State.walkOn (s : State) (w : Work) (a : Aim) (rest : List Aim) (record : Option AccountRecord) : State :=
  match record with
  | none =>
    (s.setWork { w with aims := rest, landed := (Config.suspense, signedAmount a) :: w.landed }).raise
      (.redirectToSuspense a.participant w.book a.reached a.direction)
  | some _ =>
    match nextLink s.active a.reached a.direction with
    | some t => s.setWork { w with aims := { a with reached := t } :: rest }
    | none => s.setWork { w with aims := rest, landed := (a.reached, signedAmount a) :: w.landed }

/-- What a read of an account finds in the cache: the line that holds it, and its record or the DAMAGED mark. -/
def State.found (s : State) (account : Nat) : Option (Nat × Option AccountRecord) :=
  match s.cache.lookup account with
  | .good line r => some (line, some r)
  | .damaged line => some (line, none)
  | .miss => none

/-- The account whose record the Settlement Unit needs next: the next one to be read, or the one its walk has reached,
whether or not a copy of it is held (R91; R112, step 1). -/
def Work.needs (w : Work) : Option Nat :=
  match w.stage with
  | .reading => w.toRead.head?
  | .walking => w.aims.head?.map Aim.reached
  | .done => none

/-- A record served to the Settlement Unit, which copies it into the work record (R91). -/
def State.copyRecord (s : State) (w : Work) (account line : Nat) (r : Option AccountRecord) : State :=
  { s with cache := s.cache.touch line, work := some { w with copies := (account, r) :: w.copies, toRead := w.toRead.tail } }

/-- The copies after a walk has read an account: a whole copy stays as read until the book leaves SETTLING (R91; log 50). -/
def Work.copiesWith (w : Work) (account : Nat) (r : Option AccountRecord) : Copies :=
  if (goodCopy w.copies account).isSome then w.copies else (account, r) :: w.copies

/-- One step of a walk: the record of the account reached is read through the cache, on the start of the walk and on every
return to an account too (R112, step 1). A settled participant's own record is undamaged, and step 2 diverts only at a
target, so the walk's start goes by the copy that settled it (R112; DEDUCED, log 50). -/
def State.walkStep (s : State) (w : Work) (a : Aim) (rest : List Aim) (line : Nat) (r : Option AccountRecord) : State :=
  let copies := w.copiesWith a.reached r
  ({ s with cache := s.cache.touch line } : State).walkOn { w with copies := copies } a rest
    (if a.reached = a.participant then goodCopy copies a.reached else r)

/-- One turn of the Settlement Unit; `none` while it waits for the port, or has no book. -/
def State.settleTurn (s : State) : Option State :=
  match s.work with
  | none => none
  | some w =>
    match s.book w.book with
    | none => none
    | some b =>
      if b.state != .settling then none
      else
        match w.stage with
        | .reading =>
          match w.toRead with
          | a :: _ => (s.found a).map fun x => s.copyRecord w a x.1 x.2
          | [] => some (s.computeStages w b)
        | .walking =>
          match w.aims with
          | a :: rest => (s.found a.reached).map fun x => s.walkStep w a rest x.1 x.2
          | [] => some (s.finishSettling w b)
        | .done => none

/-- The account the Settlement Unit waits for. -/
def State.settleWant (s : State) : Option Nat := s.work.bind Work.needs

end Sys2Proof.Machine
end

