-- ==== Sys2Proof/Machine/Posting.lean ====
section
/-! DEFINITION. The Posting Unit's turns: applying images, write-back, and the end of a posting (R115 to R118, R83). -/

namespace Sys2Proof.Machine

/-- ARREARS raised when an image moves an account from CURRENT (R115). -/
def State.raiseArrears (s : State) (i : Image) : State :=
  if i.record.standing = .arrears && i.was = .current then
    s.raise (.arrears i.account i.record.balance (s.active.entry i.account).creditFloor)
  else s

/-- An image placed in a line, with ARREARS where it calls for it (R117, R140). -/
def State.placeImage (s : State) (line : Nat) (i : Image) : State :=
  ({ s with cache := s.cache.place line i } : State).raiseArrears i

/-- The Posting Unit's own fields replaced. -/
def State.setPosting (s : State) (phase : PostingPhase) (cursor : Nat) : State :=
  { s with posting := { s.posting with phase := phase, cursor := cursor } }

/-- The line an image is placed in without a write-back: its own, or a clean victim (R138, R140). -/
def State.placeLine (s : State) (i : Image) : Option Nat :=
  match s.cache.find i.account with
  | some line => some line
  | none =>
    match s.cache.victim s.port.filling with
    | some line => if s.cache.isDirty line then none else some line
    | none => none

/-- The next of the book's lines still dirty, in ascending account number (R118). -/
def State.nextWriteBack (s : State) : Option (Nat × Nat) :=
  s.posting.images.findSome? fun i =>
    match s.cache.find i.account with
    | some line => if s.cache.isDirty line then some (line, i.account) else none
    | none => none

/-- One turn of the Posting Unit; `none` while it waits for the port. -/
def State.postTurn (s : State) : Option State :=
  match s.posting.phase with
  | .apply =>
    if !s.posting.durable then none
    else
      match s.posting.images[s.posting.cursor]? with
      | some i =>
        if s.port.fills i.account then none
        else
          match s.placeLine i with
          | some line => some ((s.placeImage line i).setPosting .apply (s.posting.cursor + 1))
          | none => none
      | none => some (s.setPosting .writeBack 0)
  | .writeBack => if s.nextWriteBack.isNone then some (s.setPosting .clear 0) else none
  | _ => none

/-- The header a write carries: the fields it does not change come from the header copy (R130). -/
def MemoryPort.copy (p : MemoryPort) : Header := p.header.getD freshHeader

/-- What the Posting Unit asks of the port (R116 to R118). -/
def State.postWant (s : State) : Option PortOp :=
  let p := s.posting
  match p.phase, p.book with
  | .journal, some start =>
    match p.images[p.cursor]? with
    | some i => some (.journalEntry .posting p.cursor i)
    | none =>
      some (.journalHeader .posting { s.port.copy with journal := .bookReady, book := some start, count := p.images.length })
  | .apply, some _ =>
    if !p.durable then none
    else
      match p.images[p.cursor]? with
      | some i =>
        if (s.placeLine i).isSome then none
        else
          (s.cache.victim s.port.filling).bind fun line =>
            (s.cache.line line).map fun l => .writeBack (.postingVictim i) line l.tag
      | none => none
  | .writeBack, some _ => s.nextWriteBack.map fun w => .writeBack .postingWriteBack w.1 w.2
  | .clear, some start => some (.journalClear .posting { s.port.copy with journal := .empty, lastPosted := some start })
  | _, _ => none

/-- The posting sequence ends: the book is POSTED with its statement owed, the work record is emptied, and the
reconciliation pass runs for the accounts whose balance the book changed (R83, R90, R118, R120). -/
def State.bookPosted (s : State) (start : Nat) : State :=
  let concerned := (s.posting.images.filter Image.changes).map fun i => (i.account, i.record.standing)
  let s := s.updateBook start fun b => { b with state := .posted, owed := true }
  let s : State :=
    { s with work := none,
             posting := { s.posting with phase := .idle, book := none, cursor := 0, images := [], durable := false } }
  s.reconcile concerned

end Sys2Proof.Machine
end

