-- ==== Sys2Proof/Machine/Results.lean ====
section
/-! DEFINITION. The fields of results, BLOCKs and STATEMENTs (chapter 11, sections 12.3 and 10.4), and how the executing
command's run and its RESULT stand in State (R166 to R168). Orders and codings the tables leave open: log 18. -/

namespace Sys2Proof.Machine

/-! ### Detail codes of CUT and REFUSED results (section 12.3) -/

def unknownCommandCode : Nat := 1
def quiescedCode : Nat := 2
def badParameterCode : Nat := 3
def notRunningCode : Nat := 4
def busyCode : Nat := 5
def armedCode : Nat := 6
def notArmedCode : Nat := 7
def notReadyCode : Nat := 8
def clockUnsetCode : Nat := 9
def stepTooLargeCode : Nat := 10
def noBookCode : Nat := 11
def notHeldCode : Nat := 12
def vacantCode : Nat := 13
def damagedCode : Nat := 14
def rangeCode : Nat := 15
def fundsCode : Nat := 16
def notDamagedCode : Nat := 17
def configuredCode : Nat := 18
def restartCode : Nat := 19
def checkFailedCode : Nat := 20

/-! ### The executing command -/

/-- The executing command's run replaced. -/
def State.setRun (s : State) (r : Run) : State :=
  { s with link := { s.link with executing := s.link.executing.map fun e => { e with run := r } } }

/-- The RESULT of a command of a code, as built (R167). -/
def builtResult (code : Byte) (outcome : OutcomeClass) (detail : Nat) (fields : List Byte) : CommandResult :=
  { code := code, outcome := outcome, detail := detail, fields := fields, overflow := none, restart := .absent }

/-- The command code of the executing command. -/
def State.code (s : State) : Byte := match s.link.executing with | some e => e.code | none => 0

/-- The executing command's execution phase ends with a RESULT (R166, R167). -/
def State.answer (s : State) (outcome : OutcomeClass) (detail : Nat) (fields : List Byte) : State :=
  s.setRun (.result (builtResult s.code outcome detail fields))

/-- A REFUSED result without fields. -/
def State.refuse (s : State) (detail : Nat) : State := s.answer .refused detail []

/-- The detail code of a cut. -/
def cutCode : CutReason → Nat
  | .quiesced => quiescedCode
  | .restart => restartCode

/-- The next free byte (log 10). -/
def State.freeByte (s : State) : Byte := Config.freeByte s.freeCount

/-! ### Fields of single objects (chapter 11) -/

/-- A participant entry's fields (R181). -/
def entryFields (e : ParticipantEntry) : List Byte :=
  be 1 (kindCode e.kind) ++ be 1 (statusCode e.status) ++ be 4 e.serial ++ be 1 e.feeder ++ be 1 e.slot ++
  be 2 e.ceiling ++ signedBe 6 e.creditFloor ++ be 2 e.limit ++
  presence 2 (fun r : Redirect => be 1 r.target ++ be 1 (scopeCode r.scope)) e.redirect

/-- A snapshot's fields. -/
def snapshotFields (x : Snapshot) : List Byte :=
  be 4 x.exported.toNat ++ be 4 x.imported.toNat ++ [flagByte x.counterFault]

/-- A live-state record's fields (R24, R181). -/
def liveFields (l : LiveState) : List Byte :=
  presence 2 (fun n : RoundNumber => be 2 n.toNat) l.lastRound ++ presence 1 (fun m : Mark => be 1 m.toNat) l.lastMark ++
  [flagByte l.limitActive, flagByte l.tamper, flagByte l.counterFault] ++ presence 9 snapshotFields l.taken ++
  be 1 l.absence

/-- An account record's fields (R180). -/
def recordFields (r : AccountRecord) : List Byte :=
  signedBe 6 r.balance ++ be 4 r.baseExport.toNat ++ be 4 r.baseImport.toNat ++ minuteField r.baseMinute ++
  [flagByte r.rebasePending] ++ be 1 (standingCode r.standing) ++ minuteField r.lastPosted

/-- READ ACCOUNT's fields: a good record with the unwritten indicator, or the damaged indicator (R180). -/
def accountFields (account : Nat) (record : Option AccountRecord) (dirty : Bool) : List Byte :=
  match record with
  | some r => be 1 account ++ recordFields r ++ [flagByte dirty]
  | none => be 1 account ++ [flagByte true]

/-- An enrolment register's fields (R182): its condition; rounds remaining and other count when LISTENING; its ending
and the serial found when ENDED. -/
def enrolmentFields (e : Enrolment) : List Byte :=
  match e.condition with
  | .free => be 1 0 ++ List.replicate 10 0
  | .listening => be 1 1 ++ presence 2 (fun r : Nat × Nat => be 1 r.1 ++ be 1 r.2) (some (e.remaining, e.others)) ++
      presence 6 endingBytes none
  | .ended x => be 1 2 ++ presence 2 (fun r : Nat × Nat => be 1 r.1 ++ be 1 r.2) none ++ [1] ++ endingBytes x

/-- An entry of a Directed Queue (R149, R182). -/
def orderFields (e : OrderEntry) : List Byte :=
  be 1 e.slot ++ be 1 e.participant ++ be 1 (orderKindCode e.kind) ++ be 2 e.watts ++ be 1 e.sends ++ [flagByte e.sent] ++
  be 1 e.waited

/-- READ FEEDER's fields (R182). -/
def feederFields (e : FeederEntry) (p : FeederPort) : List Byte :=
  [flagByte e.enabled] ++ be 1 e.slotCount ++ be 1 (feederStateCode p.state) ++ be 2 p.number.toNat ++
  enrolmentFields p.enrolment ++ be 1 p.cursor ++ be 1 p.queue.length ++ p.queue.flatMap orderFields

/-- A band's fields (R183). -/
def bandFields (b : Band) : List Byte :=
  be 1 (bandClassCode b.dayClass) ++ be 2 b.start ++ be 3 b.gridPrice ++ be 3 b.feedPrice ++ be 2 b.share ++ be 3 b.fee

/-- The local price a present band gives; absent ("unchecked") when F lies above B (R183). -/
def bandLocalPrice (b : Option Band) : Option Nat :=
  b.bind fun b => if b.gridPrice < b.feedPrice then none else some (localPrice b.gridPrice b.feedPrice b.share)

/-- READ BAND's fields (R183). -/
def bandResultFields (t : TableSet) (position : Nat) : List Byte :=
  let b := (t.bands[position]?).join
  be 1 position ++ presence 14 bandFields b ++ presence 3 (be 3) (bandLocalPrice b) ++ be 1 t.general.interval ++
  be 2 t.general.grace ++ t.week.toList.flatMap fun c => be 1 (dayClassCode c)

/-- The captured band and prices (R53). -/
def captureFields (k : Capture) : List Byte :=
  be 1 k.band ++ be 3 k.gridPrice ++ be 3 k.feedPrice ++ be 2 k.share ++ be 3 k.fee ++ be 3 k.localPrice

/-- The treatment counts in the order of R78. -/
def countFields (f : Figures) : List Byte :=
  be 1 f.settled ++ be 1 f.missing ++ be 1 f.rebased ++ be 1 f.suspended ++ be 1 f.excluded ++ be 1 f.clamped

/-- The grid-tie figures behind their one presence byte. -/
def gridFields (g : Option GridFigures) : List Byte :=
  presence 13 (fun g : GridFigures => be 4 g.gridImport ++ be 4 g.gridExport ++ signedBe 5 g.loss) g

/-- Energies, grid-tie figures, residue and money totals in the order of R78. -/
def energyFields (f : Figures) : List Byte :=
  be 4 f.totalSale ++ be 4 f.totalPurchase ++ be 4 f.localMatch ++ be 4 f.excludedExport ++ be 4 f.excludedImport ++
  gridFields f.grid ++ be 6 f.residue ++ be 6 f.localDebits ++ be 6 f.localCredits ++ be 6 f.gridDebits ++
  be 6 f.gridCredits

/-- The figures READ BOOK reports: those of an ended settling (R184). -/
def Book.settled (b : Book) : Option (Capture × Figures) :=
  if b.state = .settling then none else b.capture.bind fun k => b.figures.map fun f => (k, f)

/-- READ BOOK's SUMMARY fields (R184). The settling figures share one presence byte. -/
def summaryFields (b : Book) : List Byte :=
  be 4 b.start ++ be 4 b.close ++ be 1 b.mark.toNat ++ be 5 b.deadline ++ be 1 (bookStateCode b.state) ++
  presence 1 (fun r => be 1 (holdReasonCode (some r))) b.holdReason ++ [flagByte b.owed] ++
  [flagByte (b.state == .discarded)] ++ be 1 b.expected.length ++ be 1 b.missing ++ be 1 b.counterFaults ++
  presence 85 (fun x : Capture × Figures => captureFields x.1 ++ countFields x.2 ++ energyFields x.2) b.settled

/-- A member of READ BOOK's MEMBERS part: its index and its snapshot, or the mark missing or not yet taken (R184), both
coded as an absent snapshot (log 40): the book's state tells which it is. -/
def memberFields (m : Member) : List Byte := be 1 m.index ++ presence 9 snapshotFields m.snapshot

/-- The members of a book as READ BOOK shows them: while COLLECTING, from the live-state records (R184). -/
def membersShown (live : Vector LiveState 192) (b : Book) : List Member :=
  if b.state = .collecting then snapshotSet live b.expected else b.members

/-- READ BOOK's MEMBERS fields: up to 16 members from a position on (R184). -/
def membersFields (live : Vector LiveState 192) (b : Book) (position : Nat) : List Byte :=
  let shown := ((membersShown live b).drop position).take 16
  be 1 b.expected.length ++ be 1 shown.length ++ shown.flatMap memberFields

/-- READ ROUND STATUS's fields: a round status record (R11, R12). -/
def roundFields (r : RoundRecord) : List Byte :=
  be 2 r.number.toNat ++ be 1 (if r.headOk then 0 else 1) ++ be 1 r.slotCount ++ be 1 r.outcomes.length ++
  r.outcomes.flatMap (fun o => be 1 (outcomeCode o)) ++ be 1 r.orders.length ++
  r.orders.flatMap (fun o => be 1 o.1 ++ be 1 (if o.2 then 0 else 1)) ++ be 1 (noticeCode r.notice) ++
  (match r.quiet with
   | .nothing => be 1 0 ++ presence 4 (be 4) none
   | .announce serial => be 1 1 ++ presence 4 (be 4) (some serial)
   | .garbled => be 1 2 ++ presence 4 (be 4) none)

/-- READ CLOCK's fields (R185). -/
def clockFields (engine : EngineState) (week : Vector DayClass 7) (c : DayClock) : List Byte :=
  be 2 c.day ++ be 4 c.second ++ be 1 c.weekday ++ [flagByte c.isSet] ++ be 1 c.mark.toNat ++ minuteField c.openStart ++
  be 4 c.minute ++
  presence 1 (fun d => be 1 (dayClassCode d)) (if engine = .unconfigured then none else some (dayClass week c.weekday c.day))

/-- The failure report's fields (R59, R65). -/
def failureFields (f : Nat × Option Nat) : List Byte := be 1 f.1 ++ presence 1 (be 1) f.2

/-- The dirty lines READ ENGINE reports: a dirty victim counts until its unit has written it back (R138, R185). -/
def State.dirtyLines (s : State) : Nat :=
  s.cache.dirtyCount + (if s.port.evicting.isSome then 1 else 0)

/-- READ ENGINE's fields (R185). -/
def engineFields (s : State) : List Byte :=
  be 1 (engineCode s.engine) ++ be 1 (phaseCode s.activation.phase) ++ be 1 s.activation.marking.length ++
  presence 3 failureFields s.activation.report ++ be 1 (memoryCode s.port.state) ++
  presence 6 (fun h : Header => be 1 (journalCode h.journal) ++ minuteField h.lastPosted) s.port.header ++
  be 1 s.books.length ++
  presence 5 (fun b : Book => be 4 b.start ++ be 1 (bookStateCode b.state))
    (s.books.find? fun b => b.state == .settling || b.state == .posting) ++
  be 1 s.dirtyLines

/-- SENSE ATTENTION's fields for an item (R191). -/
def itemFields (i : AttentionItem) : List Byte :=
  be 1 i.event.kind ++ be 4 i.event.object ++ be 1 i.repeats ++ be 1 i.event.detail.length ++ i.event.detail

/-! ### Runs of accounts -/

/-- The last account visited; a free byte where none was (log 10). -/
def lastField (last : Option Nat) (free : Byte) : List Byte := match last with | some a => be 1 a | none => [free]

/-- The counts of a SWEEP's RESULT (R186, R187). A CUT RESULT carries them all, its stopped indicator clear (log 41). -/
def sweepFields (r : SweepRun) (free : Byte) : List Byte :=
  be 1 r.visited ++ be 1 r.blocks ++ be 1 r.damaged ++ lastField r.lastVisited free ++ [flagByte (r.ending == .stopped)]

/-- The counts of a SCAN's RESULT (R188). -/
def scanFields (r : ScanRun) (free : Byte) : List Byte :=
  be 1 r.visited ++ be 1 r.suspended ++ be 1 r.damaged ++ lastField r.lastVisited free

/-- A BLOCK's body (section 12.3). -/
def blockBody (account position : Nat) (record : Option AccountRecord) (dirty : Bool) : List Byte :=
  match record with
  | none => be 1 account ++ be 1 position ++ be 1 1
  | some r => be 1 account ++ be 1 position ++ be 1 (if dirty then 2 else 0) ++ recordFields r

/-- Whether a record matches a SWEEP's filter: the table of R186. -/
def filterMatches : SweepFilter → Option AccountRecord → Bool
  | .all, _ => true
  | .nonzero, some r => r.balance != 0
  | .arrears, some r => r.standing == .arrears
  | .damaged, none => true
  | _, _ => false

/-- A balance compared with a SCAN's threshold (R188, step 3). -/
def comparisonHolds : Comparison → Int → Int → Bool
  | .equal, b, t => b == t
  | .atMost, b, t => decide (b ≤ t)
  | .atLeast, b, t => decide (t ≤ b)

/-! ### The STATEMENT (R171, section 12.3) -/

/-- Figures of 0, for a final book without any, which no run reaches (section 12.3: a final book has been settled). -/
def noFigures : Figures :=
  { settled := 0, missing := 0, rebased := 0, suspended := 0, excluded := 0, clamped := 0, totalSale := 0,
    totalPurchase := 0, localMatch := 0, excludedExport := 0, excludedImport := 0, grid := none, residue := 0,
    localDebits := 0, localCredits := 0, gridDebits := 0, gridCredits := 0 }

/-- A capture of 0, likewise. -/
def noCapture : Capture := { band := 0, gridPrice := 0, feedPrice := 0, share := 0, fee := 0, localPrice := 0 }

/-- A STATEMENT's body: 97 bytes. -/
def statementBody (b : Book) : List Byte :=
  let f := b.figures.getD noFigures
  be 4 b.start ++ be 4 b.close ++ be 1 b.mark.toNat ++ be 1 (if b.state = .discarded then 1 else 0) ++
  be 1 (holdReasonCode b.holdReason) ++ captureFields (b.capture.getD noCapture) ++ countFields f ++
  be 1 b.counterFaults ++ energyFields f

/-- A STATEMENT frame. -/
def statementFrame (b : Book) : OutFrame :=
  { kind := statementKind, tag := 0, body := statementBody b, restart := .absent }

/-- A RESULT's body, with the attention count and the indicators as the frame is queued (R167, section 12.3). -/
def resultBody (r : CommandResult) (items : Nat) (overflow overrun discards : Bool) : List Byte :=
  [r.code] ++ be 1 (outcomeClassCode r.outcome) ++ be 1 r.detail ++ be 1 items ++
  [indicatorByte (r.overflow.getD overflow) overrun discards] ++ r.fields

end Sys2Proof.Machine
end

