-- ==== Sys2Proof/Machine/Runs.lean ====
section
/-! DEFINITION. The executing command's turns in its execution phase: what each command does when what it waits for is
there (R38, R122 to R124, R126, R135, R144, R180, R186 to R188), and how a command is cut (R168, R169, R187). -/

namespace Sys2Proof.Machine

/-- A line served to a reader (R137). -/
def State.touch (s : State) (line : Nat) : State := { s with cache := s.cache.touch line }

/-- A free value counted as drawn (log 10). -/
def State.drawn (s : State) : State := { s with freeCount := s.freeCount + 1 }

/-! ### READ ACCOUNT (R180) -/

def State.readAccountTurn (s : State) (account : Nat) : Option State :=
  match s.cache.lookup account with
  | .good line r => some ((s.touch line).answer .done 0 (accountFields account (some r) (s.cache.isDirty line)))
  | .damaged line => some ((s.touch line).answer .done 0 (accountFields account none false))
  | .miss => none

/-! ### SWEEP ACCOUNTS (R186, R187) -/

/-- The SWEEP ends, as its ending says. -/
def State.sweepEnd (s : State) (r : SweepRun) : State :=
  let s' := if r.lastVisited.isNone then s.drawn else s
  match r.ending with
  | .cut c => s'.answer .cut (cutCode c) (sweepFields r s.freeByte)
  | _ => s'.answer .done 0 (sweepFields r s.freeByte)

/-- The SWEEP moves to its next account, or ends (R186, step 5). -/
def State.sweepAdvance (s : State) (r : SweepRun) : State :=
  if r.ending = .goingOn && r.inHand + r.order.step ≤ r.order.last then
    s.setRun (.sweep { r with inHand := r.inHand + r.order.step, block := none })
  else s.sweepEnd { r with block := none }

/-- The record of the account in hand tested (R186, steps 2 and 3). -/
def State.sweepVisit (s : State) (r : SweepRun) (record : Option AccountRecord) (dirty : Bool) : State :=
  let r' : SweepRun :=
    { r with visited := r.visited + 1, damaged := if record.isNone then r.damaged + 1 else r.damaged,
             lastVisited := some r.inHand }
  if filterMatches r.order.filter record then
    s.setRun (.sweep { r' with block := some (blockBody r.inHand r.blocks record dirty) })
  else s.sweepAdvance r'

def State.sweepTurn (s : State) (r : SweepRun) : Option State :=
  if r.block.isSome then none
  else
    match s.cache.lookup r.inHand with
    | .good line x => some ((s.touch line).sweepVisit r (some x) (s.cache.isDirty line))
    | .damaged line => some ((s.touch line).sweepVisit r none false)
    | .miss => none

/-! ### SCAN ACCOUNTS (R188) -/

/-- The SCAN ends with its counts. -/
def State.scanEnd (s : State) (outcome : OutcomeClass) (detail : Nat) (r : ScanRun) (found : List Byte) : State :=
  (if r.lastVisited.isNone then s.drawn else s).answer outcome detail (found ++ scanFields r s.freeByte)

/-- The SCAN moves on, or ends NOT_SATISFIED or cut. -/
def State.scanAdvance (s : State) (r : ScanRun) : State :=
  match r.ending with
  | .cut c => s.scanEnd .cut (cutCode c) r []
  | _ =>
    if r.inHand + r.order.step ≤ r.order.last then
      s.setRun (.scan { r with inHand := r.inHand + r.order.step, tested := false })
    else s.scanEnd .done 2 r []

/-- Whether an account is of a suspended participant (R188, step 1). -/
def State.isSuspended (s : State) (account : Nat) : Bool :=
  decide (account < Config.participants) && nonVacant (s.active.entry account) &&
    (s.active.entry account).status == .suspended

/-- A record compared (R188, step 3); a SCAN that has been cut takes no HIT. -/
def State.scanCompare (s : State) (r : ScanRun) (x : AccountRecord) : State :=
  if r.ending = .goingOn && comparisonHolds r.order.comparison x.balance r.order.threshold then
    s.scanEnd .done 1 r (be 1 r.inHand ++ signedBe 6 x.balance)
  else s.scanAdvance r

/-- The account in hand tested once, on the active table as it stands when it is visited, and then read (R188). -/
def State.scanTurn (s : State) (r : ScanRun) : Option State :=
  let visited : ScanRun := { r with visited := r.visited + 1, lastVisited := some r.inHand }
  if !r.tested && s.isSuspended r.inHand && r.ending = .goingOn then
    if r.order.skipSuspended then some (s.scanAdvance { visited with suspended := r.suspended + 1 })
    else some (s.scanEnd .done 3 visited (be 1 r.inHand))
  else
    match s.cache.lookup r.inHand with
    | .good line x => some ((s.touch line).scanCompare visited x)
    | .damaged line => some ((s.touch line).scanAdvance { visited with damaged := r.damaged + 1 })
    | .miss => if r.tested then none else some (s.setRun (.scan { r with tested := true }))

/-! ### REBASE (R38) -/

/-- Steps 6 and 7. -/
def State.rebaseTurn (s : State) (index : Nat) : Option State :=
  match s.cache.lookup index with
  | .good line r =>
    some (({ (s.touch line) with cache := (s.cache.touch line).setRebase line } : State).answer .done
      (if r.rebasePending then 2 else 1) [])
  | .damaged line => some ((s.touch line).refuse damagedCode)
  | .miss => none

/-! ### TRANSFER (R122 to R124) -/

/-- Every lock released. -/
def State.unlock (s : State) : State := { s with cache := s.cache.unlockAll }

/-- A refusal of R123, with its fields. -/
def State.transferRefuse (s : State) (detail : Nat) (fields : List Byte) : State :=
  s.unlock.answer .refused detail fields

/-- An account's image after an amount (R124). -/
def transferImage (t : TableSet) (account : Nat) (r : AccountRecord) (amount : Int) : Image :=
  { account := account
    record := { r with balance := r.balance + amount, standing := t.standing account (r.balance + amount) }
    changes := true, was := r.standing }

/-- Steps 3 and 4 of R123 and the images of R124. -/
def State.transferDecide (s : State) (o : TransferOrder) (payer payee : AccountRecord) : State :=
  let floor := (s.active.entry o.payer).creditFloor
  if !balanceInRange (payer.balance - o.amount) then s.transferRefuse rangeCode (be 1 o.payer)
  else if !balanceInRange (payee.balance + o.amount) then s.transferRefuse rangeCode (be 1 o.payee)
  else if o.mode = .checked && decide (o.payer < Config.participants) && nonVacant (s.active.entry o.payer) &&
      decide (payer.balance - o.amount < floor) then
    s.transferRefuse fundsCode (signedBe 6 payer.balance ++ signedBe 6 floor)
  else
    s.setRun (.transferJournal o
      [transferImage s.active o.payer payer (-(o.amount : Int)), transferImage s.active o.payee payee o.amount] 0)

/-- A line served and locked (R123, R141). -/
def State.lockLine (s : State) (line : Nat) : State := { s with cache := (s.cache.touch line).setLock line true }

/-- Step 1 of R123. -/
def State.payerTurn (s : State) (o : TransferOrder) : Option State :=
  match s.cache.lookup o.payer with
  | .good line _ => some ((s.lockLine line).setRun (.transferPayee o))
  | .damaged line => some ((s.touch line).transferRefuse damagedCode (be 1 o.payer))
  | .miss => none

/-- Step 2 of R123 and what follows. -/
def State.payeeTurn (s : State) (o : TransferOrder) : Option State :=
  match s.cache.lookup o.payee with
  | .good line payee =>
    match s.cache.lookup o.payer with
    | .good _ payer => some ((s.lockLine line).transferDecide o payer payee)
    | _ => some (s.transferRefuse damagedCode (be 1 o.payer))
  | .damaged line => some ((s.touch line).transferRefuse damagedCode (be 1 o.payee))
  | .miss => none

/-- Step 4 of R124: a line found clean is passed over; when both are written, the header is cleared. R124 says "both
lines" and no order; that the payer's line is written first is the model's choice (log 48). -/
def State.transferWriteTurn (s : State) (o : TransferOrder) (images : List Image) (cursor : Nat) : Option State :=
  match images[cursor]? with
  | none => some (s.setRun (.transferClear o images))
  | some i =>
    match s.cache.find i.account with
    | some line =>
      if s.cache.isDirty line then none else some (s.setRun (.transferWriteBack o images (cursor + 1)))
    | none => some (s.setRun (.transferWriteBack o images (cursor + 1)))

/-! ### REPAIR ACCOUNT (R126) -/

/-- The record REPAIR ACCOUNT writes (R126, step 6). -/
def repairRecord (o : RepairOrder) : AccountRecord :=
  { balance := o.balance, baseExport := BitVec.ofNat 32 o.baseExport, baseImport := BitVec.ofNat 32 o.baseImport,
    baseMinute := o.baseMinute, rebasePending := false, standing := o.standing, lastPosted := none }

/-- Step 5. -/
def State.repairTurn (s : State) (o : RepairOrder) : Option State :=
  match s.cache.lookup o.account with
  | .good line _ => some ((s.touch line).refuse notDamagedCode)
  | .damaged line => some ((s.touch line).setRun (.repairWrite o))
  | .miss => none

/-! ### FLUSH (R144) -/

/-- The next account of the flush list. A line being evicted is still dirty until its unit completes (R138). -/
def State.flushTurn (s : State) (toWrite : List Nat) (count : Nat) : Option State :=
  match toWrite with
  | [] => some (s.answer .done 0 (be 1 count))
  | a :: rest =>
    match s.cache.find a with
    | some line => if s.cache.isDirty line then none else some (s.setRun (.flush rest count))
    | none => if s.port.evicting = some a then none else some (s.setRun (.flush rest count))

/-! ### INIT ACCOUNT MEMORY (R135) -/

/-- Step 3 and step 1 of its own list: start-up has ended; the memory state becomes NOT_READY and every line invalid. -/
def State.initTurn (s : State) : Option State :=
  if s.port.startup = .idle then
    some (({ s with port := { s.port with state := .notReady }, cache := .empty } : State).setRun .initHeader)
  else none

/-! ### One turn of the executing command -/

/-- The command waits at the step at which no book may be SETTLING or POSTING (R38, R122, R126). -/
def State.waitsForBooks (s : State) : Bool :=
  match s.run with
  | some (.rebaseWait _) | some (.transferWait _) | some (.repairWait _) => true
  | _ => false

/-- One turn of the executing command; `none` while it waits, or has nothing to do. -/
def State.commandTurn (s : State) : Option State :=
  match s.run with
  | some (.readAccount a) => s.readAccountTurn a
  | some (.sweep r) => s.sweepTurn r
  | some (.scan r) => s.scanTurn r
  | some (.rebaseWait i) => if s.bookBusy then none else some (s.setRun (.rebaseRead i))
  | some (.rebaseRead i) => s.rebaseTurn i
  | some (.transferWait o) =>
      if s.bookBusy || s.activation.phase == .checking then none else some (s.setRun (.transferPayer o))
  | some (.transferPayer o) => s.payerTurn o
  | some (.transferPayee o) => s.payeeTurn o
  | some (.transferWriteBack o images cursor) => s.transferWriteTurn o images cursor
  | some (.repairWait o) => if s.bookBusy then none else some (s.setRun (.repairRead o))
  | some (.repairRead o) => s.repairTurn o
  | some (.flush toWrite count) => s.flushTurn toWrite count
  | some .initWait => s.initTurn
  | _ => none

/-! ### Cutting (R168, R169, R187) -/

/-- Whether an operation is the executing command's. -/
def PortOp.isCommand : PortOp → Bool
  | .fill .command _ _ _ => true
  | .writeBack .transfer _ _ | .writeBack .flush _ _ => true
  | .journalEntry .transfer _ _ | .journalHeader .transfer _ | .journalClear .transfer _ => true
  | .repairRecord _ _ | .initHeader _ | .initRecord _ | .initReadback => true
  | _ => false

/-- An operation of the executing command is in progress. -/
def MemoryPort.servesCommand (p : MemoryPort) : Bool := match p.inProgress with | some o => o.isCommand | none => false

/-- The cut command's RESULT: FLUSH carries its count. -/
def State.cutEnd (s : State) (reason : CutReason) (flushed : Option Nat) : State :=
  s.answer .cut (cutCode reason) (match flushed with | some n => be 1 n | none => [])

/-- A cut asked of a run already asked to end: the power warning overrides, RESTART does not override the warning. A STOP
that came before leaves no trace in the RESULT of a cut SWEEP (log 41). -/
def cutEnding (reason : CutReason) : RunEnding → RunEnding
  | .cut .quiesced => .cut .quiesced
  | _ => .cut reason

/-- The executing command is cut (R168, R169). One in its result phase is left alone (R167); a SWEEP completes its
account in hand as R187 gives; any other ends now, or when its operation in progress has completed (log 19). -/
def State.cutCommand (s : State) (reason : CutReason) : State :=
  match s.run with
  | none => s
  | some (.result _) => s
  | some .deciding => s
  | some (.cutting r n) => if reason = .quiesced then s.setRun (.cutting .quiesced n) else s.setRun (.cutting r n)
  | some (.sweep r) =>
    let r := { r with ending := cutEnding reason r.ending }
    if reason = .quiesced && r.block.isNone && !s.port.servesCommand then s.sweepEnd r else s.setRun (.sweep r)
  | some (.scan r) =>
    let r := { r with ending := cutEnding reason r.ending }
    if s.port.servesCommand then s.setRun (.scan r) else s.scanAdvance r
  | some (.flush _ n) =>
    if s.port.servesCommand then s.setRun (.cutting reason (some n)) else s.cutEnd reason (some n)
  | some _ => if s.port.servesCommand then s.setRun (.cutting reason none) else s.cutEnd reason none

/-- A cut command whose operation has completed ends (R169). -/
def State.endCut (s : State) : State :=
  match s.run with
  | some (.cutting reason flushed) => s.cutEnd reason flushed
  | _ => s

/-- STOP: asks a SWEEP in its execution phase, not already stopped or cut, to end (R165). -/
def State.stopSweep (s : State) : State :=
  match s.run with
  | some (.sweep r) => if r.ending = .goingOn then s.setRun (.sweep { r with ending := .stopped }) else s
  | _ => s

end Sys2Proof.Machine
end

