-- ==== Sys2Proof/Machine/Arbiter.lean ====
section
/-! DEFINITION. The arbiter over the account memory port (R142, R143), the steps of a RESTART sequence before its
start-up (R175), and `State.drive`: after an event, the units take their turns until each waits for a further event,
and the port is granted. -/

namespace Sys2Proof.Machine

/-! ### What is asked of the port -/

/-- A request of the arbiter: the record of an account for a reader, or an operation. -/
inductive Want where
  | read (reader : Reader) (account : Nat)
  | op (operation : PortOp)
  deriving DecidableEq, Repr

/-- The flush of dirty lines in ascending account number: of the power warning (R146), and of a RESTART sequence (R175
step 5), whose order is the model's choice (log 46). -/
def State.flushWant (s : State) (purpose : WriteBackUse) : Option Want :=
  s.cache.dirtyAccounts.findSome? fun a => (s.cache.find a).map fun line => .op (.writeBack purpose line a)

/-- The header that ends a start-up (R132, R133). -/
def closingHeader (h : Header) (outcome : ReplayOutcome) : Header :=
  { h with journal := .empty, count := 0,
           lastPosted := if outcome = .replayed && h.journal = .bookReady then h.book else h.lastPosted }

/-- What start-up asks for (R131 to R133). -/
def MemoryPort.startupWant (p : MemoryPort) : Option Want :=
  match p.startup with
  | .idle => none
  | .readingHeader => some (.op .startupHeaderRead)
  | .verifying _ seen => some (.op (.journalVerifyRead seen.length))
  | .writing _ ((a, r) :: _) => some (.op (.replayRecord a r))
  | .writing _ [] => none
  | .closing h outcome => some (.op (.startupHeaderWrite (closingHeader h outcome)))

/-- A write-back asked for by account. -/
def State.writeBackWant (s : State) (purpose : WriteBackUse) (account : Nat) : Option Want :=
  (s.cache.find account).map fun line => .op (.writeBack purpose line account)

/-- What the executing command asks for. -/
def State.commandWant (s : State) : Option Want :=
  match s.run with
  | some (.readAccount a) => some (.read .command a)
  | some (.sweep r) => if r.block.isSome then none else some (.read .command r.inHand)
  | some (.scan r) => some (.read .command r.inHand)
  | some (.rebaseRead i) => some (.read .command i)
  | some (.transferPayer o) => some (.read .command o.payer)
  | some (.transferPayee o) => some (.read .command o.payee)
  | some (.transferJournal _ images cursor) => images[cursor]?.map fun i => .op (.journalEntry .transfer cursor i)
  | some (.transferHeader _ _) =>
      some (.op (.journalHeader .transfer { s.port.copy with journal := .transferReady, book := none, count := 2 }))
  | some (.transferWriteBack _ images cursor) => images[cursor]?.bind fun i => s.writeBackWant .transfer i.account
  | some (.transferClear _ _) => some (.op (.journalClear .transfer { s.port.copy with journal := .empty }))
  | some (.repairRead o) => some (.read .command o.account)
  | some (.repairWrite o) => some (.op (.repairRecord o.account (repairRecord o)))
  | some (.flush (a :: _) _) => s.writeBackWant .flush a
  | some .initHeader => some (.op (.initHeader false))
  | some (.initRecords n) => some (.op (.initRecord n))
  | some .initFinal => some (.op (.initHeader true))
  | some .initReadback => some (.op .initReadback)
  | _ => none

/-- What the units ask for while the memory state is READY and no RESTART sequence runs, in the order of R142 below
start-up. -/
def State.unitWant (s : State) : Option Want :=
  if s.memoryReady && s.sequence == .none then
    s.settleWant.map (.read .settlement) <|> s.postWant.map .op <|> s.activationWant.map (.read .activation)
  else none

/-- The request granted next: the order of priority of R142. While QUIESCED the power-warning flush alone (R145); during
the flush of a RESTART sequence that flush alone (R176). -/
def State.want (s : State) : Option Want :=
  if s.isQuiesced then s.flushWant .powerFlush
  else
    match s.sequence with
    | .flush _ => s.flushWant .restartFlush
    | _ =>
      s.port.startupWant <|> s.unitWant <|> s.commandWant <|>
        (if s.memoryReady then s.noticeWant.map (fun w => .read (.notice w.1) w.2) else none)

/-- The record a victim line holds that must be written back first (R138). -/
def dirtyRecord (l : Option CacheLine) : Option (Nat × AccountRecord) :=
  match l with
  | some { tag := t, record := some r, dirty := true, .. } => some (t, r)
  | _ => none

/-- An operation begun on the port. The grant of a posting's header write makes the phase APPLY (R117). -/
def State.beginOp (s : State) (o : PortOp) : State :=
  let s : State := { s with port := { s.port with inProgress := some o } }
  match o with
  | .journalHeader .posting _ => s.setPosting .apply 0
  | _ => s

/-- A fill begun: the victim is chosen, and leaves its line, at the grant (R138; log 16). -/
def State.beginFill (s : State) (r : Reader) (account : Nat) : State :=
  match s.cache.victim none with
  | some line =>
    ({ s with cache := s.cache.drop line } : State).beginOp (.fill r account line (dirtyRecord (s.cache.line line)))
  | none => s

/-- The port granted, when it is free and a request waits (R143). -/
def State.grant (s : State) : State :=
  if s.port.inProgress.isSome then s
  else
    match s.want with
    | some (.op o) => s.beginOp o
    | some (.read r a) => s.beginFill r a
    | none => s

/-! ### The RESTART sequence before start-up (R175) -/

/-- Step 1 on the Activation Unit (R63, R68). -/
def Activation.abandon (a : Activation) : Activation :=
  { a with phase := if a.phase = .awaitQuiet || a.phase = .checking then .awaitBoundary else a.phase, toCheck := [] }

/-- Step 1 on the Posting Unit: the recheck list is kept (R121, R127). -/
def Posting.abandon (p : Posting) : Posting :=
  { phase := .idle, book := none, cursor := 0, images := [], durable := false, recheck := p.recheck }

/-- Steps 1 to 4, one event; the flush of step 5 begins. A start-up in progress takes no further grant, and its operation
in progress completes as a start-up's; step 7 then begins afresh (the model's choice, log 42). -/
def State.beginSequence (s : State) (keepHeld : Bool) : State :=
  { s with work := none, posting := s.posting.abandon, activation := s.activation.abandon, books := [],
           live := Vector.replicate 192 .initial,
           ports := s.ports.map fun p => { p with queue := [], enrolment := .free },
           attention := { items := [], overflow := false }, sequence := .flush keepHeld }

/-- Step 6 and the beginning of step 7: every line invalid, the memory state NOT_READY, and every request still waiting
withdrawn (R131, R176). -/
def State.beginStartup (s : State) (keepHeld : Bool) : State :=
  ({ s with cache := .empty, sequence := .startup keepHeld,
            port := { s.port with state := .notReady, startup := .readingHeader } } : State).withdrawPrefetches

/-- The port is idle and no line is dirty. -/
def State.flushed (s : State) : Bool := s.port.inProgress.isNone && s.cache.dirtyAccounts.isEmpty

/-! ### Turns -/

/-- The release of the power-warning input takes effect once its flush has ended: the engine leaves QUIESCED and the
sequence begins (R147). -/
def State.releaseTurn (s : State) : Option State :=
  if !s.powerWarning && s.flushed then some (({ s with engine := s.before } : State).beginSequence false) else none

/-- The executing command's turn and the admission of a WAITING book, which can come in one instant: then a free value
says which is taken first (R38, R81, R122; log 11). -/
def State.commandOrBookTurn (s : State) : Option State :=
  match s.commandTurn, s.admissible with
  | some c, some b =>
    if s.waitsForBooks then
      if Config.commandFirst s.freeCount then some c.drawn else some (s.drawn.enterSettling b)
    else some c
  | some c, none => some c
  | none, some b => some (s.enterSettling b)
  | none, none => none

/-- The commit moment (R62). -/
def State.commitTurn (s : State) : Option State := if s.commitMoment then some s.beginChecks else none

/-- One turn of one unit: the first that has something to do without a further event. -/
def State.turn (s : State) : Option State :=
  if s.isQuiesced then s.commandTurn <|> s.releaseTurn
  else
    match s.sequence with
    | .flush keepHeld => if s.flushed then some (s.beginStartup keepHeld) else none
    | .startup _ => none
    | .ports _ => s.noticeTurn
    | .none =>
      s.settleTurn <|> s.postTurn <|> s.checkTurn <|> s.markTurn <|> s.commandOrBookTurn <|> s.commitTurn <|>
        s.noticeTurn

/-- Turns until every unit waits, then the grant. The bound is above any number of turns (log 32). -/
def driveFor : Nat → State → State
  | 0, s => s.grant
  | n + 1, s =>
    match s.turn with
    | some s' => driveFor n s'
    | none => s.grant

/-- The follow-on work of an event. -/
def State.drive (s : State) : State := driveFor Config.turns s

end Sys2Proof.Machine
end

