-- ==== Sys2Proof/Machine/Commands.lean ====
section
/-! DEFINITION. The start of each station command's execution phase: the ordered steps of its rule up to its result or to
the point at which it waits. Each is reached after the QUIESCED and BAD_PARAMETER steps (R166), which `State.begin`
decides for all; `State.arrive` takes a good COMMAND frame into the buffers (R164, R169). -/

namespace Sys2Proof.Machine

/-- A DONE result with detail 0 or a named one. -/
def State.finish (s : State) (detail : Nat) (fields : List Byte) : State := s.answer .done detail fields

/-- The feeder of a number in range. -/
def feederOf (n : Nat) : Option Feeder := if h : n < 4 then some ⟨n, h⟩ else none

/-- The copy of the tables a command names. -/
def State.copyOf (s : State) : TableCopy → TableSet
  | .active => s.active
  | .staged => s.staged

/-! ### Reading commands (chapter 11, R12) -/

/-- R180. A hit is served at once; a miss goes to the arbiter. -/
def State.startReadAccount (s : State) (account : Nat) : State :=
  if !s.memoryReady then s.refuse notReadyCode
  else
    match s.readAccountTurn account with
    | some s' => s'
    | none => (s.setRun (.readAccount account)).drive

/-- R181. -/
def State.startReadParticipant (s : State) (index : Nat) (copy : TableCopy) : State :=
  s.finish 0 (entryFields ((s.copyOf copy).entry index) ++ liveFields (s.liveOf index))

/-- R182. -/
def State.startReadFeeder (s : State) (feeder : Nat) (copy : TableCopy) : State :=
  match feederOf feeder with
  | some f => s.finish 0 (feederFields ((s.copyOf copy).feeder feeder) s.ports[f])
  | none => s.refuse badParameterCode

/-- R183. -/
def State.startReadBand (s : State) (position : Nat) (copy : TableCopy) : State :=
  s.finish 0 (bandResultFields (s.copyOf copy) position)

/-- The later started of two books. -/
def laterBook (best : Option Book) (b : Book) : Option Book :=
  match best with
  | some a => if a.start < b.start then some b else some a
  | none => some b

/-- The book READ BOOK names: NEWEST is the one with the greatest start minute (R184). -/
def State.selectBook (s : State) : BookSelector → Option Book
  | .startMinute m => s.book m
  | .newest => s.books.foldl laterBook none

/-- R184. -/
def State.startReadBook (s : State) (selector : BookSelector) (part : BookPart) : State :=
  match s.selectBook selector, part with
  | none, _ => s.refuse noBookCode
  | some b, .summary => s.finish 0 (summaryFields b)
  | some b, .members position => s.finish 0 (membersFields s.live b position)

/-- R12. -/
def State.startReadRoundStatus (s : State) (feeder : Nat) : State :=
  match feederOf feeder with
  | some f =>
    match s.ports[f].last with
    | some r => s.finish 0 (roundFields r)
    | none => s.finish 1 []
  | none => s.refuse badParameterCode

/-- R185. -/
def State.startReadClock (s : State) : State := s.finish 0 (clockFields s.engine s.active.week s.clock)

/-- R185. -/
def State.startReadEngine (s : State) : State := s.finish 0 (engineFields s)

/-- R186. -/
def State.startSweep (s : State) (o : SweepOrder) : State :=
  if !s.memoryReady then s.refuse notReadyCode
  else
    (s.setRun (.sweep { order := o, inHand := o.first, visited := 0, blocks := 0, damaged := 0, lastVisited := none,
                        block := none, ending := .goingOn })).drive

/-- R188. -/
def State.startScan (s : State) (o : ScanOrder) : State :=
  if !s.memoryReady then s.refuse notReadyCode
  else
    (s.setRun (.scan { order := o, inHand := o.first, tested := false, visited := 0, suspended := 0, damaged := 0, lastVisited := none,
                       ending := .goingOn })).drive

/-! ### Feeder commands (R14, R16, R17) -/

/-- R14. -/
def State.startHold (s : State) (feeder : Nat) : State :=
  match feederOf feeder with
  | none => s.refuse badParameterCode
  | some f =>
    match s.ports[f].state with
    | .running => (s.modifyPort f fun p => { p with state := .holdPending }).finish 0 []
    | .holdPending => s.finish 0 []
    | .held => s.finish 0 []
    | .off => s.refuse notRunningCode

/-- R16. -/
def State.startResume (s : State) (feeder : Nat) : State :=
  match feederOf feeder with
  | none => s.refuse badParameterCode
  | some f =>
    match s.ports[f].state with
    | .running => s.finish 0 []
    | .holdPending => (s.modifyPort f fun p => { p with state := .running }).finish 0 []
    | .held => (if s.enabled f then s.modifyPort f FeederPort.newRound else s.feederOff f).finish 0 []
    | .off => s.refuse notRunningCode

/-- R17. -/
def State.startEnrol (s : State) (feeder rounds serial : Nat) : State :=
  match feederOf feeder with
  | none => s.refuse badParameterCode
  | some f =>
    if s.ports[f].state = .off || s.ports[f].state = .held then s.refuse notRunningCode
    else if s.ports[f].enrolment.condition != .free then s.refuse busyCode
    else (s.modifyPort f fun p => { p with enrolment := Enrolment.start rounds serial }).finish 1 []

/-! ### Staging (R54 to R58) -/

/-- The steps every staging command shares: REFUSED ARMED, or the staged set written (R54). -/
def State.stage (s : State) (write : TableSet → TableSet) : State :=
  if s.isArmed then s.refuse armedCode else ({ s with staged := write s.staged } : State).finish 0 []

/-- R55. -/
def State.startStageParticipant (s : State) (index : Nat) (e : ParticipantEntry) : State :=
  s.stage fun t => { t with participants := t.participants.setIfInBounds index e }

/-- R56. -/
def State.startStageFeeder (s : State) (feeder : Nat) (e : FeederEntry) : State :=
  s.stage fun t => { t with feeders := t.feeders.setIfInBounds feeder e }

/-- R56. -/
def State.startStageGeneral (s : State) (g : GeneralEntry) (week : Vector DayClass 7) : State :=
  s.stage fun t => { t with general := g, week := week }

/-- R57. -/
def State.startStageBand (s : State) (position : Nat) (band : Option Band) : State :=
  s.stage fun t => { t with bands := t.bands.setIfInBounds position band }

/-- R57. -/
def State.startClearBands (s : State) : State := s.stage fun t => { t with bands := Vector.replicate 12 none }

/-- R58. -/
def State.startStageCopy (s : State) : State := s.stage fun _ => s.active

/-! ### Activation (R60, R61) -/

/-- R60 in UNCONFIGURED: the checks run inside the command; check 11 has nothing to read. -/
def State.activateNow (s : State) : State :=
  match firstFailure s.staged s.memoryReady with
  | some f => (s.failChecks f).answer .cut checkFailedCode (failureFields f)
  | none => (s.commit.finish 2 []).drive

/-- R60. -/
def State.startActivate (s : State) : State :=
  if s.engine = .running then
    if s.isArmed then s.refuse armedCode
    else (s.setActivation { s.activation with phase := .awaitBoundary }).finish 1 []
  else if !s.memoryReady then s.refuse notReadyCode
  else if !s.clock.isSet then s.refuse clockUnsetCode
  else s.activateNow

/-- R61: leaving CHECKING is an occasion of the boundary search (R73). -/
def State.startDisarm (s : State) : State :=
  if !s.isArmed then s.refuse notArmedCode
  else
    let idle := s.setActivation { s.activation with phase := .idle, toCheck := [] }
    if s.activation.phase = .checking then (idle.boundarySearch.1.finish 0 []).drive else idle.finish 0 []

/-! ### The clock and the books (R70, R71, R85, R86) -/

/-- SET CLOCK's fields: clock time, step, whether a collection ended, whether a boundary was taken (R70). -/
def clockStepFields (time : Nat) (step : Int) (ended taken : Bool) : List Byte :=
  be 5 time ++ signedBe 2 step ++ [flagByte ended, flagByte taken]

/-- The clock with the values given (R70). -/
def DayClock.setTo (c : DayClock) (day second weekday : Nat) : DayClock :=
  { c with day := day, second := second, weekday := weekday }

/-- Whether a forward step from a clock time reached or passed a minute that is a multiple of the interval length
(R71). -/
def State.passedMultiple (s : State) (before : Nat) : Bool := decide (before < s.candidate * 60)

/-- A forward step (R71, case 1), the clock already set: the state, whether a collection ended, whether a boundary was
taken. -/
def State.stepForward (s : State) (before : Nat) : State × Bool × Bool :=
  let ended := s.deadlineReached
  let s := if ended then s.endCollection else s
  if s.passedMultiple before then
    let taken := s.boundarySearch
    (taken.1, ended || (taken.2 && s.collecting.isSome), taken.2)
  else (s, ended, false)

/-- R70. A deadline or a multiple that a tick reached and its row has not served yet is not served first (the model's
choice, log 45). -/
def State.startSetClock (s : State) (day second weekday : Nat) : State :=
  let c := s.clock.setTo day second weekday
  if s.engine = .unconfigured then
    ({ s with clock := { c with isSet := true } } : State).finish 0 (clockStepFields c.time 0 false false)
  else
    let step : Int := (c.time : Int) - s.clock.time
    if step < -Config.stepLimit || Config.stepLimit < step then s.refuse stepTooLargeCode
    else
      let moved : State := { s with clock := c }
      if 0 < step then
        let r := moved.stepForward s.clock.time
        (r.1.finish 0 (clockStepFields c.time step r.2.1 r.2.2)).drive
      else moved.finish 0 (clockStepFields c.time step false false)

/-- Steps 3 and 4 of R85. -/
def State.ofHeld (s : State) (start : Nat) (act : State → State) : State :=
  match s.book start with
  | none => s.refuse noBookCode
  | some b => if b.state = .held then act s else s.refuse notHeldCode

/-- R85: the released book is WAITING until the Book List's test admits it (R81). -/
def State.startReleaseBook (s : State) (start : Nat) : State :=
  s.ofHeld start fun s =>
    ((s.updateBook start fun b =>
      { b with state := .waiting, holdReason := none, capture := none, figures := none }).finish 1 []).drive

/-- R86. -/
def State.startDiscardBook (s : State) (start : Nat) : State :=
  s.ofHeld start fun s => ((s.updateBook start fun b => { b with state := .discarded, owed := true }).finish 1 []).drive

/-! ### Accounts and account memory (R38, R122, R126, R135, R144) -/

/-- R38, steps 3 to 5. -/
def State.startRebase (s : State) (index : Nat) : State :=
  if !nonVacant (s.active.entry index) then s.refuse vacantCode
  else if !s.memoryReady then s.refuse notReadyCode
  else (s.setRun (.rebaseWait index)).drive

/-- R122, steps 3 to 5. -/
def State.startTransfer (s : State) (o : TransferOrder) : State :=
  if s.engine = .unconfigured then s.refuse notRunningCode
  else if !s.memoryReady then s.refuse notReadyCode
  else (s.setRun (.transferWait o)).drive

/-- R126, steps 3 and 4. -/
def State.startRepair (s : State) (o : RepairOrder) : State :=
  if !s.memoryReady then s.refuse notReadyCode else (s.setRun (.repairWait o)).drive

/-- The flush list: the accounts whose lines are dirty, in ascending order. The dirty victim of a fill in progress is one
of them until its unit completes (R138, R144). -/
def State.flushList (s : State) : List Nat :=
  match s.port.evicting with
  | some a => ascending (a :: s.cache.dirtyAccounts)
  | none => s.cache.dirtyAccounts

/-- R144: the flush list is fixed. -/
def State.startFlush (s : State) : State :=
  if !s.memoryReady then s.refuse notReadyCode else (s.setRun (.flush s.flushList 0)).drive

/-- R135, steps 2 and 3. -/
def State.startInit (s : State) : State :=
  if s.engine = .running then s.refuse configuredCode else (s.setRun .initWait).drive

/-! ### The engine (R173, R174) -/

/-- The register of a removed ENROL_DONE item's feeder becomes FREE (R19, R173). -/
def State.freeRegister (s : State) (e : Attention) : State :=
  match e with
  | .enrolDone f _ _ _ =>
    match feederOf f with
    | some f => s.modifyPort f fun p => { p with enrolment := .free }
    | none => s
  | _ => s

/-- SENSE ATTENTION's RESULT, which reports the overflow indicator as it stood before it was cleared (R173). -/
def State.senseAnswer (s : State) (overflow : Bool) (detail : Nat) (fields : List Byte) : State :=
  s.setRun (.result { builtResult s.code .done detail fields with overflow := some overflow })

/-- R173. -/
def State.startSense (s : State) : State :=
  match s.attention.items with
  | [] =>
    ({ s with attention := { items := [], overflow := false } } : State).senseAnswer s.attention.overflow 1 []
  | i :: rest =>
    (({ s with attention := { items := rest, overflow := false } } : State).freeRegister i.event).senseAnswer
      s.attention.overflow 0 (itemFields i)

/-- R174: the sequence begins when the RESULT has been sent. -/
def State.startRestart (s : State) (keepHeld : Bool) : State :=
  s.setRun (.result { builtResult s.code .done 0 [] with restart := .commanded keepHeld })

/-! ### Taking a command -/

/-- A command whose parameters are in range, in an engine that is not QUIESCED. -/
def State.startCommand (s : State) : Command → State
  | .readAccount a => s.startReadAccount a
  | .readParticipant i c => s.startReadParticipant i c
  | .readFeeder f c => s.startReadFeeder f c
  | .readBand p c => s.startReadBand p c
  | .readBook b p => s.startReadBook b p
  | .readRoundStatus f => s.startReadRoundStatus f
  | .readClock => s.startReadClock
  | .readEngine => s.startReadEngine
  | .sweepAccounts o => s.startSweep o
  | .scanAccounts o => s.startScan o
  | .hold f => s.startHold f
  | .resume f => s.startResume f
  | .enrol f n serial => s.startEnrol f n serial
  | .rebase i => s.startRebase i
  | .stageParticipant i e => s.startStageParticipant i e
  | .stageFeeder f e => s.startStageFeeder f e
  | .stageGeneral g w => s.startStageGeneral g w
  | .stageBand p b => s.startStageBand p b
  | .clearBands => s.startClearBands
  | .stageCopy => s.startStageCopy
  | .activate => s.startActivate
  | .disarm => s.startDisarm
  | .setClock d sec w => s.startSetClock d sec w
  | .releaseBook m => s.startReleaseBook m
  | .discardBook m => s.startDiscardBook m
  | .transfer o => s.startTransfer o
  | .repairAccount o => s.startRepair o
  | .flush => s.startFlush
  | .initAccountMemory => s.startInit
  | .senseAttention => s.startSense
  | .restart k => s.startRestart k

/-- A frame becomes the executing command (R164). -/
def State.install (s : State) (tag code : Byte) : State :=
  { s with link := { s.link with executing := some { tag := tag, code := code, run := .deciding } } }

/-- A parameter fault decided: QUIESCED first, then ARMED for a staging command, then BAD_PARAMETER (R54, R166). -/
def State.decideFaulty (s : State) (code : Byte) : State :=
  if s.isQuiesced then s.refuse quiescedCode
  else if stagingCodes.contains code.toNat && s.isArmed then s.refuse armedCode
  else s.refuse badParameterCode

/-- A frame becomes the executing command and is decided (R166). -/
def State.begin (s : State) (b : Buffered) : State :=
  match b.request with
  | .unknown (some code) => (s.install b.tag code).refuse unknownCommandCode
  | .unknown none => (s.drawn.install b.tag s.freeByte).refuse unknownCommandCode
  | .faulty code => (s.install b.tag code).decideFaulty code
  | .command c =>
    let s := s.install b.tag (BitVec.ofNat 8 (commandCode c))
    if s.isQuiesced then s.refuse quiescedCode else s.startCommand c

/-- The older waiting command becomes the executing command, when none is and none is held back (R164). -/
def State.takeWaiting (s : State) : State :=
  match s.link.executing, s.link.waiting with
  | none, b :: rest =>
    if s.commandsHeld then s else ({ s with link := { s.link with waiting := rest } } : State).begin b
  | _, _ => s

/-- A frame that cuts when it becomes the waiting command (R169). -/
def Request.cuts : Request → Bool
  | .command (.restart _) => true
  | _ => false

/-- How many buffers hold a frame (R164). -/
def StationLink.buffersFull (l : StationLink) : Bool :=
  decide (2 ≤ (if l.executing.isSome then 1 else 0) + l.waiting.length)

/-- A good COMMAND frame arrives (R164). It cuts the executing command when it is a RESTART that waits for it (R169). -/
def State.arrive (s : State) (b : Buffered) : State :=
  if s.link.executing.isNone && !s.commandsHeld then s.begin b
  else if s.link.buffersFull then { s with link := { s.link with overrun := true } }
  else
    let waits : State := { s with link := { s.link with waiting := s.link.waiting ++ [b] } }
    if b.request.cuts && s.link.executing.isSome then (waits.cutCommand .restart).drive else waits

end Sys2Proof.Machine
end

