-- ==== Sys2Proof/Machine/Completions.lean ====
section
/-! DEFINITION. What the completion of an operation on the account memory port does (chapter 8, R116 to R118, R124, R126,
R131 to R135): the unit written or read, and the next step of the work it belongs to. A completion that comes while
another operation, or none, holds the port is no event of the engine and changes nothing (log 3). -/

namespace Sys2Proof.Machine

/-- The port is free again. -/
def State.idlePort (s : State) : State := { s with port := { s.port with inProgress := none } }

/-- What follows every completion: a cut command whose operation it was ends, and the units go on. -/
def State.completed (s : State) : State := s.endCut.drive

/-- A unit written at its place. -/
def State.writeAt (s : State) (place : Nat) (bytes : List Byte) : State :=
  { s with memory := writeUnit s.memory place bytes }

/-- An account's record written (R129). -/
def State.writeRecord (s : State) (account : Nat) (r : AccountRecord) : State :=
  s.writeAt (Config.recordPlace account) (recordBytes account r)

/-- The header written with a format marker, and the header copy with it (R130). -/
def State.writeHeaderAs (s : State) (marker : Nat) (h : Header) : State :=
  { s.writeAt Config.headerPlace (headerBytes marker h) with port := { s.port with header := some h } }

/-- The header written with the engine's format marker. -/
def State.writeHeader (s : State) (h : Header) : State := s.writeHeaderAs Config.marker h

/-! ### The cache (R137 to R139) -/

/-- A dirty victim's record written back (R138). -/
def State.writeVictim (s : State) (victim : Option (Nat × AccountRecord)) : State :=
  match victim with
  | some v => s.writeRecord v.1 v.2
  | none => s

/-- Every Notice Builder that waits for the account a fill has brought in, whoever asked for the fill, is served from it
(R136, R158). -/
def State.fillArrived (s : State) (account : Nat) : State :=
  (List.finRange 4).foldl (fun s f => if s.ports[f].prefetch = .waiting account then s.servePrefetch f account else s) s

/-- A line filled, DAMAGED raised when the read was a check failure (R137). -/
def State.fillLine (s : State) (reader : Reader) (account line : Nat) (record : Option AccountRecord) : State :=
  let s : State := { s with cache := s.cache.fill line account record }
  if record.isNone then s.raise (.damaged account reader) else s

/-- A fill completes, with its victim's write-back before it (R137, R138). -/
def State.fillDone (s : State) (returned : Option (List Byte)) : State :=
  match s.port.inProgress with
  | some (.fill reader account line victim) =>
    let s := s.idlePort.writeVictim victim
    let record := recordOf account (readUnit s.memory (Config.recordPlace account) Config.recordSize returned)
    ((s.fillLine reader account line record).fillArrived account).completed
  | _ => s

/-- The line's record written into its account's place and the line clean, while the line still holds it (R139). -/
def State.writeLine (s : State) (line account : Nat) : State :=
  match s.cache.line line with
  | some { tag := t, record := some r, .. } =>
    if t = account then { s.writeRecord account r with cache := s.cache.clean line } else s
  | _ => s

/-- FLUSH's count after one line (R144), also while it is being cut. -/
def State.flushCounted (s : State) : State :=
  match s.run with
  | some (.flush (_ :: rest) n) => s.setRun (.flush rest (n + 1))
  | some (.cutting reason (some n)) => s.setRun (.cutting reason (some (n + 1)))
  | _ => s

/-- The next step of the work a write-back belongs to. -/
def State.afterWriteBack (s : State) (purpose : WriteBackUse) (line : Nat) : State :=
  match purpose with
  | .postingVictim image =>
    if s.posting.phase = .apply && !s.isQuiesced then
      (s.placeImage line image).setPosting .apply (s.posting.cursor + 1)
    else s
  | .transfer =>
    match s.run with
    | some (.transferWriteBack o images cursor) => s.setRun (.transferWriteBack o images (cursor + 1))
    | _ => s
  | .flush => s.flushCounted
  | .powerFlush | .restartFlush | .postingWriteBack => s

/-- A write-back completes. -/
def State.writeBackDone (s : State) : State :=
  match s.port.inProgress with
  | some (.writeBack purpose line account) =>
    ((s.idlePort.writeLine line account).afterWriteBack purpose line).completed
  | _ => s

/-! ### The journal (R116 to R118, R124) -/

/-- The next journal entry, or the header. -/
def State.afterEntry (s : State) (user : JournalUser) : State :=
  match user with
  | .posting =>
    if s.posting.phase = .journal && !s.isQuiesced then s.setPosting .journal (s.posting.cursor + 1) else s
  | .transfer =>
    match s.run with
    | some (.transferJournal o images cursor) =>
      if cursor + 1 < images.length then s.setRun (.transferJournal o images (cursor + 1))
      else s.setRun (.transferHeader o images)
    | _ => s

/-- A journal entry write completes. -/
def State.journalEntryDone (s : State) : State :=
  match s.port.inProgress with
  | some (.journalEntry user place image) =>
    ((s.idlePort.writeAt (Config.journalPlace place) (recordBytes image.account image.record)).afterEntry user).completed
  | _ => s

/-- An image applied to the line that holds its account (R124, step 3; R140). -/
def State.applyImage (s : State) (i : Image) : State :=
  match s.cache.find i.account with
  | some line => s.placeImage line i
  | none => s

/-- The header is marked: the images are applied (R117, R124 step 3). R124 says "both images" and no order; that the
payer's is applied first is the model's choice (log 48). -/
def State.afterHeader (s : State) (user : JournalUser) : State :=
  match user with
  | .posting =>
    if s.posting.phase = .apply && !s.isQuiesced then { s with posting := { s.posting with durable := true } } else s
  | .transfer =>
    match s.run with
    | some (.transferHeader o images) => (images.foldl State.applyImage s).setRun (.transferWriteBack o images 0)
    | _ => s

/-- A BOOK_READY or TRANSFER_READY header write completes. -/
def State.journalHeaderDone (s : State) : State :=
  match s.port.inProgress with
  | some (.journalHeader user h) => ((s.idlePort.writeHeader h).afterHeader user).completed
  | _ => s

/-- Steps 6 to 8 of R124. -/
def State.transferDone (s : State) (images : List Image) : State :=
  (s.unlock.reconcile (images.map fun i => (i.account, i.record.standing))).answer .done 0
    (images.flatMap fun i => signedBe 6 i.record.balance)

/-- The header is EMPTY again: the posting or the TRANSFER ends (R118, R124). -/
def State.afterClear (s : State) (user : JournalUser) : State :=
  match user with
  | .posting =>
    match s.posting.phase, s.posting.book with
    | .clear, some start => if s.isQuiesced then s else s.bookPosted start
    | _, _ => s
  | .transfer =>
    match s.run with
    | some (.transferClear _ images) => s.transferDone images
    | _ => s

/-- The EMPTY header write of a posting or a TRANSFER completes. -/
def State.journalClearDone (s : State) : State :=
  match s.port.inProgress with
  | some (.journalClear user h) => ((s.idlePort.writeHeader h).afterClear user).completed
  | _ => s

/-! ### REPAIR ACCOUNT (R126, steps 6 to 8) -/

/-- The line that holds the account takes the record, valid, clean and no longer DAMAGED. -/
def State.repairLine (s : State) (account : Nat) (r : AccountRecord) : State :=
  match s.cache.find account with
  | some line =>
    { s with cache := s.cache.set line (some { tag := account, record := some r, dirty := false, locked := false }) }
  | none => s

/-- Steps 7 and 8: the pass runs for a participant account alone. -/
def State.afterRepair (s : State) : State :=
  match s.run with
  | some (.repairWrite o) =>
    (if o.account < Config.participants then s.reconcile [(o.account, o.standing)] else s).answer .done 0 []
  | _ => s

/-- REPAIR ACCOUNT's record write completes. -/
def State.repairDone (s : State) : State :=
  match s.port.inProgress with
  | some (.repairRecord account r) => ((s.idlePort.writeRecord account r).repairLine account r).afterRepair.completed
  | _ => s

/-! ### The end of a start-up and of a RESTART sequence (R175, R176) -/

/-- Every port has reached step 8 and acted. -/
def State.portsActed (s : State) : Bool := s.ports.toList.all fun p => p.restartDue.isNone

/-- Step 9 (log 15: when step 8 has ended on every port). -/
def State.endSequence (s : State) : State :=
  let s : State := { s with sequence := .none, link := { s.link with restartHold := false } }
  s.boundarySearch.1.takeWaiting

/-- Step 9, if step 8 has ended. -/
def State.sequenceOn (s : State) : State :=
  match s.sequence with
  | .ports _ => if s.portsActed then s.endSequence else s
  | _ => s

/-- A port that acts on keep-held, its round cut short (R21). -/
def State.restartPort (s : State) (keepHeld : Bool) (f : Feeder) : State :=
  (s.modifyPort f FeederPort.cutRound).actOnRestart f keepHeld

/-- Step 8 on one port: a window in progress is completed first. -/
def State.reachPort (keepHeld : Bool) (s : State) (f : Feeder) : State :=
  if s.ports[f].window.isOpen then s.modifyPort f fun p => { p with restartDue := some (.restart keepHeld) }
  else s.restartPort keepHeld f

/-- Start-up has ended; in a RESTART sequence step 8 follows (R175). -/
def State.startupEnded (s : State) : State :=
  match s.sequence with
  | .startup keepHeld =>
    ((List.finRange 4).foldl (State.reachPort keepHeld) { s with sequence := .ports keepHeld }).sequenceOn
  | _ => s

/-! ### Start-up (R131 to R133) -/

/-- Where start-up stands, replaced. -/
def State.setStartup (s : State) (x : Startup) : State := { s with port := { s.port with startup := x } }

/-- Start-up ends with a memory state (R131). -/
def State.endStartup (s : State) (m : MemoryState) : State :=
  ({ s with port := { s.port with state := m, startup := .idle } } : State).startupEnded

/-- The header copy loaded, or emptied by a bad header (R131). -/
def State.loadHeader (s : State) (h : Option Header) : State := { s with port := { s.port with header := h } }

/-- The header read acted on (R131, R132). -/
def State.headerRead (s : State) (h : Option Header) : State :=
  match h with
  | none => (s.loadHeader none).endStartup .notReady
  | some h =>
    let s := s.loadHeader (some h)
    if h.journal = .empty then s.endStartup .ready
    else if h.count = 0 then s.setStartup (.closing h .replayed)
    else s.setStartup (.verifying h [])

/-- The header read of start-up completes. -/
def State.startupReadDone (s : State) (returned : Option (List Byte)) : State :=
  match s.port.inProgress with
  | some .startupHeaderRead =>
    if s.port.startup = .readingHeader then
      (s.idlePort.headerRead (headerOf (readUnit s.memory Config.headerPlace Config.headerSize returned))).completed
    else s.idlePort.completed
  | _ => s

/-- The verification pass after one entry (R132, R133). -/
def verifyEntry (h : Header) (seen : List (Nat × AccountRecord)) (entry : Option (Nat × AccountRecord)) : Startup :=
  match entry with
  | none => .closing h (.lost seen.length)
  | some (a, r) =>
    if a = Config.clearing || seen.any (fun x => x.1 == a) then .closing h (.lost seen.length)
    else if seen.length + 1 < h.count then .verifying h (seen ++ [(a, r)])
    else .writing h (seen ++ [(a, r)])

/-- A journal entry read of the verification pass completes. -/
def State.verifyDone (s : State) (returned : Option (List Byte)) : State :=
  match s.port.inProgress with
  | some (.journalVerifyRead place) =>
    match s.port.startup with
    | .verifying h seen =>
      (s.idlePort.setStartup (verifyEntry h seen
        (entryOf (readUnit s.memory (Config.journalPlace place) Config.recordSize returned)))).completed
    | _ => s.idlePort.completed
  | _ => s

/-- The write pass after one record (R132). -/
def State.afterReplay (s : State) : State :=
  match s.port.startup with
  | .writing h (_ :: []) => s.setStartup (.closing h .replayed)
  | .writing h (_ :: rest) => s.setStartup (.writing h rest)
  | _ => s

/-- A record write of the write pass completes. -/
def State.replayDone (s : State) : State :=
  match s.port.inProgress with
  | some (.replayRecord a r) => (s.idlePort.writeRecord a r).afterReplay.completed
  | _ => s

/-- The item a start-up that acted on a journal raises (R132, R133). -/
def replayItem (h : Header) (outcome : ReplayOutcome) : Attention :=
  let book := if h.journal = .bookReady then h.book else none
  match outcome with
  | .replayed => .journalReplayed h.journal book h.count
  | .lost place => .journalLost h.journal book h.count place

/-- The EMPTY header has been written: the item is raised and the memory becomes READY (R132, R133), also when a commanded
RESTART sequence has begun meanwhile (the model's choice, log 42). -/
def State.afterClosing (s : State) : State :=
  match s.port.startup with
  | .closing h outcome => (s.raise (replayItem h outcome)).endStartup .ready
  | _ => s

/-- The header write that ends a start-up completes. -/
def State.startupWriteDone (s : State) : State :=
  match s.port.inProgress with
  | some (.startupHeaderWrite h) => (s.idlePort.writeHeader h).afterClosing.completed
  | _ => s

/-! ### INIT ACCOUNT MEMORY (R135) -/

/-- The next step after a header write. -/
def State.afterInitHeader (s : State) : State :=
  match s.run with
  | some .initHeader => s.setRun (.initRecords 0)
  | some .initFinal => s.setRun .initReadback
  | _ => s

/-- A header write of INIT ACCOUNT MEMORY completes: step 2 with a zero format marker, step 4 with the engine's. -/
def State.initHeaderDone (s : State) : State :=
  match s.port.inProgress with
  | some (.initHeader final) =>
    (s.idlePort.writeHeaderAs (if final then Config.marker else 0) freshHeader).afterInitHeader.completed
  | _ => s

/-- The next record, or the final header. -/
def State.afterInitRecord (s : State) : State :=
  match s.run with
  | some (.initRecords n) => if n + 1 < Config.accounts then s.setRun (.initRecords (n + 1)) else s.setRun .initFinal
  | _ => s

/-- A fresh record's write completes (step 3). -/
def State.initRecordDone (s : State) : State :=
  match s.port.inProgress with
  | some (.initRecord a) => (s.idlePort.writeRecord a freshRecord).afterInitRecord.completed
  | _ => s

/-- Step 5. -/
def State.initEnd (s : State) (h : Option Header) : State :=
  match s.run with
  | some .initReadback =>
    match h with
    | some h => ({ s with port := { s.port with header := some h, state := .ready } } : State).answer .done 0 []
    | none => (s.loadHeader none).answer .cut notReadyCode []
  | _ => s

/-- The header's read-back completes. -/
def State.initReadbackDone (s : State) (returned : Option (List Byte)) : State :=
  match s.port.inProgress with
  | some .initReadback =>
    (s.idlePort.initEnd (headerOf (readUnit s.memory Config.headerPlace Config.headerSize returned))).completed
  | _ => s

end Sys2Proof.Machine
end

