-- ==== Sys2Proof/Machine/Link.lean ====
section
/-! DEFINITION. The Station Link Unit: receiving frames (R162, R163, R165) and the outbound queue (R167, R170, R171,
R174, R186). -/

namespace Sys2Proof.Machine

/-! ### Receiving -/

/-- A frame discarded (R163). -/
def State.discard (s : State) : State := { s with link := { s.link with receive := .hunting, discardsSeen := true } }

/-- The receive side put into a condition. -/
def State.setReceive (s : State) (r : ReceiveSide) : State := { s with link := { s.link with receive := r } }

/-- How many bytes a frame has after its start byte, by its length byte: length, kind, tag, body, check code. -/
def frameLength (bytes : List Byte) : Nat := field bytes 0 1 + 5

/-- A whole frame judged and handed on by its kind (R162 to R165). -/
def State.judgeFrame (s : State) (bytes : List Byte) : State :=
  let s := s.setReceive .hunting
  if !checkGood bytes then s.discard
  else if slice bytes 1 1 = [commandKind] then
    s.arrive { tag := BitVec.ofNat 8 (field bytes 2 1), request := requestOf (slice bytes 3 (field bytes 0 1)) }
  else if slice bytes 1 1 = [stopKind] then s.stopSweep
  else s.discard

/-- One byte received (R162). -/
def State.receiveByte (s : State) (b : Byte) : State :=
  match s.link.receive with
  | .hunting => if b = Config.startByte then s.setReceive (.assembling []) else s
  | .assembling bytes =>
    if (bytes ++ [b]).length = frameLength (bytes ++ [b]) then s.judgeFrame (bytes ++ [b])
    else s.setReceive (.assembling (bytes ++ [b]))

/-- The receive side is ASSEMBLING. -/
def StationLink.isAssembling (l : StationLink) : Bool := match l.receive with | .assembling _ => true | .hunting => false

/-- More than 5 ms have passed since the last byte: a frame being assembled is discarded, and the byte that ended the
gap, if one has come, is examined in HUNTING (R163). -/
def State.gapTimeout (s : State) (next : Option Byte) : State :=
  let s := if s.link.isAssembling then s.discard else s
  match next with
  | some b => s.receiveByte b
  | none => s

/-- A byte without a valid stop bit: a frame being assembled is discarded; in HUNTING nothing is (R163; log 5). -/
def State.badStopBit (s : State) : State := if s.link.isAssembling then s.discard else s

/-! ### The outbound queue -/

/-- A frame placed in the queue (R170). -/
def StationLink.push (l : StationLink) (f : OutFrame) : StationLink := { l with outbound := l.outbound ++ [f] }

/-- The frame of a RESULT as it is queued now (R167, R173). -/
def State.resultFrame (s : State) (tag : Byte) (r : CommandResult) : OutFrame :=
  { kind := resultKind, tag := tag,
    body := resultBody r s.attention.items.length s.attention.overflow s.link.overrun s.link.discardsSeen,
    restart := r.restart }

/-- Whether commands are held back once a RESULT has been queued: the RESULT of RESTART, until step 9 of its sequence or
of the one that takes its place (R164, R174; log 21). -/
def State.holdsAfter (s : State) (m : RestartMark) : Bool :=
  match m with
  | .absent => s.link.restartHold
  | .commanded _ => true
  | .overtaken => s.link.restartHold || s.isQuiesced

/-- A built RESULT enters the queue: the indicators are cleared, the buffer is emptied and the waiting command follows
(R164, R167). -/
def State.queueResult (s : State) : State :=
  match s.link.executing with
  | some { tag := tag, run := .result r, .. } =>
    if s.link.hasRoom then
      ({ s with link := { s.link.push (s.resultFrame tag r) with
          overrun := false, discardsSeen := false, executing := none, restartHold := s.holdsAfter r.restart } } : State).takeWaiting
    else s
  | _ => s

/-- A waiting BLOCK enters the queue and the SWEEP moves on (R186, steps 4 and 5). -/
def State.queueBlock (s : State) : State :=
  match s.link.executing with
  | some { tag := tag, run := .sweep r, .. } =>
    match r.block with
    | some body =>
      if s.link.hasRoom then
        (({ s with link := s.link.push { kind := blockKind, tag := tag, body := body, restart := .absent } } : State).sweepAdvance
          { r with blocks := r.blocks + 1, block := none }).drive
      else s
    | none => s
  | _ => s

/-- The book whose STATEMENT is due: the oldest owed one, when the queue has room and neither a frame of the executing
command nor a RESTART result waits (R171). -/
def State.statementDue (s : State) : Option Book :=
  if s.link.hasRoom && !s.frameWaiting && !s.link.restartUnsent then s.books.find? Book.owed else none

/-- A STATEMENT enters the queue and its book's flag is cleared (R87, R171). -/
def State.queueStatement (s : State) : State :=
  match s.statementDue with
  | some b =>
    { s.updateBook b.start (fun b => { b with owed := false }) with link := s.link.push (statementFrame b) }
  | none => s

/-- The oldest frame has been sent and leaves the queue; after the RESULT of RESTART the sequence begins (R170, R174). -/
def State.frameSent (s : State) : State :=
  match s.link.outbound with
  | [] => s
  | f :: rest =>
    let s : State := { s with link := { s.link with outbound := rest } }
    match f.restart with
    | .commanded keepHeld => if s.isQuiesced then s else (s.beginSequence keepHeld).drive
    | _ => s

end Sys2Proof.Machine
end

