-- ==== Sys2Proof/Machine/Loop.lean ====
section
/-! DEFINITION. The windows of a feeder port's round (chapter 1, R152, R153, R155, R159, R160). A window's opening or
closing that the port does not await is no event of the engine and changes nothing (log 3). -/

namespace Sys2Proof.Machine

/-! ### From one window to the next (R1, R20, R21) -/

/-- The window of slot `j` of a round, or the NOTICE window after the last slot (R1, R6). -/
def Round.windowAt (r : Round) (j : Nat) : Window :=
  if r.slotCount ≤ j then .noticeDue else if r.copies.any (fun c => c.slot == j) then .orderDue j else .slot j

/-- A port put at a window. A QUIET window that opens counts for an enrolment that is LISTENING (R18). -/
def FeederPort.atWindow (p : FeederPort) (w : Window) : FeederPort :=
  { p with window := w, sending := [], driving := false,
           enrolment := if w = .quiet then { p.enrolment with counting := p.enrolment.condition == .listening }
                        else p.enrolment }

/-- The window in progress has closed and been judged: after a power warning within it, or when a RESTART sequence has
reached the port, the round is cut short (R20, R21); otherwise the next window follows. -/
def State.nextWindow (s : State) (f : Feeder) (w : Window) : State :=
  if s.isQuiesced then s.modifyPort f FeederPort.cutRound
  else
    match s.ports[f].restartDue with
    | some (.restart keepHeld) => (s.restartPort keepHeld f).sequenceOn.drive
    | some .cut => s.modifyPort f FeederPort.cutRound
    | none => s.modifyPort f fun p => p.atWindow w

/-- The round in progress changed. -/
def State.setRound (s : State) (f : Feeder) (r : Round) : State := s.modifyPort f fun p => { p with round := some r }

/-- A send window opened: the line is driven with a message (R3). -/
def FeederPort.sendIn (p : FeederPort) (w : Window) (message : List Byte) : FeederPort :=
  { p with window := w, sending := message, driving := true }

/-! ### HEAD (R1, R5, R152) -/

/-- The order copies of the turned slots. -/
def State.orderCopies (s : State) (f : Feeder) (slots : List Nat) : List OrderCopy :=
  slots.filterMap (orderCopy s.active f s.ports[f].queue)

/-- A round as its HEAD window opens. -/
def freshRound (slotCount : Nat) (copies : List OrderCopy) : Round :=
  { slotCount := slotCount, headOk := false, copies := copies, outcomes := [], orders := [], notice := .skipped,
    sentNotice := .plain }

/-- The HEAD window opens. -/
def State.openHead (s : State) (f : Feeder) : State :=
  let p := s.ports[f]
  if p.window = .headDue && (p.state = .running || p.state = .holdPending) && !s.isQuiesced then
    let n := (s.active.feeder f.val).slotCount
    let slots := turnedSlots p.queue n
    s.setPort f
      { p.sendIn .head (headMessage f p.number s.clock.mark slots) with
        round := some (freshRound n (s.orderCopies f slots)), queue := markHead p.queue slots }
  else s

/-- The HEAD's readback judged (R5). -/
def State.closeHead (s : State) (f : Feeder) (readback : List Sample) : State :=
  match s.ports[f].window, s.ports[f].round with
  | .head, some r =>
    if verified s.ports[f].sending readback then
      let r := { r with headOk := true }
      (((s.setRound f r).startPrefetch f r.slotCount).nextWindow f (r.windowAt 0)).drive
    else (s.setRound f { r with headOk := false, notice := .skipped }).nextWindow f .quiet
  | _, _ => s

/-! ### ORDER (R6, R153) -/

/-- The ORDER window of a turned slot opens. -/
def State.openOrder (s : State) (f : Feeder) : State :=
  match s.ports[f].window, s.ports[f].round with
  | .orderDue j, some r =>
    if s.isQuiesced then s
    else
      match r.copies.find? (fun c => c.slot == j) with
      | some c => s.modifyPort f fun p => p.sendIn (.order j) (orderMessage c)
      | none => s
  | _, _ => s

/-- The result of an ORDER window applied to the queue; an entry given up raises ORDER_UNCONFIRMED (R153). -/
def State.orderResult (s : State) (f : Feeder) (j : Nat) (ok : Bool) : State :=
  let x := applyReadback s.ports[f].queue j ok
  let s := s.modifyPort f fun p => { p with queue := x.1 }
  match x.2 with
  | some e => s.raise (unconfirmed f e)
  | none => s

/-- The ORDER's readback judged (R6). -/
def State.closeOrder (s : State) (f : Feeder) (readback : List Sample) : State :=
  match s.ports[f].window, s.ports[f].round with
  | .order j, some r =>
    let ok := verified s.ports[f].sending readback
    let r := { r with outcomes := r.outcomes ++ [.turned], orders := r.orders ++ [(j, ok)] }
    ((s.orderResult f j ok).setRound f r).nextWindow f (r.windowAt (j + 1))
  | _, _ => s

/-! ### Meter slots (R8, R9) -/

/-- The outcome of a slot that heard a well formed REPORT with a good check code: tests 5 to 7 of R8. -/
def reportOutcome (t : TableSet) (f : Feeder) (j : Nat) (r : Report) : SlotOutcome :=
  match t.slotParticipant f.val j with
  | none => .intruder
  | some i => if (t.entry i).serial = r.serial then .good else .foreign

/-- The outcome of a meter slot (R8), with the REPORT when one is handed over. -/
def slotOutcome (t : TableSet) (f : Feeder) (j : Nat) (heard : List LineChar) : SlotOutcome × Option Report :=
  match judge reportKind reportLength heard with
  | .nothing => (if (t.slotParticipant f.val j).isSome then .silent else .vacant, none)
  | .garbled => (.garbled, none)
  | .checkFail => (.checkFail, none)
  | .message bytes => (reportOutcome t f j (reportOf bytes), some (reportOf bytes))

/-- A meter slot closes. -/
def State.closeSlot (s : State) (f : Feeder) (heard : List LineChar) : State :=
  match s.ports[f].window, s.ports[f].round with
  | .slot j, some r =>
    let x := slotOutcome s.active f j heard
    let r := { r with outcomes := r.outcomes ++ [x.1] }
    let s := s.setRound f r
    let s := match x.2 with | some m => s.handReport f j x.1 m s.ports[f].number | none => s
    (s.nextWindow f (r.windowAt (j + 1))).drive
  | _, _ => s

/-! ### NOTICE (R7, R159, R160) -/

/-- What the round's NOTICE is to carry, and its household part (R159). -/
def State.noticeParts (s : State) (f : Feeder) : NoticeSent × Option HouseholdPart :=
  match s.ports[f].prefetch with
  | .arrived target (some part) =>
    if s.active.cursorParticipant f.val s.ports[f].cursor = some target then (.household, some part) else (.plain, none)
  | .arrived _ none => (.damaged, none)
  | _ => (.plain, none)

/-- A prefetch still waiting is withdrawn as the NOTICE window opens (R159; log 25). -/
def withdrawn (p : Prefetch) : Prefetch := match p with | .waiting _ => .none | x => x

/-- The NOTICE window opens. -/
def State.openNotice (s : State) (f : Feeder) : State :=
  match s.ports[f].window, s.ports[f].round with
  | .noticeDue, some r =>
    if s.isQuiesced then s
    else
      let k := s.active.captureFor s.clock.weekday (s.clock.openStart.getD 0)
      let x := s.noticeParts f
      s.modifyPort f fun p =>
        { p.sendIn .notice (noticeMessage k.band k.localPrice k.gridPrice k.feedPrice s.clock.mark x.2) with
          prefetch := withdrawn p.prefetch, round := some { r with sentNotice := x.1 } }
  | _, _ => s

/-- Whether the cursor advances: the table of R160. -/
def advances (sent : NoticeSent) (ok : Bool) : Bool :=
  match sent with
  | .household => ok
  | .damaged => true
  | .plain => false

/-- The NOTICE's readback judged (R7, R160). -/
def State.closeNotice (s : State) (f : Feeder) (readback : List Sample) : State :=
  match s.ports[f].window, s.ports[f].round with
  | .notice, some r =>
    let ok := verified s.ports[f].sending readback
    let cursor :=
      if advances r.sentNotice ok then s.active.nextCursor f.val s.ports[f].cursor else s.ports[f].cursor
    let s := s.modifyPort f fun p =>
      { p with cursor := cursor, prefetch := .none, round := some { r with notice := if ok then .ok else .failed } }
    s.nextWindow f .quiet
  | _, _ => s

/-! ### QUIET and the end of the round (R2, R10, R11, R13, R14, R155) -/

/-- The outcome of a QUIET slot (R10). -/
def quietOutcome (heard : List LineChar) : QuietOutcome :=
  match judge announceKind announceLength heard with
  | .nothing => .nothing
  | .message bytes => .announce (field bytes 1 4)
  | .garbled | .checkFail => .garbled

/-- The record of a completed round (R11). -/
def Round.record (r : Round) (number : RoundNumber) (q : QuietOutcome) : RoundRecord :=
  { number := number, headOk := r.headOk, slotCount := r.slotCount, outcomes := r.outcomes, orders := r.orders,
    notice := r.notice, quiet := q }

/-- The queue counts a completed round whose HEAD verified (R155). -/
def State.countRound (s : State) (f : Feeder) (headOk : Bool) : State :=
  if headOk then
    let lost := givenUp s.ports[f].queue
    let s := s.modifyPort f fun p => { p with queue := p.queue.filterMap afterRound }
    lost.foldl (fun s e => s.raise (unconfirmed f e)) s
  else s

/-- What follows a completed round: OFF for a disabled feeder, HELD for a pending hold, else the next round (R1, R13,
R14). The entry is read now: a feeder that one commit disabled within the round and a further one enabled again goes on
(the model's choice, log 43). -/
def State.afterQuiet (s : State) (f : Feeder) : State :=
  if !s.enabled f then s.feederOff f
  else if s.ports[f].state = .holdPending then s.modifyPort f fun p => p.stop .held
  else s.modifyPort f FeederPort.newRound

/-- The round completes (R2, R11). The items this one close can raise, which the spec does not order, are raised in this
order: ENROL_DONE of an enrolment that ends under R18, ORDER_UNCONFIRMED for the entries given up, in queue order, and
ENROL_DONE of a feeder that goes OFF (log 35). -/
def State.completeRound (s : State) (f : Feeder) (r : Round) (q : QuietOutcome) : State :=
  let s := s.hearEnrolment f q
  let s := s.modifyPort f fun p => { p with last := some (r.record p.number q), number := p.number + 1 }
  (s.countRound f r.headOk).afterQuiet f

/-- The QUIET window closes. A round that the power warning or a RESTART sequence cuts short does not complete, even in
its QUIET window (R20, R21; log 13). -/
def State.closeQuiet (s : State) (f : Feeder) (heard : List LineChar) : State :=
  match s.ports[f].window, s.ports[f].round with
  | .quiet, some r =>
    if s.isQuiesced || s.ports[f].restartDue.isSome then s.nextWindow f .shut
    else s.completeRound f r (quietOutcome heard)
  | _, _ => s

end Sys2Proof.Machine
end

