-- ==== Sys2Proof/Machine/System.lean ====
section
/-! DEFINITION. The board's inputs: hardware reset, the power-warning input (R145 to R148, R177) and the clock (R69, R73,
R79). -/

namespace Sys2Proof.Machine

/-! ### Hardware reset -/

/-- The place an operation writes, if it writes one. -/
def PortOp.place : PortOp → Option Nat
  | .fill _ _ _ (some v) => some (Config.recordPlace v.1)
  | .fill _ _ _ none => none
  | .writeBack _ _ a => some (Config.recordPlace a)
  | .journalEntry _ p _ => some (Config.journalPlace p)
  | .journalHeader _ _ | .journalClear _ _ | .startupHeaderWrite _ | .initHeader _ => some Config.headerPlace
  | .repairRecord a _ | .replayRecord a _ | .initRecord a => some (Config.recordPlace a)
  | .startupHeaderRead | .journalVerifyRead _ | .initReadback => none

/-- Account memory after a hardware reset: as last written, but for the place of a write it cuts off, which holds what
the memory was left with (R128, R129; log 8). -/
def State.leftMemory (s : State) (left : Option (List Byte)) : List Host.Cell :=
  match left, s.port.inProgress.bind PortOp.place with
  | some bytes, some place => writeBytes s.memory place (bytes.take Config.placeSize)
  | _, _ => s.memory

/-- Every block takes its hardware reset values; the input's level, account memory and the model's own queue stay. -/
def State.hardwareReset (s : State) (left : Option (List Byte)) : State :=
  State.afterHardwareReset (s.leftMemory left) s.powerWarning s.freeCount s.pending

/-! ### The power-warning input (R145) -/

/-- A frame whose RESTART sequence does not run (R174). -/
def OutFrame.overtake (f : OutFrame) : OutFrame := if f.restart = .absent then f else { f with restart := .overtaken }

/-- The executing command's RESULT of RESTART, built and not yet queued, likewise (log 21). -/
def Executing.overtake (e : Executing) : Executing :=
  match e.run with
  | .result r => { e with run := .result { r with restart := if r.restart = .absent then .absent else .overtaken } }
  | _ => e

/-- The Activation Unit at the warning: checks in progress are abandoned (R63, R68). -/
def Activation.warned (a : Activation) : Activation :=
  { a with phase := if a.phase = .checking then .awaitBoundary else a.phase, toCheck := [] }

/-- A feeder port at the warning: a window in progress completes, and its round is cut short at its close, whether or not
the warning has been released by then; else no further window opens (R20), not after the release either until the
RESTART sequence reaches the port (R21; the model's choice, log 44). -/
def FeederPort.warned (p : FeederPort) : FeederPort :=
  if p.window.isOpen then { p with restartDue := some .cut } else p.cutRound

/-- The engine enters QUIESCED (R145), abandoning a RESTART sequence in progress (R176) and a start-up (R134). -/
def State.enterQuiesced (s : State) : State :=
  { s with engine := .quiesced, before := s.engine, sequence := .none, activation := s.activation.warned,
           ports := s.ports.map FeederPort.warned, port := { s.port with startup := .idle },
           link := { s.link with outbound := s.link.outbound.map OutFrame.overtake,
                                 executing := s.link.executing.map Executing.overtake } }

/-- The input becomes asserted. -/
def State.warn (s : State) : State :=
  let s : State := { s with powerWarning := true }
  if s.isQuiesced then s else ((s.enterQuiesced.cutCommand .quiesced).takeWaiting).drive

/-- The input is released: the sequence begins now, or when the flush has ended (R147). -/
def State.unwarn (s : State) : State := ({ s with powerWarning := false } : State).drive

/-! ### The clock -/

/-- The clock advances by one second; what it had reached and no event has served yet comes first (log 9). -/
def State.tick (s : State) : State :=
  (if s.deadlineReached || s.clock.boundaryDue then s.serveDeadline.serveBoundary.drive else s).advanceClock

/-- The boundary search at a multiple of the interval length (R73). -/
def State.boundary (s : State) : State := if s.clock.boundaryDue then s.serveBoundary.drive else s

/-- The end of a collection at its deadline (R79). -/
def State.deadline (s : State) : State := if s.deadlineReached then s.serveDeadline.drive else s

end Sys2Proof.Machine
end

