-- ==== Sys2Proof/Machine/BoardEvents.lean ====
section
/-! DEFINITION. The meanings of the board's events: reset, power warning, clock. -/

namespace Sys2Proof.Machine

/-- HARDWARE_RESET (R22, R24, R41, R68, R69, R90, R127, R148, R156, R161, R178): every block takes its hardware reset
values. -/
def execHardwareReset (left : Option (List Byte)) (s : State) : Host.Outcome State Fault Refusal :=
  .next (s.hardwareReset left)

/-- POWER_WARNING_ASSERTED (R145): the engine enters QUIESCED. -/
def execPowerWarningAsserted (s : State) : Host.Outcome State Fault Refusal :=
  if s.powerWarning then .next s else .next s.warn

/-- POWER_WARNING_RELEASED (R147): the RESTART sequence runs, once the flush has ended. -/
def execPowerWarningReleased (s : State) : Host.Outcome State Fault Refusal :=
  if s.powerWarning then .next s.unwarn else .next s

/-- CLOCK_TICK (R69). -/
def execClockTick (s : State) : Host.Outcome State Fault Refusal := .next s.tick

/-- INTERVAL_BOUNDARY (R73). -/
def execIntervalBoundary (s : State) : Host.Outcome State Fault Refusal := .next s.boundary

/-- COLLECTION_DEADLINE (R79). -/
def execCollectionDeadline (s : State) : Host.Outcome State Fault Refusal := .next s.deadline

end Sys2Proof.Machine
end

