-- ==== Sys2Proof/Machine/LinkEvents.lean ====
section
/-! DEFINITION. The meanings of the station link's events. -/

namespace Sys2Proof.Machine

/-- FRAME_RECEIVED (R162 to R166, R169): the bytes received, one by one. -/
def execFrameReceived (bytes : List Byte) (s : State) : Host.Outcome State Fault Refusal :=
  .next (bytes.foldl State.receiveByte s)

/-- FRAME_GAP_TIMEOUT (R163). -/
def execFrameGapTimeout (next : Option Byte) (s : State) : Host.Outcome State Fault Refusal := .next (s.gapTimeout next)

/-- BYTE_WITHOUT_STOP_BIT (R163). -/
def execByteWithoutStopBit (s : State) : Host.Outcome State Fault Refusal := .next s.badStopBit

/-- UNKNOWN_COMMAND (R166): a good COMMAND frame with a body, meant for one that names no command. -/
def execUnknownCommand (tag : Byte) (body : List Byte) (s : State) : Host.Outcome State Fault Refusal :=
  .next (s.arrive { tag := tag, request := requestOf body })

/-- RESULT_QUEUED (R164, R167). -/
def execResultQueued (s : State) : Host.Outcome State Fault Refusal := .next s.queueResult

/-- BLOCK_QUEUED (R186). -/
def execBlockQueued (s : State) : Host.Outcome State Fault Refusal := .next s.queueBlock

/-- STATEMENT (R171). -/
def execStatement (s : State) : Host.Outcome State Fault Refusal := .next s.queueStatement

/-- FRAME_SENT (R170, R174, R175). -/
def execFrameSent (s : State) : Host.Outcome State Fault Refusal := .next s.frameSent

end Sys2Proof.Machine
end

