-- ==== Sys2Proof/Machine/LoopEvents.lean ====
section
/-! DEFINITION. The meanings of the feeder ports' windows. -/

namespace Sys2Proof.Machine

/-- HEAD_WINDOW_OPEN (R1, R5, R152). -/
def execHeadWindowOpen (f : Feeder) (s : State) : Host.Outcome State Fault Refusal := .next (s.openHead f)

/-- HEAD_WINDOW_CLOSE (R4, R5, R158). -/
def execHeadWindowClose (f : Feeder) (readback : List Sample) (s : State) : Host.Outcome State Fault Refusal :=
  .next (s.closeHead f readback)

/-- ORDER_WINDOW_OPEN (R6). -/
def execOrderWindowOpen (f : Feeder) (s : State) : Host.Outcome State Fault Refusal := .next (s.openOrder f)

/-- ORDER_WINDOW_CLOSE (R6, R153). -/
def execOrderWindowClose (f : Feeder) (readback : List Sample) (s : State) : Host.Outcome State Fault Refusal :=
  .next (s.closeOrder f readback)

/-- METER_SLOT_CLOSE (R8, R9). -/
def execMeterSlotClose (f : Feeder) (heard : List LineChar) (s : State) : Host.Outcome State Fault Refusal :=
  .next (s.closeSlot f heard)

/-- NOTICE_WINDOW_OPEN (R7, R159). -/
def execNoticeWindowOpen (f : Feeder) (s : State) : Host.Outcome State Fault Refusal := .next (s.openNotice f)

/-- NOTICE_WINDOW_CLOSE (R7, R160). -/
def execNoticeWindowClose (f : Feeder) (readback : List Sample) (s : State) : Host.Outcome State Fault Refusal :=
  .next (s.closeNotice f readback)

/-- QUIET_WINDOW_CLOSE (R10, R11). -/
def execQuietWindowClose (f : Feeder) (heard : List LineChar) (s : State) : Host.Outcome State Fault Refusal :=
  .next (s.closeQuiet f heard)

end Sys2Proof.Machine
end

