-- ==== Sys2Proof/Machine/PortEvents.lean ====
section
/-! DEFINITION. The meanings of the completions on the account memory port. -/

namespace Sys2Proof.Machine

/-- CACHE_FILL (R137, R138). -/
def execCacheFill (returned : Option (List Byte)) (s : State) : Host.Outcome State Fault Refusal :=
  .next (s.fillDone returned)

/-- CACHE_WRITE_BACK (R139). -/
def execCacheWriteBack (s : State) : Host.Outcome State Fault Refusal := .next s.writeBackDone

/-- JOURNAL_ENTRY_WRITE (R116, R124 step 1). -/
def execJournalEntryWrite (s : State) : Host.Outcome State Fault Refusal := .next s.journalEntryDone

/-- JOURNAL_HEADER_WRITE (R117, R124 steps 2 and 3). -/
def execJournalHeaderWrite (s : State) : Host.Outcome State Fault Refusal := .next s.journalHeaderDone

/-- JOURNAL_HEADER_CLEAR (R118, R124 steps 5 to 8). -/
def execJournalHeaderClear (s : State) : Host.Outcome State Fault Refusal := .next s.journalClearDone

/-- REPAIR_RECORD_WRITE (R126, steps 6 to 8). -/
def execRepairRecordWrite (s : State) : Host.Outcome State Fault Refusal := .next s.repairDone

/-- STARTUP_HEADER_READ (R131). -/
def execStartupHeaderRead (returned : Option (List Byte)) (s : State) : Host.Outcome State Fault Refusal :=
  .next (s.startupReadDone returned)

/-- JOURNAL_VERIFY_READ (R132, R133). -/
def execJournalVerifyRead (returned : Option (List Byte)) (s : State) : Host.Outcome State Fault Refusal :=
  .next (s.verifyDone returned)

/-- REPLAY_RECORD_WRITE (R132). -/
def execReplayRecordWrite (s : State) : Host.Outcome State Fault Refusal := .next s.replayDone

/-- STARTUP_HEADER_WRITE (R132, R133). -/
def execStartupHeaderWrite (s : State) : Host.Outcome State Fault Refusal := .next s.startupWriteDone

/-- INIT_HEADER_WRITE (R135, steps 2 and 4). -/
def execInitHeaderWrite (s : State) : Host.Outcome State Fault Refusal := .next s.initHeaderDone

/-- INIT_RECORD_WRITE (R135, step 3). -/
def execInitRecordWrite (s : State) : Host.Outcome State Fault Refusal := .next s.initRecordDone

/-- INIT_HEADER_READBACK (R135, step 5). -/
def execInitHeaderReadback (returned : Option (List Byte)) (s : State) : Host.Outcome State Fault Refusal :=
  .next (s.initReadbackDone returned)

end Sys2Proof.Machine
end

