-- ==== Sys2Proof/Machine/StationCommands.lean ====
section
/-! DEFINITION. The meanings of the station's commands. Each stands for the arrival of its good COMMAND frame (log 2):
it becomes the executing command and its rule is carried out, or it waits, or it is discarded for overrun (R164); a
parameter out of range is decided at its BAD_PARAMETER step (R166). -/

namespace Sys2Proof.Machine

/-- READ_ACCOUNT (R180). -/
def execReadAccount (tag : Byte) (account : Nat) (s : State) : Host.Outcome State Fault Refusal :=
  .next (s.arrive { tag := tag, request := Request.ofCommand (.readAccount account) })

/-- READ_PARTICIPANT (R181). -/
def execReadParticipant (tag : Byte) (index : Nat) (copy : TableCopy) (s : State) : Host.Outcome State Fault Refusal :=
  .next (s.arrive { tag := tag, request := Request.ofCommand (.readParticipant index copy) })

/-- READ_FEEDER (R182). -/
def execReadFeeder (tag : Byte) (feeder : Nat) (copy : TableCopy) (s : State) : Host.Outcome State Fault Refusal :=
  .next (s.arrive { tag := tag, request := Request.ofCommand (.readFeeder feeder copy) })

/-- READ_BAND (R183). -/
def execReadBand (tag : Byte) (position : Nat) (copy : TableCopy) (s : State) : Host.Outcome State Fault Refusal :=
  .next (s.arrive { tag := tag, request := Request.ofCommand (.readBand position copy) })

/-- READ_BOOK (R184). -/
def execReadBook (tag : Byte) (selector : BookSelector) (part : BookPart) (s : State) : Host.Outcome State Fault Refusal :=
  .next (s.arrive { tag := tag, request := Request.ofCommand (.readBook selector part) })

/-- READ_ROUND_STATUS (R12). -/
def execReadRoundStatus (tag : Byte) (feeder : Nat) (s : State) : Host.Outcome State Fault Refusal :=
  .next (s.arrive { tag := tag, request := Request.ofCommand (.readRoundStatus feeder) })

/-- READ_CLOCK (R185). -/
def execReadClock (tag : Byte) (s : State) : Host.Outcome State Fault Refusal :=
  .next (s.arrive { tag := tag, request := Request.ofCommand (.readClock) })

/-- READ_ENGINE (R185). -/
def execReadEngine (tag : Byte) (s : State) : Host.Outcome State Fault Refusal :=
  .next (s.arrive { tag := tag, request := Request.ofCommand (.readEngine) })

/-- SWEEP_ACCOUNTS (R186, R187). -/
def execSweepAccounts (tag : Byte) (order : SweepOrder) (s : State) : Host.Outcome State Fault Refusal :=
  .next (s.arrive { tag := tag, request := Request.ofCommand (.sweepAccounts order) })

/-- SCAN_ACCOUNTS (R188). -/
def execScanAccounts (tag : Byte) (order : ScanOrder) (s : State) : Host.Outcome State Fault Refusal :=
  .next (s.arrive { tag := tag, request := Request.ofCommand (.scanAccounts order) })

/-- HOLD (R14). -/
def execHold (tag : Byte) (feeder : Nat) (s : State) : Host.Outcome State Fault Refusal :=
  .next (s.arrive { tag := tag, request := Request.ofCommand (.hold feeder) })

/-- RESUME (R16). -/
def execResume (tag : Byte) (feeder : Nat) (s : State) : Host.Outcome State Fault Refusal :=
  .next (s.arrive { tag := tag, request := Request.ofCommand (.resume feeder) })

/-- ENROL (R17). -/
def execEnrol (tag : Byte) (feeder rounds serial : Nat) (s : State) : Host.Outcome State Fault Refusal :=
  .next (s.arrive { tag := tag, request := Request.ofCommand (.enrol feeder rounds serial) })

/-- REBASE (R38). -/
def execRebase (tag : Byte) (index : Nat) (s : State) : Host.Outcome State Fault Refusal :=
  .next (s.arrive { tag := tag, request := Request.ofCommand (.rebase index) })

/-- STAGE_PARTICIPANT (R55). -/
def execStageParticipant (tag : Byte) (index : Nat) (entry : ParticipantEntry) (s : State) : Host.Outcome State Fault Refusal :=
  .next (s.arrive { tag := tag, request := Request.ofCommand (.stageParticipant index entry) })

/-- STAGE_FEEDER (R56). -/
def execStageFeeder (tag : Byte) (feeder : Nat) (entry : FeederEntry) (s : State) : Host.Outcome State Fault Refusal :=
  .next (s.arrive { tag := tag, request := Request.ofCommand (.stageFeeder feeder entry) })

/-- STAGE_GENERAL (R56). -/
def execStageGeneral (tag : Byte) (general : GeneralEntry) (week : Vector DayClass 7) (s : State) : Host.Outcome State Fault Refusal :=
  .next (s.arrive { tag := tag, request := Request.ofCommand (.stageGeneral general week) })

/-- STAGE_BAND (R57). -/
def execStageBand (tag : Byte) (position : Nat) (band : Option Band) (s : State) : Host.Outcome State Fault Refusal :=
  .next (s.arrive { tag := tag, request := Request.ofCommand (.stageBand position band) })

/-- CLEAR_BANDS (R57). -/
def execClearBands (tag : Byte) (s : State) : Host.Outcome State Fault Refusal :=
  .next (s.arrive { tag := tag, request := Request.ofCommand (.clearBands) })

/-- STAGE_COPY (R58). -/
def execStageCopy (tag : Byte) (s : State) : Host.Outcome State Fault Refusal :=
  .next (s.arrive { tag := tag, request := Request.ofCommand (.stageCopy) })

/-- ACTIVATE (R60). -/
def execActivate (tag : Byte) (s : State) : Host.Outcome State Fault Refusal :=
  .next (s.arrive { tag := tag, request := Request.ofCommand (.activate) })

/-- DISARM (R61). -/
def execDisarm (tag : Byte) (s : State) : Host.Outcome State Fault Refusal :=
  .next (s.arrive { tag := tag, request := Request.ofCommand (.disarm) })

/-- SET_CLOCK (R70, R71). -/
def execSetClock (tag : Byte) (day second weekday : Nat) (s : State) : Host.Outcome State Fault Refusal :=
  .next (s.arrive { tag := tag, request := Request.ofCommand (.setClock day second weekday) })

/-- RELEASE_BOOK (R85). -/
def execReleaseBook (tag : Byte) (start : Nat) (s : State) : Host.Outcome State Fault Refusal :=
  .next (s.arrive { tag := tag, request := Request.ofCommand (.releaseBook start) })

/-- DISCARD_BOOK (R86). -/
def execDiscardBook (tag : Byte) (start : Nat) (s : State) : Host.Outcome State Fault Refusal :=
  .next (s.arrive { tag := tag, request := Request.ofCommand (.discardBook start) })

/-- TRANSFER (R122 to R124). -/
def execTransfer (tag : Byte) (order : TransferOrder) (s : State) : Host.Outcome State Fault Refusal :=
  .next (s.arrive { tag := tag, request := Request.ofCommand (.transfer order) })

/-- REPAIR_ACCOUNT (R126). -/
def execRepairAccount (tag : Byte) (order : RepairOrder) (s : State) : Host.Outcome State Fault Refusal :=
  .next (s.arrive { tag := tag, request := Request.ofCommand (.repairAccount order) })

/-- FLUSH (R144). -/
def execFlush (tag : Byte) (s : State) : Host.Outcome State Fault Refusal :=
  .next (s.arrive { tag := tag, request := Request.ofCommand (.flush) })

/-- INIT_ACCOUNT_MEMORY (R135). -/
def execInitAccountMemory (tag : Byte) (s : State) : Host.Outcome State Fault Refusal :=
  .next (s.arrive { tag := tag, request := Request.ofCommand (.initAccountMemory) })

/-- SENSE_ATTENTION (R173). -/
def execSenseAttention (tag : Byte) (s : State) : Host.Outcome State Fault Refusal :=
  .next (s.arrive { tag := tag, request := Request.ofCommand (.senseAttention) })

/-- RESTART (R174). -/
def execRestart (tag : Byte) (keepHeld : Bool) (s : State) : Host.Outcome State Fault Refusal :=
  .next (s.arrive { tag := tag, request := Request.ofCommand (.restart keepHeld) })

end Sys2Proof.Machine
end

