-- ==== Sys2Proof/Machine/Dispatch.lean ====
section
/-! DEFINITION. One arm per row of spec/opcode_table.json: its meaning. -/

namespace Sys2Proof.Machine

def exec (i : Instr) (s : State) : Host.Outcome State Fault Refusal :=
  match i with
  | .hardwareReset left => Sys2Proof.Machine.execHardwareReset left s
  | .powerWarningAsserted => Sys2Proof.Machine.execPowerWarningAsserted s
  | .powerWarningReleased => Sys2Proof.Machine.execPowerWarningReleased s
  | .frameReceived bytes => Sys2Proof.Machine.execFrameReceived bytes s
  | .frameGapTimeout next => Sys2Proof.Machine.execFrameGapTimeout next s
  | .unknownCommand tag body => Sys2Proof.Machine.execUnknownCommand tag body s
  | .resultQueued => Sys2Proof.Machine.execResultQueued s
  | .blockQueued => Sys2Proof.Machine.execBlockQueued s
  | .statement => Sys2Proof.Machine.execStatement s
  | .frameSent => Sys2Proof.Machine.execFrameSent s
  | .readAccount tag account => Sys2Proof.Machine.execReadAccount tag account s
  | .readParticipant tag index copy => Sys2Proof.Machine.execReadParticipant tag index copy s
  | .readFeeder tag feeder copy => Sys2Proof.Machine.execReadFeeder tag feeder copy s
  | .readBand tag position copy => Sys2Proof.Machine.execReadBand tag position copy s
  | .readBook tag selector part => Sys2Proof.Machine.execReadBook tag selector part s
  | .readRoundStatus tag feeder => Sys2Proof.Machine.execReadRoundStatus tag feeder s
  | .readClock tag => Sys2Proof.Machine.execReadClock tag s
  | .readEngine tag => Sys2Proof.Machine.execReadEngine tag s
  | .sweepAccounts tag order => Sys2Proof.Machine.execSweepAccounts tag order s
  | .scanAccounts tag order => Sys2Proof.Machine.execScanAccounts tag order s
  | .hold tag feeder => Sys2Proof.Machine.execHold tag feeder s
  | .resume tag feeder => Sys2Proof.Machine.execResume tag feeder s
  | .enrol tag feeder rounds serial => Sys2Proof.Machine.execEnrol tag feeder rounds serial s
  | .rebase tag index => Sys2Proof.Machine.execRebase tag index s
  | .stageParticipant tag index entry => Sys2Proof.Machine.execStageParticipant tag index entry s
  | .stageFeeder tag feeder entry => Sys2Proof.Machine.execStageFeeder tag feeder entry s
  | .stageGeneral tag general week => Sys2Proof.Machine.execStageGeneral tag general week s
  | .stageBand tag position band => Sys2Proof.Machine.execStageBand tag position band s
  | .clearBands tag => Sys2Proof.Machine.execClearBands tag s
  | .stageCopy tag => Sys2Proof.Machine.execStageCopy tag s
  | .activate tag => Sys2Proof.Machine.execActivate tag s
  | .disarm tag => Sys2Proof.Machine.execDisarm tag s
  | .setClock tag day second weekday => Sys2Proof.Machine.execSetClock tag day second weekday s
  | .releaseBook tag start => Sys2Proof.Machine.execReleaseBook tag start s
  | .discardBook tag start => Sys2Proof.Machine.execDiscardBook tag start s
  | .transfer tag order => Sys2Proof.Machine.execTransfer tag order s
  | .repairAccount tag order => Sys2Proof.Machine.execRepairAccount tag order s
  | .flush tag => Sys2Proof.Machine.execFlush tag s
  | .initAccountMemory tag => Sys2Proof.Machine.execInitAccountMemory tag s
  | .senseAttention tag => Sys2Proof.Machine.execSenseAttention tag s
  | .restart tag keepHeld => Sys2Proof.Machine.execRestart tag keepHeld s
  | .headWindowOpen feeder => Sys2Proof.Machine.execHeadWindowOpen feeder s
  | .headWindowClose feeder readback => Sys2Proof.Machine.execHeadWindowClose feeder readback s
  | .orderWindowOpen feeder => Sys2Proof.Machine.execOrderWindowOpen feeder s
  | .orderWindowClose feeder readback => Sys2Proof.Machine.execOrderWindowClose feeder readback s
  | .meterSlotClose feeder heard => Sys2Proof.Machine.execMeterSlotClose feeder heard s
  | .noticeWindowOpen feeder => Sys2Proof.Machine.execNoticeWindowOpen feeder s
  | .noticeWindowClose feeder readback => Sys2Proof.Machine.execNoticeWindowClose feeder readback s
  | .quietWindowClose feeder heard => Sys2Proof.Machine.execQuietWindowClose feeder heard s
  | .clockTick => Sys2Proof.Machine.execClockTick s
  | .intervalBoundary => Sys2Proof.Machine.execIntervalBoundary s
  | .collectionDeadline => Sys2Proof.Machine.execCollectionDeadline s
  | .cacheFill returned => Sys2Proof.Machine.execCacheFill returned s
  | .cacheWriteBack => Sys2Proof.Machine.execCacheWriteBack s
  | .journalEntryWrite => Sys2Proof.Machine.execJournalEntryWrite s
  | .journalHeaderWrite => Sys2Proof.Machine.execJournalHeaderWrite s
  | .journalHeaderClear => Sys2Proof.Machine.execJournalHeaderClear s
  | .repairRecordWrite => Sys2Proof.Machine.execRepairRecordWrite s
  | .startupHeaderRead returned => Sys2Proof.Machine.execStartupHeaderRead returned s
  | .journalVerifyRead returned => Sys2Proof.Machine.execJournalVerifyRead returned s
  | .replayRecordWrite => Sys2Proof.Machine.execReplayRecordWrite s
  | .startupHeaderWrite => Sys2Proof.Machine.execStartupHeaderWrite s
  | .initHeaderWrite => Sys2Proof.Machine.execInitHeaderWrite s
  | .initRecordWrite => Sys2Proof.Machine.execInitRecordWrite s
  | .initHeaderReadback returned => Sys2Proof.Machine.execInitHeaderReadback returned s
  | .byteWithoutStopBit => Sys2Proof.Machine.execByteWithoutStopBit s

end Sys2Proof.Machine
end

