-- ==== Sys2Proof/Safety.lean ====
section
/-! DEFINITION. What counts as a sound state of the engine, in the terms the statements use: the capacities and orders
that the spec says hold at every moment, when a command is taken at once, when every unit is at rest, and how a state
looks with a command executing or answered. -/

namespace Sys2Proof.Machine

/-! ### Bounds that hold at every moment -/

/-- The outbound queue holds up to 4 frames (R170). -/
def State.outboundBounded (s : State) : Prop := s.link.outbound.length ≤ Config.outbound

/-- The command buffers hold at most two frames together, and no frame waits that could be the executing command
(R164). -/
def State.buffersBounded (s : State) : Prop :=
  (if s.link.executing.isSome then 1 else 0) + s.link.waiting.length ≤ 2 ∧
  (s.link.executing = none → s.commandsHeld = false → s.link.waiting = [])

/-- The Book List holds up to 8 book records (R77). -/
def State.booksBounded (s : State) : Prop := s.books.length ≤ Config.books

/-- Each Directed Queue holds up to 16 entries (R149). -/
def State.queuesBounded (s : State) : Prop := ∀ f : Feeder, s.ports[f].queue.length ≤ Config.queue

/-- The capacities of the station link, the Book List and the Directed Queues hold. -/
def State.bounded (s : State) : Prop :=
  s.outboundBounded ∧ s.buffersBounded ∧ s.booksBounded ∧ s.queuesBounded

/-- No two items of a list share both kind and object (R172). -/
def distinctItems : List AttentionItem → Prop
  | [] => True
  | i :: rest => (∀ j ∈ rest, i.event.matches j.event = false) ∧ distinctItems rest

/-- The Attention List holds at most 16 items, and no two share both kind and object (R172). -/
def AttentionList.sound (l : AttentionList) : Prop := l.items.length ≤ Config.attention ∧ distinctItems l.items

/-- Account memory is in canonical form. -/
def State.memoryCanonical (s : State) : Prop := Memory.wf s.memory = true

end Sys2Proof.Machine

namespace Sys2Proof

/-! ### Commands as rows -/

/-- The row of the opcode table that stands for the arrival of a command's frame. -/
def Command.row (tag : Byte) : Command → Instr
  | .readAccount a => .readAccount tag a
  | .readParticipant i c => .readParticipant tag i c
  | .readFeeder f c => .readFeeder tag f c
  | .readBand p c => .readBand tag p c
  | .readBook b p => .readBook tag b p
  | .readRoundStatus f => .readRoundStatus tag f
  | .readClock => .readClock tag
  | .readEngine => .readEngine tag
  | .sweepAccounts o => .sweepAccounts tag o
  | .scanAccounts o => .scanAccounts tag o
  | .hold f => .hold tag f
  | .resume f => .resume tag f
  | .enrol f n serial => .enrol tag f n serial
  | .rebase i => .rebase tag i
  | .stageParticipant i e => .stageParticipant tag i e
  | .stageFeeder f e => .stageFeeder tag f e
  | .stageGeneral g w => .stageGeneral tag g w
  | .stageBand p b => .stageBand tag p b
  | .clearBands => .clearBands tag
  | .stageCopy => .stageCopy tag
  | .activate => .activate tag
  | .disarm => .disarm tag
  | .setClock d t w => .setClock tag d t w
  | .releaseBook m => .releaseBook tag m
  | .discardBook m => .discardBook tag m
  | .transfer o => .transfer tag o
  | .repairAccount o => .repairAccount tag o
  | .flush => .flush tag
  | .initAccountMemory => .initAccountMemory tag
  | .senseAttention => .senseAttention tag
  | .restart k => .restart tag k

end Sys2Proof

namespace Sys2Proof.Machine

/-! ### When a command is taken, and what it leaves -/

/-- A command that arrives becomes the executing command at once (R164) and is not REFUSED QUIESCED (R166). -/
abbrev State.accepts (s : State) : Prop :=
  s.link.executing = none ∧ s.commandsHeld = false ∧ s.isQuiesced = false

/-- A state with a command executing at a stage of its rule. -/
def State.executing (s : State) (tag code : Byte) (run : Run) : State :=
  { s with link := { s.link with executing := some { tag := tag, code := code, run := run } } }

/-- A state whose executing command has its RESULT built: its result phase (R167). -/
def State.answered (s : State) (tag code : Byte) (outcome : OutcomeClass) (detail : Nat) (fields : List Byte) : State :=
  s.executing tag code (.result { code := code, outcome := outcome, detail := detail, fields := fields, overflow := none,
                                  restart := .absent })

/-- A state with an operation on the account memory port. -/
def State.onPort (s : State) (o : PortOp) : State := { s with port := { s.port with inProgress := some o } }

/-- No command is in its execution phase. -/
def State.commandDone (s : State) : Bool :=
  match s.run with
  | none => true
  | some (.result _) => true
  | some _ => false

/-- A command in its execution phase, not yet cut, whose RESULT carries no fields when it is cut: any but SWEEP, SCAN and
FLUSH (R169, R187, R188). -/
def Run.plain : Run → Bool
  | .readAccount _ | .rebaseWait _ | .rebaseRead _ => true
  | .transferWait _ | .transferPayer _ | .transferPayee _ => true
  | .transferJournal _ _ _ | .transferHeader _ _ | .transferWriteBack _ _ _ | .transferClear _ _ => true
  | .repairWait _ | .repairRead _ | .repairWrite _ => true
  | .initWait | .initHeader | .initRecords _ | .initFinal | .initReadback => true
  | .deciding | .sweep _ | .scan _ | .flush _ _ | .cutting _ _ | .result _ => false

/-- A Notice Builder's request waits (R157). -/
def Prefetch.isWaiting : Prefetch → Bool
  | .waiting _ => true
  | _ => false

/-- No unit but the Command Unit has anything to do or asks for the port, and the port is free: the engine is not
QUIESCED, no RESTART sequence and no start-up runs, no book waits for, is in, or has passed into settling, the activation
waits for nothing but a boundary, nothing is to be marked, and no prefetch waits. -/
abbrev State.resting (s : State) : Prop :=
  s.isQuiesced = false ∧ s.sequence = .none ∧ s.work = none ∧ s.posting.phase = .idle ∧ s.port.inProgress = none ∧
  s.port.startup = .idle ∧ s.activation.phase ≠ .awaitQuiet ∧ s.activation.phase ≠ .checking ∧
  s.activation.marking = [] ∧ (∀ b ∈ s.books, b.state ≠ .waiting ∧ b.state ≠ .settling ∧ b.state ≠ .posting) ∧
  (∀ f : Feeder, s.ports[f].prefetch.isWaiting = false)

/-- Every unit waits for a further event: none has a turn to take, and an operation holds the port. -/
abbrev State.blocked (s : State) : Prop := s.turn = none ∧ s.port.inProgress ≠ none

end Sys2Proof.Machine
end

