-- ==== Sys2Proof/Certificates/Slice0/Obligations.lean ====
section
/-! DEFINITION. The statements for the provers, from the numbered rules of the spec. -/

open Sys2Proof Sys2Proof.Machine

/-! ### The block, reset and the board -/

/-- The queue of events: a step takes the front one, with the queue's rest; on an empty queue the block idles (log 1).
-/
def Obligations.StepTakesTheFrontEvent : Prop :=
  (∀ (c : Instr) (rest : List Instr) (s : State), step { s with pending := c :: rest } = exec c { s with pending := rest }) ∧
  (∀ s : State, s.pending = [] → step s = .next s)

/-- What the hardware reset values are (R22, R24, R41, R68, R69, R88, R90, R127, R131, R148, R156, R161, R178), that
account memory is in canonical form then, and that the capacities which every step keeps hold. That nothing is written,
the input's level and the model's own fields are the model's choices (log 6, log 23). -/
def Obligations.ResetHoldsTheHardwareResetValues : Prop :=
  State.reset.engine = .unconfigured ∧ State.reset.sequence = .none ∧
  State.reset.active = .empty ∧ State.reset.staged = .empty ∧
  (∀ i : Fin 192, State.reset.live[i] = .initial) ∧
  (∀ f : Feeder, State.reset.ports[f].state = .off ∧ State.reset.ports[f].number = 0 ∧ State.reset.ports[f].last = none ∧
    State.reset.ports[f].round = none ∧ State.reset.ports[f].window = .shut ∧ State.reset.ports[f].driving = false ∧
    State.reset.ports[f].enrolment.condition = .free ∧ State.reset.ports[f].queue = [] ∧ State.reset.ports[f].cursor = 0 ∧
    State.reset.ports[f].prefetch = .none) ∧
  State.reset.activation.phase = .idle ∧ State.reset.activation.marking = [] ∧ State.reset.activation.report = none ∧
  State.reset.clock.day = 0 ∧ State.reset.clock.second = 0 ∧ State.reset.clock.weekday = 0 ∧
  State.reset.clock.isSet = false ∧ State.reset.clock.mark = 0 ∧ State.reset.clock.openStart = none ∧
  State.reset.books = [] ∧ State.reset.work = none ∧
  State.reset.posting.phase = .idle ∧ State.reset.posting.book = none ∧ State.reset.posting.recheck = [] ∧
  State.reset.port.state = .notReady ∧ State.reset.port.header = none ∧
  State.reset.port.inProgress = some .startupHeaderRead ∧ State.reset.cache = .empty ∧
  State.reset.link.receive = .hunting ∧ State.reset.link.executing = none ∧ State.reset.link.waiting = [] ∧
  State.reset.link.overrun = false ∧ State.reset.link.discardsSeen = false ∧ State.reset.link.outbound = [] ∧
  State.reset.attention.items = [] ∧ State.reset.attention.overflow = false ∧
  State.reset.memoryCanonical ∧ State.reset.attention.sound ∧ State.reset.bounded

/-- HARDWARE_RESET (R22, R24, R41, R68, R69, R90, R127, R145, R148, R156, R161, R178): from every state the engine
takes its hardware reset values, QUIESCED and without start-up's first read when the power-warning input is still
asserted; account memory keeps every byte outside the place of a write that the reset cuts off. What that place then
holds is an operand (log 8); the model's own fields stay (log 23). -/
def Obligations.HardwareResetEmptiesTheEngineAndKeepsMemory : Prop :=
  ∀ (s : State) (left : Option (List Byte)), s.memoryCanonical →
    ∃ t, exec (.hardwareReset left) s = .next t ∧
      t = { State.reset with
              engine := if s.powerWarning then .quiesced else .unconfigured
              powerWarning := s.powerWarning
              port := { state := .notReady, header := none,
                        inProgress := if s.powerWarning then none else some .startupHeaderRead,
                        startup := if s.powerWarning then .idle else .readingHeader }
              memory := t.memory, freeCount := s.freeCount, pending := s.pending } ∧
      ∀ a : Nat, (∀ o place, s.port.inProgress = some o → o.place = some place → a < place ∨ place + 32 ≤ a) →
        readByte t.memory a = readByte s.memory a

/-- POWER_WARNING_ASSERTED and POWER_WARNING_RELEASED (R20, R68, R145, R146, R147, R168, R174, R175, R177, R187).
Asserted: the engine is QUIESCED and holds the state it left; a port with a window in progress completes it and cuts its
round short at its close, whether or not the warning has been released by then, in a QUIET window too (log 13); the
other rounds are cut short, one whose next window was only due among them (log 12); checks are abandoned, start-up
stops, an operation in progress goes on, and on a free port the flush's first write-back is granted if a line is dirty.
An executing command ends CUT QUIESCED, a FLUSH with its count, a SCAN and a SWEEP with theirs (a free byte for the last
account of one that has visited none, log 10; the SWEEP's stopped indicator clear, log 41), but only once an operation
of its own in progress, or a BLOCK that waits, is done (log 19); one in its result phase is left alone, and a waiting
command that then becomes executing is REFUSED QUIESCED. Released, with the port free and no line dirty: the RESTART
sequence with keep-held no has come to start-up's header read. Released with an operation in progress, the flush's
write-back or the one granted before the warning, or with a line still dirty: the engine stays QUIESCED until the flush
has ended. Asserted while asserted, or released while released, changes nothing (log 3). That the ports stay shut after
the release, until the sequence reaches them, is the model's choice (log 44). -/
def Obligations.PowerWarningQuiescesAndItsReleaseRestarts : Prop :=
  (∀ s : State, s.powerWarning = false → s.isQuiesced = false →
    let t : State :=
      { s with powerWarning := true, engine := .quiesced, before := s.engine, sequence := .none,
               activation := { s.activation with
                 phase := if s.activation.phase = .checking then .awaitBoundary else s.activation.phase, toCheck := [] },
               ports := s.ports.map fun p =>
                 if p.window.isOpen then { p with restartDue := some .cut }
                 else { p with window := .shut, round := none, sending := [], driving := false, restartDue := none,
                               number := if p.round.isSome then p.number + 1 else p.number },
               port := { s.port with startup := .idle },
               link := { s.link with outbound := s.link.outbound.map OutFrame.overtake } }
    let flushes (u : State) : Prop :=
      (s.port.inProgress ≠ none ∨ s.cache.dirtyAccounts = [] → exec .powerWarningAsserted s = .next u) ∧
      (∀ a rest line, s.port.inProgress = none → s.cache.dirtyAccounts = a :: rest → s.cache.find a = some line →
        exec .powerWarningAsserted s = .next (u.onPort (.writeBack .powerFlush line a)))
    (s.link.executing = none → s.link.waiting = [] ∨ s.link.restartHold = true → flushes t) ∧
    (∀ tag c rest, s.link.executing = none → s.link.restartHold = false →
      s.link.waiting = { tag := tag, request := .command c } :: rest →
      flushes (({ t with link := { t.link with waiting := rest } } : State).answered tag
        (BitVec.ofNat 8 (commandCode c)) .refused 2 [])) ∧
    (∀ e : Executing, s.link.executing = some e →
      (∀ built, e.run = .result built → built.restart = .absent → flushes t) ∧
      (∀ reason n, e.run = .cutting reason n → flushes (t.executing e.tag e.code (.cutting .quiesced n))) ∧
      (s.port.servesCommand = true →
        (e.run.plain = true → flushes (t.executing e.tag e.code (.cutting .quiesced none))) ∧
        (∀ rest n, e.run = .flush rest n → flushes (t.executing e.tag e.code (.cutting .quiesced (some n)))) ∧
        (∀ x, e.run = .scan x → x.tested = true → s.cache.lookup x.inHand = .miss →
          flushes (t.executing e.tag e.code (.scan { x with ending := .cut .quiesced }))) ∧
        (∀ x, e.run = .sweep x → x.block = none → s.cache.lookup x.inHand = .miss →
          flushes (t.executing e.tag e.code (.sweep { x with ending := .cut .quiesced })))) ∧
      (∀ x body, e.run = .sweep x → x.block = some body →
        flushes (t.executing e.tag e.code (.sweep { x with ending := .cut .quiesced }))) ∧
      (s.port.servesCommand = false →
        (e.run.plain = true → flushes (t.answered e.tag e.code .cut 2 [])) ∧
        (∀ rest n, e.run = .flush rest n → flushes (t.answered e.tag e.code .cut 2 (be 1 n))) ∧
        (∀ x, e.run = .scan x →
          let counts : List Byte := be 1 x.visited ++ be 1 x.suspended ++ be 1 x.damaged
          (∀ last, x.lastVisited = some last → flushes (t.answered e.tag e.code .cut 2 (counts ++ be 1 last))) ∧
          (x.lastVisited = none → ∃ byte : Byte,
            flushes (({ t with freeCount := s.freeCount + 1 } : State).answered e.tag e.code .cut 2
              (counts ++ [byte])))) ∧
        (∀ x, e.run = .sweep x → x.block = none →
          let counts : List Byte := be 1 x.visited ++ be 1 x.blocks ++ be 1 x.damaged
          (∀ last, x.lastVisited = some last →
            flushes (t.answered e.tag e.code .cut 2 (counts ++ be 1 last ++ [0]))) ∧
          (x.lastVisited = none → ∃ byte : Byte,
            flushes (({ t with freeCount := s.freeCount + 1 } : State).answered e.tag e.code .cut 2
              (counts ++ [byte, 0]))))))) ∧
  (∀ s : State, s.powerWarning = true → s.isQuiesced = true → s.link.executing = none → s.port.inProgress = none →
    (s.cache.dirtyAccounts = [] → s.before ≠ .quiesced →
      exec .powerWarningReleased s = .next
        { s with powerWarning := false, engine := s.before, work := none,
                 posting := { phase := .idle, book := none, cursor := 0, images := [], durable := false,
                              recheck := s.posting.recheck },
                 activation := { s.activation with
                   phase := if s.activation.phase = .awaitQuiet ∨ s.activation.phase = .checking then .awaitBoundary
                            else s.activation.phase, toCheck := [] },
                 books := [], live := Vector.replicate 192 .initial,
                 ports := s.ports.map fun p =>
                   { p with queue := [], enrolment := .free,
                            prefetch := if p.prefetch.isWaiting then .none else p.prefetch },
                 attention := { items := [], overflow := false }, cache := .empty, sequence := .startup false,
                 port := { s.port with state := .notReady, startup := .readingHeader,
                                       inProgress := some .startupHeaderRead } }) ∧
    (∀ a rest line, s.cache.dirtyAccounts = a :: rest → s.cache.find a = some line →
      exec .powerWarningReleased s = .next
        (({ s with powerWarning := false } : State).onPort (.writeBack .powerFlush line a)))) ∧
  (∀ s : State, s.powerWarning = true → s.isQuiesced = true → s.link.executing = none → s.port.inProgress ≠ none →
    exec .powerWarningReleased s = .next { s with powerWarning := false }) ∧
  (∀ (s : State) (f : Feeder) (r : Round), s.ports[f].restartDue = some .cut → s.ports[f].round = some r →
    let t : State :=
      s.setPort f { s.ports[f] with window := .shut, round := none, sending := [], driving := false, restartDue := none,
                                    number := s.ports[f].number + 1 }
    (∀ heard, s.ports[f].window = .quiet → exec (.quietWindowClose f heard) s = .next t) ∧
    (∀ j, s.ports[f].window = .slot j → t.blocked → exec (.meterSlotClose f []) s = .next t)) ∧
  (∀ s : State, s.powerWarning = true → exec .powerWarningAsserted s = .next s) ∧
  (∀ s : State, s.powerWarning = false → exec .powerWarningReleased s = .next s)

/-! ### Feeder commands -/

/-- HOLD and RESUME (R14, R16, with R13 and R19 for a feeder that goes OFF). -/
def Obligations.HoldAndResumeFollowTheFeederState : Prop :=
  ∀ (s : State) (tag : Byte) (f : Feeder), s.accepts →
    exec (.hold tag f.val) s = .next
      (match s.ports[f].state with
       | .running => (s.setPort f { s.ports[f] with state := .holdPending }).answered tag 0x10 .done 0 []
       | .holdPending => s.answered tag 0x10 .done 0 []
       | .held => s.answered tag 0x10 .done 0 []
       | .off => s.answered tag 0x10 .refused 4 []) ∧
    exec (.resume tag f.val) s = .next
      (match s.ports[f].state with
       | .running => s.answered tag 0x11 .done 0 []
       | .holdPending => (s.setPort f { s.ports[f] with state := .running }).answered tag 0x11 .done 0 []
       | .held =>
         if (s.active.feeder f.val).enabled then
           (s.setPort f { s.ports[f] with state := .running, window := .headDue, round := none, sending := [],
                                          driving := false }).answered tag 0x11 .done 0 []
         else
           let stopped : FeederPort :=
             { s.ports[f] with state := .off, window := .shut, round := none, sending := [], driving := false }
           let item : Attention := .enrolDone f.val .notHeard stopped.enrolment.others stopped.enrolment.counted
           (if stopped.enrolment.condition = .listening then
              ({ s with attention := s.attention.raise item } : State).setPort f
                { stopped with enrolment :=
                    if s.attention.drops item then .free
                    else { stopped.enrolment with condition := .ended .notHeard, counting := false } }
            else s.setPort f stopped).answered tag 0x11 .done 0 []
       | .off => s.answered tag 0x11 .refused 4 [])

/-- ENROL (R17): the refusals BAD_PARAMETER, NOT_RUNNING and BUSY, and the register made LISTENING at once with
"started"; the other ports, the register of another feeder among them, stay as they are. -/
def Obligations.EnrolStartsTheRegisterOrIsRefused : Prop :=
  (∀ (s : State) (tag : Byte) (feeder rounds serial : Nat), s.accepts → (3 < feeder ∨ rounds = 0 ∨ 255 < rounds) →
    exec (.enrol tag feeder rounds serial) s = .next (s.answered tag 0x12 .refused 3 [])) ∧
  (∀ (s : State) (tag : Byte) (f : Feeder) (rounds serial : Nat), s.accepts → 1 ≤ rounds → rounds ≤ 255 →
    serial ≤ 4294967295 →
    exec (.enrol tag f.val rounds serial) s = .next
      (if s.ports[f].state = .off ∨ s.ports[f].state = .held then s.answered tag 0x12 .refused 4 []
       else if s.ports[f].enrolment.condition ≠ .free then s.answered tag 0x12 .refused 5 []
       else
         (s.setPort f { s.ports[f] with enrolment := { condition := .listening, expected := serial, remaining := rounds,
                                                       others := 0, counted := 0, counting := false } }).answered
           tag 0x12 .done 1 []))

/-! ### Staging and activation -/

/-- The six staging commands write their part of the staged set and nothing else (R54 step 4, R55 to R58), while the
engine is not armed; armed, each is REFUSED ARMED, even with a parameter out of range, and a parameter out of range is
REFUSED BAD_PARAMETER otherwise (R54 steps 2 and 3). -/
def Obligations.StagingCommandsWriteTheStagedSetAlone : Prop :=
  (∀ (s : State) (tag : Byte), s.accepts → s.isArmed = false →
    (∀ i e, i ≤ 191 → entryInRange e = true →
      exec (.stageParticipant tag i e) s = .next
        (({ s with staged := { s.staged with participants := s.staged.participants.setIfInBounds i e } } : State).answered
          tag 0x20 .done 0 [])) ∧
    (∀ f e, f ≤ 3 → e.slotCount ≤ 48 →
      exec (.stageFeeder tag f e) s = .next
        (({ s with staged := { s.staged with feeders := s.staged.feeders.setIfInBounds f e } } : State).answered
          tag 0x21 .done 0 [])) ∧
    (∀ g week, g.interval ∈ [5, 10, 15, 30, 60] → 10 ≤ g.grace → g.grace ≤ 600 →
      exec (.stageGeneral tag g week) s = .next
        (({ s with staged := { s.staged with general := g, week := week } } : State).answered tag 0x22 .done 0 [])) ∧
    (∀ p b, p ≤ 11 → (∀ x, b = some x → bandInRange x = true) →
      exec (.stageBand tag p b) s = .next
        (({ s with staged := { s.staged with bands := s.staged.bands.setIfInBounds p b } } : State).answered
          tag 0x23 .done 0 [])) ∧
    exec (.clearBands tag) s = .next
      (({ s with staged := { s.staged with bands := Vector.replicate 12 none } } : State).answered tag 0x24 .done 0 []) ∧
    exec (.stageCopy tag) s = .next (({ s with staged := s.active } : State).answered tag 0x25 .done 0 [])) ∧
  (∀ (s : State) (tag : Byte) (c : Command), s.accepts → commandCode c ∈ [0x20, 0x21, 0x22, 0x23, 0x24, 0x25] →
    (s.isArmed = true → exec (c.row tag) s = .next (s.answered tag (BitVec.ofNat 8 (commandCode c)) .refused 6 [])) ∧
    (s.isArmed = false → commandInRange c = false →
      exec (c.row tag) s = .next (s.answered tag (BitVec.ofNat 8 (commandCode c)) .refused 3 [])))

/-- ACTIVATE in RUNNING arms or is REFUSED ARMED, and in UNCONFIGURED is refused or, when a check fails, reports it and
ends CUT CHECK_FAILED with both sets as they were (R60, R65). -/
def Obligations.ActivateArmsOrReportsItsFailure : Prop :=
  ∀ (s : State) (tag : Byte), s.accepts →
    (s.engine = .running → s.activation.phase = .idle →
      exec (.activate tag) s = .next
        (({ s with activation := { s.activation with phase := .awaitBoundary } } : State).answered tag 0x26 .done 1 [])) ∧
    (s.engine = .running → s.activation.phase ≠ .idle →
      exec (.activate tag) s = .next (s.answered tag 0x26 .refused 6 [])) ∧
    (s.engine = .unconfigured → s.port.state = .notReady →
      exec (.activate tag) s = .next (s.answered tag 0x26 .refused 8 [])) ∧
    (s.engine = .unconfigured → s.port.state = .ready → s.clock.isSet = false →
      exec (.activate tag) s = .next (s.answered tag 0x26 .refused 9 [])) ∧
    (∀ check object, s.engine = .unconfigured → s.port.state = .ready → s.clock.isSet = true →
      firstFailure s.staged true = some (check, object) →
      exec (.activate tag) s = .next
        (({ s with activation := { s.activation with phase := .idle, toCheck := [], report := some (check, object) },
                   attention := s.attention.raise (.activateFailed check object) } : State).answered tag 0x26 .cut 20
          (be 1 check ++ presence 1 (be 1) object)))

/-- ACTIVATE in UNCONFIGURED commits when the checks pass (R24, R60, R66, R72), stated for an engine whose feeders are
OFF, whose other units rest and whose cache is empty: the sets are exchanged, the engine is RUNNING with its open
interval, the indices to be marked stand in ascending order, changed indices have lost their live state, enabled
feeders run, and the result is DONE "committed". In RUNNING the fill of the last account of check 11 that passes commits
likewise (R62, R64, R66): an OFF feeder made enabled opens its first round, one made disabled with no round in progress
is OFF at once and one with a round in progress finishes it (R13), each queue keeps the orders whose slot still has the
same participant and serial (R151), and marking's first read is asked for (R67). That is stated for units otherwise at
rest, no boundary to take under the new interval length, no enrolment LISTENING on a feeder that goes OFF, and a first
index to be marked that the cache does not hold; that its victim leaves its line at the grant is the model's reading
(log 16). -/
def Obligations.ActivateCommitsAPassingSet : Prop :=
  (∀ (s : State) (tag : Byte), s.accepts → s.resting → s.engine = .unconfigured → s.activation.phase = .idle →
    s.port.state = .ready → s.clock.isSet = true → s.cache = .empty → (∀ f : Feeder, s.ports[f].state = .off) →
    firstFailure s.staged true = none →
    ∃ t, exec (.activate tag) s = .next t ∧ t.engine = .running ∧ t.active = s.staged ∧ t.staged = s.active ∧
      t.clock = { s.clock with openStart := some (s.clock.minute / s.staged.general.interval * s.staged.general.interval) } ∧
      t.activation.phase = .idle ∧
      t.activation.marking = (List.range 192).filter (fun i =>
        nonVacant (s.staged.entry i) &&
          (!nonVacant (s.active.entry i) || (s.active.entry i).serial != (s.staged.entry i).serial)) ∧
      t.attention = s.attention.raise (.activated t.activation.marking.length .running) ∧
      (∀ i : Fin 192, t.live[i] =
        if (s.active.entry i).serial ≠ (s.staged.entry i).serial ∨ (s.active.entry i).kind ≠ (s.staged.entry i).kind ∨
           (s.active.entry i).feeder ≠ (s.staged.entry i).feeder ∨ (s.active.entry i).slot ≠ (s.staged.entry i).slot
        then .initial else s.live[i]) ∧
      (∀ f : Feeder, t.ports[f].state = (if (s.staged.feeder f.val).enabled then .running else .off) ∧
        t.ports[f].number = s.ports[f].number) ∧
      t.link = (s.answered tag 0x26 .done 2 []).link ∧ t.memory = s.memory ∧ t.books = s.books ∧
      t.posting = s.posting) ∧
  (∀ (s : State) (a line : Nat) (victim : Option (Nat × AccountRecord)) (returned : Option (List Byte)) (r : AccountRecord),
    s.engine = .running → s.activation.phase = .checking → s.activation.toCheck = [a] → s.activation.marking = [] →
    s.port.inProgress = some (.fill .activation a line victim) → s.port.state = .ready → line < 32 →
    s.cache.find a = none → s.commandDone = true →
    ({ s with port := { s.port with inProgress := none },
              activation := { s.activation with phase := .idle } } : State).resting →
    let memory : List Host.Cell :=
      match victim with
      | none => s.memory
      | some v => writeUnit s.memory (32 + 32 * v.1) (recordBytes v.1 v.2)
    let filled : Cache := s.cache.fill line a (some r)
    recordOf a (returned.getD (readBytes memory (32 + 32 * a) 28)) = some r → r.balance = 0 →
    (∀ start, s.clock.openStart = some start →
      s.clock.minute / s.staged.general.interval * s.staged.general.interval ≤ start) →
    (∀ f : Feeder, s.ports[f].state = .running ∨ s.ports[f].state = .holdPending →
      s.ports[f].round ≠ none ∨ (s.staged.feeder f.val).enabled = true ∨ s.ports[f].enrolment.condition ≠ .listening) →
    let marked := (List.range 192).filter fun i =>
      nonVacant (s.staged.entry i) &&
        (!nonVacant (s.active.entry i) || (s.active.entry i).serial != (s.staged.entry i).serial)
    let same (f j : Nat) : Bool :=
      match s.staged.slotParticipant f j, s.active.slotParticipant f j with
      | some i, some k => i == k && (s.staged.entry i).serial == (s.active.entry k).serial
      | _, _ => false
    let committed : State :=
      { s with
        active := s.staged, staged := s.active, memory := memory, cache := filled
        activation := { s.activation with phase := .idle, toCheck := [], marking := marked }
        attention := s.attention.raise (.activated marked.length .running)
        port := { s.port with inProgress := none }
        live := Vector.ofFn fun i : Fin 192 =>
          if (s.active.entry i).serial ≠ (s.staged.entry i).serial ∨ (s.active.entry i).kind ≠ (s.staged.entry i).kind ∨
             (s.active.entry i).feeder ≠ (s.staged.entry i).feeder ∨ (s.active.entry i).slot ≠ (s.staged.entry i).slot
          then .initial else s.live[i]
        ports := Vector.ofFn fun f : Feeder =>
          let p : FeederPort := { s.ports[f] with queue := s.ports[f].queue.filter fun e => same f.val e.slot }
          if p.state = .off ∧ (s.staged.feeder f.val).enabled = true then
            { p with state := .running, window := .headDue, round := none, sending := [], driving := false }
          else if (p.state = .running ∨ p.state = .holdPending) ∧ p.round = none ∧
                  (s.staged.feeder f.val).enabled = false then
            { p with state := .off, window := .shut, sending := [], driving := false }
          else p }
    (marked = [] → exec (.cacheFill returned) s = .next committed) ∧
    (∀ i rest free, marked = i :: rest → filled.lookup i = .miss → filled.victim none = some free →
      exec (.cacheFill returned) s = .next
        (({ committed with cache := filled.drop free } : State).onPort
          (.fill .activation i free (dirtyRecord (filled.line free))))))

/-- A staged set that passes checks 1 to 10 has the terms that the rules promise of an active set (R39, R43, R45, R47,
R49, R51, R64): one GRID_TIE, two stores at most, serials and places alone, places on enabled feeders, links to other
households or stores, no chain of links longer than 4 and none that returns to an entry on it, a band of start minute 0
for each day class, no feed price above its grid price, and a grace below the interval length. -/
def Obligations.PassingChecksHoldTheActiveTablesTerms : Prop :=
  ∀ t : TableSet, firstFailure t true = none →
    (∃ g, g < 192 ∧ (t.entry g).kind = .gridTie ∧ ∀ i < 192, (t.entry i).kind = .gridTie → i = g) ∧
    ((List.range 192).filter (fun i => (t.entry i).kind == .store)).length ≤ 2 ∧
    (∀ i < 192, ∀ j < 192, nonVacant (t.entry i) = true → nonVacant (t.entry j) = true → i ≠ j →
      (t.entry i).serial ≠ (t.entry j).serial ∧
      ¬((t.entry i).feeder = (t.entry j).feeder ∧ (t.entry i).slot = (t.entry j).slot)) ∧
    (∀ i < 192, nonVacant (t.entry i) = true →
      (t.feeder (t.entry i).feeder).enabled = true ∧ (t.entry i).slot < (t.feeder (t.entry i).feeder).slotCount ∧
      ∀ r, (t.entry i).redirect = some r →
        r.target ≠ i ∧ ((t.entry r.target).kind = .household ∨ (t.entry r.target).kind = .store)) ∧
    (∀ i < 192, nonVacant (t.entry i) = true → ∀ chain : List Nat, chain.head? = some i →
      (∀ k a b, chain[k]? = some a → chain[k + 1]? = some b → ∃ r, (t.entry a).redirect = some r ∧ r.target = b) →
      chain.length ≤ 5 ∧ chain.Nodup) ∧
    (∀ c : DayClass, ∃ p : Fin 12, ∃ b, t.bands[p] = some b ∧ bandServes b.dayClass c = true ∧ b.start = 0) ∧
    (∀ (p : Fin 12) b, t.bands[p] = some b → b.feedPrice ≤ b.gridPrice) ∧
    t.general.grace < t.general.interval * 60

/-- DISARM (R61, R63): REFUSED NOT_ARMED in IDLE; else the phase becomes IDLE, with both sets, the marking list and the
failure report as they were. In CHECKING, with the read of check 11 or another operation in progress on the port, which
goes on, or with a free port, it is stated for units that then rest or wait and a clock with no boundary to take. -/
def Obligations.DisarmLeavesTheSetsAlone : Prop :=
  ∀ (s : State) (tag : Byte), s.accepts →
    let t : State := { s with activation := { s.activation with phase := .idle, toCheck := [] } }
    (s.activation.phase = .idle → exec (.disarm tag) s = .next (s.answered tag 0x27 .refused 7 [])) ∧
    (s.activation.phase = .awaitBoundary ∨ s.activation.phase = .awaitQuiet →
      exec (.disarm tag) s = .next (t.answered tag 0x27 .done 0 [])) ∧
    (∀ start, s.activation.phase = .checking → t.resting ∨ (t.answered tag 0x27 .done 0 []).blocked →
      s.clock.openStart = some start → s.candidate ≤ start →
      exec (.disarm tag) s = .next (t.answered tag 0x27 .done 0 []))

/-! ### The clock and the books: commands -/

/-- SET CLOCK (R70, R71): in UNCONFIGURED the values are taken and the set flag set; in RUNNING a step beyond 120 s is
REFUSED STEP_TOO_LARGE, a backward step or one of 0 moves the clock alone, and so does a forward step that reaches no
collection deadline and no multiple of the interval length. A forward step that reaches the deadline ends the
collection (R31, R79), one that reaches a multiple beyond the open interval's start takes the boundary (R73, R74), and
one that reaches both does the first before the second; the result says which. Forward steps are stated for units at
rest, those that end a collection for a memory NOT_READY, and the boundary for someone to expect and room in the Book
List. That a book's two counts are 0 while it collects (log 36) and that the ABSENT items of one end of collection come
in ascending index (log 47) are the model's choices. That a step does not first serve a deadline or a multiple which a
tick reached and whose row has not come is the model's choice too (log 45). -/
def Obligations.SetClockTakesStepsUpTo120Seconds : Prop :=
  ∀ (s : State) (tag : Byte) (day second weekday : Nat), s.accepts → day ≤ 65535 → second ≤ 86399 → weekday ≤ 6 →
    let now : Nat := day * 86400 + second
    let old : Nat := s.clock.day * 86400 + s.clock.second
    let step : Int := (now : Int) - (old : Int)
    let moved : State := { s with clock := { s.clock with day := day, second := second, weekday := weekday } }
    let candidate : Nat := (day * 1440 + second / 60) / s.active.general.interval * s.active.general.interval
    (s.engine = .unconfigured →
      exec (.setClock tag day second weekday) s = .next
        (({ moved with clock := { moved.clock with isSet := true } } : State).answered tag 0x30 .done 0
          (be 5 now ++ signedBe 2 0 ++ [0, 0]))) ∧
    (s.engine = .running → step < -120 ∨ 120 < step →
      exec (.setClock tag day second weekday) s = .next (s.answered tag 0x30 .refused 10 [])) ∧
    (s.engine = .running → -120 ≤ step → step ≤ 0 →
      exec (.setClock tag day second weekday) s = .next
        (moved.answered tag 0x30 .done 0 (be 5 now ++ signedBe 2 step ++ [0, 0]))) ∧
    (s.engine = .running → 0 < step → step ≤ 120 → s.resting →
      (∀ b ∈ s.books, b.state = .collecting → now < b.deadline) → candidate * 60 ≤ old →
      exec (.setClock tag day second weekday) s = .next
        (moved.answered tag 0x30 .done 0 (be 5 now ++ signedBe 2 step ++ [0, 0]))) ∧
    (s.engine = .running → 0 < step → step ≤ 120 → s.resting →
      let missing (b : Book) : List Nat := b.expected.filter fun i => (s.liveOf i).taken.isNone
      let run (i : Nat) : Nat := min 255 ((s.liveOf i).absence + 1)
      let ended (b : Book) : State :=
        { moved with
          books := s.books.map fun x =>
            if x.start = b.start ∧ x.state = .collecting then
              { x with
                state := .waiting, members := b.expected.map fun i => { index := i, snapshot := (s.liveOf i).taken }
                missing := (missing b).length
                counterFaults := (b.expected.filter fun i =>
                  ((s.liveOf i).taken.map Snapshot.counterFault).getD false).length }
            else x
          live := Vector.ofFn fun i : Fin 192 =>
            if i.val ∈ missing b then { s.live[i] with absence := run i } else s.live[i]
          attention := (((missing b).filter fun i => 3 ≤ run i).map fun i => Attention.absent i (run i)).foldl
            AttentionList.raise s.attention }
      let expected := (List.range 192).filter fun i =>
        nonVacant (s.active.entry i) && (s.active.feeder (s.active.entry i).feeder).enabled
      let taken (t : State) (start : Nat) : State :=
        { t with
          books := t.books ++ [{
            start := start, close := candidate, mark := s.clock.mark + 1,
            deadline := max (candidate * 60) now + s.active.general.grace, state := .collecting, holdReason := none,
            expected := expected, members := [], missing := 0, counterFaults := 0, capture := none, figures := none,
            owed := false }]
          clock := { t.clock with mark := s.clock.mark + 1, openStart := some candidate }
          activation := { s.activation with
            phase := if s.activation.phase = .awaitBoundary then .awaitQuiet else s.activation.phase }
          live := t.live.map fun l => { l with taken := none } }
      let result (t : State) (collection boundary : Byte) : Host.Outcome State Fault Refusal :=
        .next (t.answered tag 0x30 .done 0 (be 5 now ++ signedBe 2 step ++ [collection, boundary]))
      let ends (b : Book) : Prop :=
        s.books.find? (fun b => b.state == .collecting) = some b ∧ b.deadline ≤ now ∧ s.port.state = .notReady ∧
        b.expected.Nodup ∧ (∀ i ∈ b.expected, i < 192)
      let takes (start : Nat) : Prop :=
        s.clock.openStart = some start ∧ old < candidate * 60 ∧ start < candidate ∧ expected ≠ [] ∧ s.books.length < 8
      (∀ b, ends b → candidate * 60 ≤ old → exec (.setClock tag day second weekday) s = result (ended b) 1 0) ∧
      (∀ start, takes start → (∀ b ∈ s.books, b.state ≠ .collecting) →
        exec (.setClock tag day second weekday) s = result (taken moved start) 0 1) ∧
      (∀ b start, ends b → (∀ x ∈ s.books, x.state = .collecting → x = b) → takes start →
        exec (.setClock tag day second weekday) s = result (taken (ended b) start) 1 1))

/-- RELEASE BOOK and DISCARD BOOK (R53, R80, R81, R82, R85, R86, R91): the refusals; the release of a HELD book that
must wait because the account memory is NOT_READY; the discard; and the release when the entry conditions hold, after
which the book is SETTLING with band and prices captured for its start minute, and the Settlement Unit's first read, of
CLEARING, is granted into line 0. Stated for units at rest, the last for an empty cache. The discard that leaves every
book POSTED or DISCARDED while the  activation waits in AWAIT_QUIET is the commit moment (R62): with checks 1 to 10
passed the phase is CHECKING, the indices  that check 11 reads are listed in ascending order, and the first of them not
in the cache has its fill granted (R64; its  victim: log 16); with one failed the phase is IDLE, the failure report
holds the check and its object, and ACTIVATE_FAILED  is raised (R65), stated for no boundary to be taken then. -/
def Obligations.HeldBooksAreReleasedOrDiscarded : Prop :=
  ∀ (s : State) (tag : Byte) (start : Nat), s.accepts → start ≤ 94371839 →
    (s.book start = none →
      exec (.releaseBook tag start) s = .next (s.answered tag 0x31 .refused 11 []) ∧
      exec (.discardBook tag start) s = .next (s.answered tag 0x32 .refused 11 [])) ∧
    (∀ b, s.book start = some b → b.state ≠ .held →
      exec (.releaseBook tag start) s = .next (s.answered tag 0x31 .refused 12 []) ∧
      exec (.discardBook tag start) s = .next (s.answered tag 0x32 .refused 12 [])) ∧
    (∀ b, s.book start = some b → b.state = .held → s.resting →
      (s.port.state = .notReady →
        exec (.releaseBook tag start) s = .next
          (({ s with books := s.books.map fun b =>
                if b.start = start then
                  { b with state := .waiting, holdReason := none, capture := none, figures := none }
                else b } : State).answered tag 0x31 .done 1 [])) ∧
      exec (.discardBook tag start) s = .next
        (({ s with books := s.books.map fun b =>
              if b.start = start then { b with state := .discarded, owed := true } else b } : State).answered
          tag 0x32 .done 1 [])) ∧
    (∀ b, s.book start = some b → b.state = .held → s.resting → s.port.state = .ready → s.cache = .empty →
      s.books.find? (fun x => x.state != .posted && x.state != .discarded) = some b →
      exec (.releaseBook tag start) s = .next
        ((({ s with
             books := s.books.map fun x =>
               if x.start = start then
                 { x with state := .settling, holdReason := none, figures := none,
                          capture := some (s.active.captureFor s.clock.weekday start) }
               else x
             work := some { book := start, stage := .reading, copies := [],
                            toRead := [192, 193, 194, 195] ++
                              (b.members.filter (fun m => m.snapshot.isSome)).map Member.index,
                            rows := [], totals := none, aims := [], landed := [], changes := [] } } : State).answered
          tag 0x31 .done 1 []).onPort (.fill .settlement 192 0 none))) ∧
    (∀ b, s.book start = some b → b.state = .held → s.activation.phase = .awaitQuiet →
      ({ s with activation := { s.activation with phase := .idle } } : State).resting →
      (∀ x ∈ s.books, x.start ≠ start → x.state = .posted ∨ x.state = .discarded) →
      let after : State :=
        { s with books := s.books.map fun b =>
            if b.start = start then { b with state := .discarded, owed := true } else b }
      let first := firstFailure s.staged (s.port.state == .ready)
      (∀ i rest line, first = none →
        ((List.range 192).filter fun i => (s.active.entry i).kind != .vacant && (s.staged.entry i).kind == .vacant) =
          i :: rest →
        s.cache.lookup i = .miss → s.cache.victim none = some line →
        exec (.discardBook tag start) s = .next
          ((({ after with
               activation := { s.activation with phase := .checking, toCheck := i :: rest }
               cache := s.cache.drop line } : State).answered tag 0x32 .done 1 []).onPort
            (.fill .activation i line (dirtyRecord (s.cache.line line))))) ∧
      (∀ check object, first = some (check, object) → (∀ o, s.clock.openStart = some o → s.candidate ≤ o) →
        exec (.discardBook tag start) s = .next
          (({ after with
              activation := { s.activation with phase := .idle, toCheck := [], report := some (check, object) }
              attention := s.attention.raise (.activateFailed check object) } : State).answered tag 0x32 .done 1 [])))

/-! ### Reading commands -/

/-- READ PARTICIPANT, READ FEEDER and READ BAND (R181, R182, R183): DONE with the object's fields; READ ROUND STATUS,
READ CLOCK and READ ENGINE (R12, R185): DONE with the record, or "none" before any round has completed, the clock, the
engine. Nothing else changes. The bytes are then given field by field, most significant byte first, enumerations by
their places in their lists and an absent field as a 0 with its bytes 0. The order of some fields, the group bytes and
the position of a presence byte are the model's reading of section 12.3 (log 18), and that the dirty victim of a fill in
progress counts among the dirty lines is its reading too (log 16). -/
def Obligations.ReadsReturnTheObjectAndChangeNothing : Prop :=
  (∀ (s : State) (tag : Byte) (c : TableCopy), s.accepts →
    let t : TableSet := match c with | .active => s.active | .staged => s.staged
    (∀ i, i ≤ 191 → exec (.readParticipant tag i c) s = .next
      (s.answered tag 0x02 .done 0 (entryFields (t.entry i) ++ liveFields (s.liveOf i)))) ∧
    (∀ f : Feeder, exec (.readFeeder tag f.val c) s = .next
      (s.answered tag 0x03 .done 0 (feederFields (t.feeder f.val) s.ports[f]))) ∧
    (∀ p, p ≤ 11 → exec (.readBand tag p c) s = .next (s.answered tag 0x04 .done 0 (bandResultFields t p)))) ∧
  (∀ (s : State) (tag : Byte), s.accepts →
    (∀ f : Feeder, exec (.readRoundStatus tag f.val) s = .next
      (match s.ports[f].last with
       | some r => s.answered tag 0x06 .done 0 (roundFields r)
       | none => s.answered tag 0x06 .done 1 [])) ∧
    exec (.readClock tag) s = .next (s.answered tag 0x07 .done 0 (clockFields s.engine s.active.week s.clock)) ∧
    exec (.readEngine tag) s = .next (s.answered tag 0x08 .done 0 (engineFields s))) ∧
  (be 1 0x9A = [0x9A] ∧ be 3 0x123456 = [0x12, 0x34, 0x56] ∧ signedBe 2 (-2) = [0xFF, 0xFE] ∧
    signedBe 6 (-1) = List.replicate 6 0xFF) ∧
  (let flag (b : Bool) : Byte := if b then 1 else 0
   let present : List Byte := [1]
   let absent (n : Nat) : List Byte := List.replicate n 0
   let minute (m : Option Nat) : List Byte := match m with | some m => present ++ be 4 m | none => absent 5
   (∀ e : ParticipantEntry, entryFields e =
      be 1 (match e.kind with | .vacant => 0 | .household => 1 | .store => 2 | .gridTie => 3) ++
      be 1 (match e.status with | .active => 0 | .suspended => 1) ++ be 4 e.serial ++ be 1 e.feeder ++ be 1 e.slot ++
      be 2 e.ceiling ++ signedBe 6 e.creditFloor ++ be 2 e.limit ++
      (match e.redirect with
       | some r => present ++ be 1 r.target ++ be 1 (match r.scope with | .debits => 0 | .credits => 1 | .all => 2)
       | none => absent 3)) ∧
   (∀ l : LiveState, liveFields l =
      (match l.lastRound with | some n => present ++ be 2 n.toNat | none => absent 3) ++
      (match l.lastMark with | some m => present ++ be 1 m.toNat | none => absent 2) ++
      [flag l.limitActive, flag l.tamper, flag l.counterFault] ++
      (match l.taken with
       | some x => present ++ be 4 x.exported.toNat ++ be 4 x.imported.toNat ++ [flag x.counterFault]
       | none => absent 10) ++
      be 1 l.absence) ∧
   (∀ (e : FeederEntry) (p : FeederPort), feederFields e p =
      [flag e.enabled] ++ be 1 e.slotCount ++
      be 1 (match p.state with | .off => 0 | .running => 1 | .holdPending => 2 | .held => 3) ++ be 2 p.number.toNat ++
      (match p.enrolment.condition with
       | .free => absent 11
       | .listening => be 1 1 ++ present ++ be 1 p.enrolment.remaining ++ be 1 p.enrolment.others ++ absent 7
       | .ended (.found serial) => be 1 2 ++ absent 3 ++ present ++ be 1 0 ++ present ++ be 4 serial
       | .ended .heardOther => be 1 2 ++ absent 3 ++ present ++ be 1 1 ++ absent 5
       | .ended .notHeard => be 1 2 ++ absent 3 ++ present ++ be 1 2 ++ absent 5) ++
      be 1 p.cursor ++ be 1 p.queue.length ++
      p.queue.flatMap fun o =>
        be 1 o.slot ++ be 1 o.participant ++ be 1 (match o.kind with | .limit => 0 | .release => 1) ++ be 2 o.watts ++
        be 1 o.sends ++ [flag o.sent] ++ be 1 o.waited) ∧
   (∀ (t : TableSet) (p : Fin 12), bandResultFields t p.val =
      be 1 p.val ++
      (match t.bands[p] with
       | some b => present ++ be 1 (match b.dayClass with | .work => 0 | .rest => 1 | .both => 2) ++ be 2 b.start ++
           be 3 b.gridPrice ++ be 3 b.feedPrice ++ be 2 b.share ++ be 3 b.fee ++
           (if b.gridPrice < b.feedPrice then absent 4
            else present ++ be 3 (localPrice b.gridPrice b.feedPrice b.share))
       | none => absent 19) ++
      be 1 t.general.interval ++ be 2 t.general.grace ++
      t.week.toList.flatMap fun c => be 1 (match c with | .work => 0 | .rest => 1)) ∧
   (∀ r : RoundRecord, roundFields r =
      be 2 r.number.toNat ++ be 1 (if r.headOk then 0 else 1) ++ be 1 r.slotCount ++ be 1 r.outcomes.length ++
      (r.outcomes.flatMap fun o => be 1 (match o with
        | .good => 0 | .silent => 1 | .garbled => 2 | .checkFail => 3 | .foreign => 4 | .intruder => 5 | .vacant => 6
        | .turned => 7)) ++
      be 1 r.orders.length ++ (r.orders.flatMap fun o => be 1 o.1 ++ be 1 (if o.2 then 0 else 1)) ++
      be 1 (match r.notice with | .ok => 0 | .failed => 1 | .skipped => 2) ++
      (match r.quiet with
       | .nothing => absent 6
       | .announce serial => be 1 1 ++ present ++ be 4 serial
       | .garbled => be 1 2 ++ absent 5)) ∧
   (∀ (e : EngineState) (week : Vector DayClass 7) (c : DayClock), clockFields e week c =
      be 2 c.day ++ be 4 c.second ++ be 1 c.weekday ++ [flag c.isSet] ++ be 1 c.mark.toNat ++ minute c.openStart ++
      be 4 (c.day * 1440 + c.second / 60) ++
      (if e = .unconfigured then absent 2
       else present ++ be 1 (match week[(c.weekday + c.day) % 7]? with | some .rest => 1 | _ => 0))) ∧
   (∀ s : State, engineFields s =
      be 1 (match s.engine with | .unconfigured => 0 | .running => 1 | .quiesced => 2) ++
      be 1 (match s.activation.phase with | .idle => 0 | .awaitBoundary => 1 | .awaitQuiet => 2 | .checking => 3) ++
      be 1 s.activation.marking.length ++
      (match s.activation.report with
       | some (check, some object) => present ++ be 1 check ++ present ++ be 1 object
       | some (check, none) => present ++ be 1 check ++ absent 2
       | none => absent 4) ++
      be 1 (match s.port.state with | .notReady => 0 | .ready => 1) ++
      (match s.port.header with
       | some h => present ++ be 1 (match h.journal with | .empty => 0 | .bookReady => 1 | .transferReady => 2) ++
           minute h.lastPosted
       | none => absent 7) ++
      be 1 s.books.length ++
      (match s.books.find? fun b => b.state == .settling || b.state == .posting with
       | some b => present ++ be 4 b.start ++ be 1 (if b.state = .settling then 2 else 3)
       | none => absent 6) ++
      be 1 ((s.cache.lines.toList.filter fun l => match l with | some l => l.dirty | none => false).length +
        (match s.port.inProgress with | some (.fill _ _ _ (some _)) => 1 | _ => 0))))

/-- READ BOOK (R184): the book of a start minute, or the one with the greatest start minute for NEWEST, in either
part; REFUSED NO_BOOK without one. Nothing else changes. The bytes of both parts are then given field by field: up to 16
members from the position on, from the live state while the book is COLLECTING. The order of some fields is the model's
reading of section 12.3 (log 18), and that a missing member and one not yet taken have the same bytes is the model's
choice (log 40). -/
def Obligations.ReadBookNamesTheBook : Prop :=
  (∀ (s : State) (tag : Byte) (part : BookPart), s.accepts → (∀ p, part = .members p → p ≤ 191) →
    let fields (b : Book) : List Byte :=
      match part with | .summary => summaryFields b | .members p => membersFields s.live b p
    (∀ m, m ≤ 94371839 → exec (.readBook tag (.startMinute m) part) s = .next
      (match s.books.find? (fun b => b.start == m) with
       | some b => s.answered tag 0x05 .done 0 (fields b)
       | none => s.answered tag 0x05 .refused 11 [])) ∧
    (s.books = [] → exec (.readBook tag .newest part) s = .next (s.answered tag 0x05 .refused 11 [])) ∧
    (∀ b ∈ s.books, (∀ x ∈ s.books, x ≠ b → x.start < b.start) →
      exec (.readBook tag .newest part) s = .next (s.answered tag 0x05 .done 0 (fields b)))) ∧
  (let flag (b : Bool) : Byte := if b then 1 else 0
   let present : List Byte := [1]
   let absent (n : Nat) : List Byte := List.replicate n 0
   (∀ b : Book, summaryFields b =
      be 4 b.start ++ be 4 b.close ++ be 1 b.mark.toNat ++ be 5 b.deadline ++
      be 1 (match b.state with
        | .collecting => 0 | .waiting => 1 | .settling => 2 | .posting => 3 | .held => 4 | .posted => 5
        | .discarded => 6) ++
      (match b.holdReason with
       | some .range => present ++ be 1 1 | some .systemDamaged => present ++ be 1 2 | none => absent 2) ++
      [flag b.owed] ++ be 1 (if b.state = .discarded then 1 else 0) ++ be 1 b.expected.length ++ be 1 b.missing ++
      be 1 b.counterFaults ++
      (match b.capture, b.figures with
       | some k, some f =>
         if b.state = .settling then absent 86
         else
           present ++ be 1 k.band ++ be 3 k.gridPrice ++ be 3 k.feedPrice ++ be 2 k.share ++ be 3 k.fee ++
           be 3 k.localPrice ++ be 1 f.settled ++ be 1 f.missing ++ be 1 f.rebased ++ be 1 f.suspended ++
           be 1 f.excluded ++ be 1 f.clamped ++ be 4 f.totalSale ++ be 4 f.totalPurchase ++ be 4 f.localMatch ++
           be 4 f.excludedExport ++ be 4 f.excludedImport ++
           (match f.grid with
            | some g => present ++ be 4 g.gridImport ++ be 4 g.gridExport ++ signedBe 5 g.loss
            | none => absent 14) ++
           be 6 f.residue ++ be 6 f.localDebits ++ be 6 f.localCredits ++ be 6 f.gridDebits ++ be 6 f.gridCredits
       | _, _ => absent 86)) ∧
   (∀ (live : Vector LiveState 192) (b : Book) (position : Nat),
      let all : List Member :=
        if b.state = .collecting then b.expected.map fun i => { index := i, snapshot := (live[i]?).bind LiveState.taken }
        else b.members
      let shown := (all.drop position).take 16
      membersFields live b position =
        be 1 b.expected.length ++ be 1 shown.length ++
        shown.flatMap fun m =>
          be 1 m.index ++
          (match m.snapshot with
           | some x => present ++ be 4 x.exported.toNat ++ be 4 x.imported.toNat ++ [flag x.counterFault]
           | none => absent 10)))

/-- READ ACCOUNT (R136, R137, R138, R143, R179, R180): REFUSED NOT_READY; a hit, good or DAMAGED, is served at once
and its line is the most recently used; a miss is granted the victim's line for a fill, stated for units at rest. The
layout of the fields is the model's reading of section 12.3 (log 18), and that the victim leaves its line at the grant
is the model's too (log 16). -/
def Obligations.ReadAccountIsServedByTheCacheOrAFill : Prop :=
  ∀ (s : State) (tag : Byte) (a : Nat), s.accepts → a ≤ 195 →
    (s.port.state = .notReady → exec (.readAccount tag a) s = .next (s.answered tag 0x01 .refused 8 [])) ∧
    (∀ line r, s.port.state = .ready → s.cache.lookup a = .good line r →
      exec (.readAccount tag a) s = .next
        (({ s with cache := s.cache.touch line } : State).answered tag 0x01 .done 0
          (be 1 a ++ recordFields r ++ [flagByte (s.cache.isDirty line)]))) ∧
    (∀ line, s.port.state = .ready → s.cache.lookup a = .damaged line →
      exec (.readAccount tag a) s = .next
        (({ s with cache := s.cache.touch line } : State).answered tag 0x01 .done 0 (be 1 a ++ [1]))) ∧
    (∀ line, s.port.state = .ready → s.resting → s.cache.lookup a = .miss → s.cache.victim none = some line →
      exec (.readAccount tag a) s = .next
        ((({ s with cache := s.cache.drop line } : State).executing tag 0x01 (.readAccount a)).onPort
          (.fill .command a line (dirtyRecord (s.cache.line line)))))

/-- SWEEP ACCOUNTS (R186), stated for units at rest and a READY memory: a first account that the cache holds and that
matches has its BLOCK, position 0, waiting; one it does not hold is granted a fill; and a sweep of one good account
that does not match is DONE with its counts. The order of the counts is the model's reading of section 12.3 (log 18),
and that a fill's victim leaves its line at the grant is too (log 16). -/
def Obligations.SweepVisitsItsFirstAccount : Prop :=
  ∀ (s : State) (tag : Byte) (o : SweepOrder), s.accepts → o.first ≤ o.last → o.last ≤ 195 → 1 ≤ o.step → o.step ≤ 16 →
    (s.port.state = .notReady → exec (.sweepAccounts tag o) s = .next (s.answered tag 0x09 .refused 8 [])) ∧
    (s.port.state = .ready → s.resting →
      (∀ line r, s.cache.lookup o.first = .good line r → filterMatches o.filter (some r) = true →
        exec (.sweepAccounts tag o) s = .next
          (({ s with cache := s.cache.touch line } : State).executing tag 0x09
            (.sweep { order := o, inHand := o.first, visited := 1, blocks := 0, damaged := 0, lastVisited := some o.first,
                      block := some (be 1 o.first ++ be 1 0 ++ be 1 (if s.cache.isDirty line then 2 else 0) ++
                        recordFields r), ending := .goingOn }))) ∧
      (∀ line r, s.cache.lookup o.first = .good line r → filterMatches o.filter (some r) = false → o.first = o.last →
        exec (.sweepAccounts tag o) s = .next
          (({ s with cache := s.cache.touch line } : State).answered tag 0x09 .done 0
            (be 1 1 ++ be 1 0 ++ be 1 0 ++ be 1 o.first ++ [0]))) ∧
      (∀ line, s.cache.lookup o.first = .miss → s.cache.victim none = some line →
        exec (.sweepAccounts tag o) s = .next
          ((({ s with cache := s.cache.drop line } : State).executing tag 0x09
            (.sweep { order := o, inHand := o.first, visited := 0, blocks := 0, damaged := 0, lastVisited := none,
                      block := none, ending := .goingOn })).onPort
            (.fill .command o.first line (dirtyRecord (s.cache.line line))))))

/-- SCAN ACCOUNTS at its first account (R188), stated for units at rest and a READY memory: SUSPENDED_MET without a
read, HIT, NOT_SATISFIED for a run of one account that does not match or is DAMAGED, and a fill where the cache does
not hold the account, which is tested no second time. The order of the counts is the model's reading of section 12.3
(log 18), and that a fill's victim leaves its line at the grant is too (log 16). -/
def Obligations.ScanTestsItsFirstAccount : Prop :=
  ∀ (s : State) (tag : Byte) (o : ScanOrder), s.accepts → o.first ≤ o.last → o.last ≤ 195 → 1 ≤ o.step → o.step ≤ 16 →
    balanceInRange o.threshold = true →
    let suspended : Prop :=
      o.first < 192 ∧ nonVacant (s.active.entry o.first) = true ∧ (s.active.entry o.first).status = .suspended
    let holds (balance : Int) : Prop :=
      match o.comparison with
      | .equal => balance = o.threshold
      | .atMost => balance ≤ o.threshold
      | .atLeast => o.threshold ≤ balance
    (s.port.state = .notReady → exec (.scanAccounts tag o) s = .next (s.answered tag 0x0A .refused 8 [])) ∧
    (s.port.state = .ready → s.resting →
      (suspended → o.skipSuspended = false →
        exec (.scanAccounts tag o) s = .next
          (s.answered tag 0x0A .done 3 (be 1 o.first ++ (be 1 1 ++ be 1 0 ++ be 1 0 ++ be 1 o.first)))) ∧
      (suspended → o.skipSuspended = true → o.first = o.last →
        exec (.scanAccounts tag o) s = .next
          (s.answered tag 0x0A .done 2 (be 1 1 ++ be 1 1 ++ be 1 0 ++ be 1 o.first))) ∧
      (∀ line r, ¬suspended → s.cache.lookup o.first = .good line r → holds r.balance →
        exec (.scanAccounts tag o) s = .next
          (({ s with cache := s.cache.touch line } : State).answered tag 0x0A .done 1
            (be 1 o.first ++ signedBe 6 r.balance ++ (be 1 1 ++ be 1 0 ++ be 1 0 ++ be 1 o.first)))) ∧
      (∀ line r, ¬suspended → s.cache.lookup o.first = .good line r → ¬holds r.balance → o.first = o.last →
        exec (.scanAccounts tag o) s = .next
          (({ s with cache := s.cache.touch line } : State).answered tag 0x0A .done 2
            (be 1 1 ++ be 1 0 ++ be 1 0 ++ be 1 o.first))) ∧
      (∀ line, ¬suspended → s.cache.lookup o.first = .damaged line → o.first = o.last →
        exec (.scanAccounts tag o) s = .next
          (({ s with cache := s.cache.touch line } : State).answered tag 0x0A .done 2
            (be 1 1 ++ be 1 0 ++ be 1 1 ++ be 1 o.first))) ∧
      (∀ line, ¬suspended → s.cache.lookup o.first = .miss → s.cache.victim none = some line →
        exec (.scanAccounts tag o) s = .next
          ((({ s with cache := s.cache.drop line } : State).executing tag 0x0A
            (.scan { order := o, inHand := o.first, tested := true, visited := 0, suspended := 0, damaged := 0,
                     lastVisited := none, ending := .goingOn })).onPort
              (.fill .command o.first line (dirtyRecord (s.cache.line line))))))

/-! ### Account commands -/

/-- REBASE (R38): the refusals VACANT, NOT_READY and DAMAGED in their order, and the flag set in the cached record,
which makes its line dirty, with "set" or "already pending". Served from the cache, for units at rest; while a book is
SETTLING or POSTING the command waits, stated where every unit waits. -/
def Obligations.RebaseSetsTheFlagInTheCachedRecord : Prop :=
  ∀ (s : State) (tag : Byte) (i : Nat), s.accepts → i ≤ 191 →
    ((s.active.entry i).kind = .vacant → exec (.rebase tag i) s = .next (s.answered tag 0x18 .refused 13 [])) ∧
    ((s.active.entry i).kind ≠ .vacant → s.port.state = .notReady →
      exec (.rebase tag i) s = .next (s.answered tag 0x18 .refused 8 [])) ∧
    ((s.active.entry i).kind ≠ .vacant → s.port.state = .ready → s.resting →
      (∀ line r locked dirty, s.cache.find i = some line →
        s.cache.line line = some { tag := i, record := some r, dirty := dirty, locked := locked } →
        exec (.rebase tag i) s = .next
          (({ s with cache := (s.cache.set line (some { tag := i, record := some { r with rebasePending := true },
                                                         dirty := true, locked := locked })).touch line } : State).answered
            tag 0x18 .done (if r.rebasePending then 2 else 1) [])) ∧
      (∀ line, s.cache.lookup i = .damaged line →
        exec (.rebase tag i) s = .next
          (({ s with cache := s.cache.touch line } : State).answered tag 0x18 .refused 14 []))) ∧
    ((s.active.entry i).kind ≠ .vacant → s.port.state = .ready → (∃ b ∈ s.books, b.state = .settling ∨ b.state = .posting) →
      (s.executing tag 0x18 (.rebaseWait i)).blocked →
      exec (.rebase tag i) s = .next (s.executing tag 0x18 (.rebaseWait i)))

/-- TRANSFER refused (R122, R123), nothing written and no line left locked: NOT_RUNNING, NOT_READY, DAMAGED naming the
payer, or the payee beside a good payer, RANGE naming the first account out of range, FUNDS with the payer's balance and
floor. Read from the cache, for units at rest with no line locked before. -/
def Obligations.RefusedTransfersWriteNothing : Prop :=
  ∀ (s : State) (tag : Byte) (o : TransferOrder), s.accepts → commandInRange (.transfer o) = true →
    (s.engine = .unconfigured → exec (.transfer tag o) s = .next (s.answered tag 0x40 .refused 4 [])) ∧
    (s.engine = .running → s.port.state = .notReady →
      exec (.transfer tag o) s = .next (s.answered tag 0x40 .refused 8 [])) ∧
    (s.engine = .running → s.port.state = .ready → s.resting → s.cache.anyLocked = false →
      (∀ line, s.cache.lookup o.payer = .damaged line →
        exec (.transfer tag o) s = .next
          (({ s with cache := s.cache.touch line } : State).answered tag 0x40 .refused 14 (be 1 o.payer))) ∧
      (∀ i j x, s.cache.lookup o.payer = .good i x → s.cache.lookup o.payee = .damaged j →
        exec (.transfer tag o) s = .next
          (({ s with cache := (s.cache.touch i).touch j } : State).answered tag 0x40 .refused 14 (be 1 o.payee))) ∧
      (∀ i j x y, s.cache.lookup o.payer = .good i x → s.cache.lookup o.payee = .good j y →
        let read : State := { s with cache := (s.cache.touch i).touch j }
        (balanceInRange (x.balance - o.amount) = false →
          exec (.transfer tag o) s = .next (read.answered tag 0x40 .refused 15 (be 1 o.payer))) ∧
        (balanceInRange (x.balance - o.amount) = true → balanceInRange (y.balance + o.amount) = false →
          exec (.transfer tag o) s = .next (read.answered tag 0x40 .refused 15 (be 1 o.payee))) ∧
        (balanceInRange (x.balance - o.amount) = true → balanceInRange (y.balance + o.amount) = true →
          o.mode = .checked → o.payer < 192 → (s.active.entry o.payer).kind ≠ .vacant →
          x.balance - o.amount < (s.active.entry o.payer).creditFloor →
          exec (.transfer tag o) s = .next
            (read.answered tag 0x40 .refused 16
              (signedBe 6 x.balance ++ signedBe 6 (s.active.entry o.payer).creditFloor)))))

/-- TRANSFER carried out (R114, R122, R123, R124, R141): both lines locked, payer first, two images with the new
balances and standings and every other field as read, and the payer's journal entry granted. Read from the cache, for
units at rest; while a book is SETTLING or POSTING, or checks are in progress (R63), the command waits and locks nothing,
stated where every unit waits. -/
def Obligations.TransferLocksBothLinesAndJournalsThePayerFirst : Prop :=
  (∀ (s : State) (tag : Byte) (o : TransferOrder), s.accepts → commandInRange (.transfer o) = true → s.engine = .running →
    s.port.state = .ready →
    (∃ b ∈ s.books, b.state = .settling ∨ b.state = .posting) ∨ s.activation.phase = .checking →
    (s.executing tag 0x40 (.transferWait o)).blocked →
    exec (.transfer tag o) s = .next (s.executing tag 0x40 (.transferWait o))) ∧
  ∀ (s : State) (tag : Byte) (o : TransferOrder) (i j : Nat) (x y : AccountRecord), s.accepts →
    commandInRange (.transfer o) = true → s.engine = .running → s.port.state = .ready → s.resting →
    s.cache.lookup o.payer = .good i x → s.cache.lookup o.payee = .good j y →
    balanceInRange (x.balance - o.amount) = true → balanceInRange (y.balance + o.amount) = true →
    (o.mode = .checked → o.payer < 192 → (s.active.entry o.payer).kind ≠ .vacant →
      (s.active.entry o.payer).creditFloor ≤ x.balance - o.amount) →
    let standing (account : Nat) (balance : Int) : Standing :=
      if account < 192 ∧ (s.active.entry account).kind ≠ .vacant ∧ balance < (s.active.entry account).creditFloor then
        .arrears
      else .current
    let payer : Image :=
      { account := o.payer, changes := true, was := x.standing,
        record := { x with balance := x.balance - o.amount, standing := standing o.payer (x.balance - o.amount) } }
    let payee : Image :=
      { account := o.payee, changes := true, was := y.standing,
        record := { y with balance := y.balance + o.amount, standing := standing o.payee (y.balance + o.amount) } }
    exec (.transfer tag o) s = .next
      ((({ s with cache := (((s.cache.touch i).setLock i true).touch j).setLock j true } : State).executing tag 0x40
        (.transferJournal o [payer, payee] 0)).onPort (.journalEntry .transfer 0 payer))

/-- REPAIR ACCOUNT (R126): REFUSED NOT_READY, REFUSED NOT_DAMAGED, or the write of the record given, with the rebase
flag clear and no last posted book, granted. Served from the cache, for units at rest; while a book is SETTLING or
POSTING the command waits, stated where every unit waits. -/
def Obligations.RepairWritesADamagedAccountsRecord : Prop :=
  ∀ (s : State) (tag : Byte) (o : RepairOrder), s.accepts → commandInRange (.repairAccount o) = true →
    (s.port.state = .notReady → exec (.repairAccount tag o) s = .next (s.answered tag 0x41 .refused 8 [])) ∧
    (s.port.state = .ready → s.resting →
      (∀ line r, s.cache.lookup o.account = .good line r →
        exec (.repairAccount tag o) s = .next
          (({ s with cache := s.cache.touch line } : State).answered tag 0x41 .refused 17 [])) ∧
      (∀ line, s.cache.lookup o.account = .damaged line →
        exec (.repairAccount tag o) s = .next
          ((({ s with cache := s.cache.touch line } : State).executing tag 0x41 (.repairWrite o)).onPort
            (.repairRecord o.account
              { balance := o.balance, baseExport := BitVec.ofNat 32 o.baseExport,
                baseImport := BitVec.ofNat 32 o.baseImport, baseMinute := o.baseMinute, rebasePending := false,
                standing := o.standing, lastPosted := none })))) ∧
    (s.port.state = .ready → (∃ b ∈ s.books, b.state = .settling ∨ b.state = .posting) →
      (s.executing tag 0x41 (.repairWait o)).blocked →
      exec (.repairAccount tag o) s = .next (s.executing tag 0x41 (.repairWait o)))

/-- FLUSH (R144): REFUSED NOT_READY; DONE with a count of 0 when no line is dirty; else its flush list is the dirty
lines' accounts in ascending order and the first of them is granted its write-back. For units at rest. -/
def Obligations.FlushWritesTheDirtyLinesInOrder : Prop :=
  ∀ (s : State) (tag : Byte), s.accepts →
    (s.port.state = .notReady → exec (.flush tag) s = .next (s.answered tag 0x48 .refused 8 [])) ∧
    (s.port.state = .ready → s.resting →
      (s.cache.dirtyAccounts = [] → exec (.flush tag) s = .next (s.answered tag 0x48 .done 0 (be 1 0))) ∧
      (∀ a rest line, s.cache.dirtyAccounts = a :: rest → s.cache.find a = some line → s.cache.isDirty line = true →
        exec (.flush tag) s = .next
          ((s.executing tag 0x48 (.flush (a :: rest) 0)).onPort (.writeBack .flush line a))) ∧
      s.cache.dirtyAccounts.Pairwise (fun a b => a ≤ b) ∧
      (∀ a, a ∈ s.cache.dirtyAccounts ↔
        ∃ i : Fin 32, ∃ l, s.cache.lines[i] = some l ∧ l.dirty = true ∧ l.tag = a))

/-- INIT ACCOUNT MEMORY (R135): REFUSED CONFIGURED in RUNNING; in UNCONFIGURED with no start-up in progress the memory
state is NOT_READY, every line is invalid and the header's first write is granted; while a start-up runs it waits. For
units otherwise at rest. -/
def Obligations.InitAccountMemoryStartsOrWaits : Prop :=
  ∀ (s : State) (tag : Byte), s.accepts →
    (s.engine = .running → exec (.initAccountMemory tag) s = .next (s.answered tag 0x49 .refused 18 [])) ∧
    (s.engine = .unconfigured → s.resting →
      exec (.initAccountMemory tag) s = .next
        ((({ s with cache := .empty, port := { s.port with state := .notReady } } : State).executing tag 0x49
          .initHeader).onPort (.initHeader false))) ∧
    (∀ o, s.engine = .unconfigured → s.port.startup ≠ .idle → s.port.inProgress = some o →
      ({ s with port := { s.port with startup := .idle, inProgress := none } } : State).resting →
      exec (.initAccountMemory tag) s = .next (s.executing tag 0x49 .initWait))

/-! ### Commands of the engine, and how every command is taken -/

/-- SENSE ATTENTION (R19, R173): the oldest item is removed and returned, "none" from an empty list; the overflow
indicator is cleared and reported as it stood; the register of a removed ENROL_DONE becomes FREE. The kind, object and
detail bytes of each event are then given as section 10.5 and R191 have them; the order and coding of some detail fields
is the model's reading (log 18). -/
def Obligations.SenseAttentionTakesTheOldestItem : Prop :=
  (∀ (s : State) (tag : Byte), s.accepts →
    let result (detail : Nat) (fields : List Byte) : Run :=
      .result { code := 0x50, outcome := .done, detail := detail, fields := fields, overflow := some s.attention.overflow,
                restart := .absent }
    (s.attention.items = [] →
      exec (.senseAttention tag) s = .next
        (({ s with attention := { items := [], overflow := false } } : State).executing tag 0x50 (result 1 []))) ∧
    (∀ i rest, s.attention.items = i :: rest → i.event.kind ≠ 1 →
      exec (.senseAttention tag) s = .next
        (({ s with attention := { items := rest, overflow := false } } : State).executing tag 0x50
          (result 0 (be 1 i.event.kind ++ be 4 i.event.object ++ be 1 i.repeats ++ be 1 i.event.detail.length ++
            i.event.detail)))) ∧
    (∀ (f : Feeder) (ending : EnrolEnding) (others counted repeats : Nat) (rest : List AttentionItem),
      s.attention.items = { event := .enrolDone f.val ending others counted, repeats := repeats } :: rest →
      exec (.senseAttention tag) s = .next
        ((({ s with attention := { items := rest, overflow := false } } : State).setPort f
          { s.ports[f] with enrolment := .free }).executing tag 0x50
          (result 0 (be 1 1 ++ be 4 f.val ++ be 1 repeats ++ be 1 (Attention.detail (.enrolDone f.val ending others
            counted)).length ++ Attention.detail (.enrolDone f.val ending others counted)))))) ∧
  (let codes (e : Attention) (kind object : Nat) (detail : List Byte) : Prop :=
     e.kind = kind ∧ e.object = object ∧ e.detail = detail
   let order (k : OrderKind) : List Byte := be 1 (match k with | .limit => 0 | .release => 1)
   let journal (j : JournalState) (book : Option Nat) (count : Nat) : List Byte :=
     be 1 (match j with | .empty => 0 | .bookReady => 1 | .transferReady => 2) ++
       (match book with | some m => [1] ++ be 4 m | none => [0, 0, 0, 0, 0]) ++ be 1 count
   (∀ f ending others counted, codes (.enrolDone f ending others counted) 1 f
      ((match ending with
        | .found serial => [0, 1] ++ be 4 serial
        | .heardOther => [1, 0, 0, 0, 0, 0]
        | .notHeard => [2, 0, 0, 0, 0, 0]) ++ be 1 others ++ be 1 counted)) ∧
   (∀ marked state, codes (.activated marked state) 2 0
      (be 1 marked ++ be 1 (match state with | .unconfigured => 0 | .running => 1 | .quiesced => 2))) ∧
   (∀ check object, codes (.activateFailed check object) 3 0
      (be 1 check ++ (match object with | some x => [1] ++ be 1 x | none => [0, 0]))) ∧
   (∀ m reason account, codes (.bookHeld m reason account) 4 m
      (be 1 (match reason with | .range => 1 | .systemDamaged => 2) ++ be 1 account)) ∧
   (∀ candidate start, codes (.bookMerged candidate start) 5 0 (be 4 candidate ++ be 4 start)) ∧
   (∀ p run, codes (.absent p run) 6 p (be 1 run)) ∧
   (∀ p (x : Snapshot) e i round, codes (.snapshotChanged p x e i round) 7 p
      (be 4 x.exported.toNat ++ be 4 x.imported.toNat ++ be 4 e.toNat ++ be 4 i.toNat ++ be 2 round.toNat)) ∧
   (∀ p e i allowed, codes (.clamped p e i allowed) 8 p (be 4 e ++ be 4 i ++ be 4 allowed)) ∧
   (∀ f j serial round, codes (.foreignMeter f j serial round) 9 (f * 256 + j) (be 4 serial ++ be 2 round.toNat)) ∧
   (∀ p f j round, codes (.tamper p f j round) 10 p (be 1 f ++ be 1 j ++ be 2 round.toNat)) ∧
   (∀ a balance creditFloor, codes (.arrears a balance creditFloor) 11 a (signedBe 6 balance ++ signedBe 6 creditFloor)) ∧
   (∀ p f j k watts sends, codes (.orderUnconfirmed p f j k watts sends) 12 p
      (be 1 f ++ be 1 j ++ order k ++ be 2 watts ++ be 1 sends)) ∧
   (∀ f j k, codes (.queueFull f j k) 13 f (be 1 j ++ order k)) ∧
   (∀ a reader, codes (.damaged a reader) 14 a
      (be 1 (match reader with | .settlement => 0 | .activation => 1 | .command => 2 | .notice _ => 3))) ∧
   (∀ p book account d, codes (.redirectToSuspense p book account d) 15 p
      (be 4 book ++ be 1 account ++ be 1 (match d with | .debit => 0 | .credit => 1))) ∧
   (∀ j book count, codes (.journalReplayed j book count) 16 0 (journal j book count)) ∧
   (∀ j book count place, codes (.journalLost j book count place) 17 0 (journal j book count ++ be 1 place)))

/-- RESTART (R164, R169, R174, R187, R188): taken at once its RESULT is DONE and carries keep-held to the sequence.
Waiting, it cuts the executing command, at once when that has no operation of its own on the port: a READ ACCOUNT,
REBASE, TRANSFER, REPAIR ACCOUNT or INIT ACCOUNT MEMORY, whether it waits, reads or is between two writes, ends CUT
RESTART, a SCAN with its counts (a free byte for the last account of a SCAN that has visited none, log 10), a FLUSH with
its count of lines; a SWEEP goes on with its account in hand, to end CUT. With an operation of its own in progress the
command, a journalling TRANSFER and INIT ACCOUNT MEMORY among them, waits for that, to end CUT (log 19). The units then
take their turns; stated in full where they all wait, another unit's operation being in progress on the port (a book
SETTLING or POSTING, say), and as what follows from the cut otherwise. A command in its result phase is left alone. -/
def Obligations.RestartIsTakenOrCutsTheExecutingCommand : Prop :=
  ∀ (s : State) (tag : Byte) (keepHeld : Bool),
    (s.accepts → exec (.restart tag keepHeld) s = .next
      (s.executing tag 0x51 (.result { code := 0x51, outcome := .done, detail := 0, fields := [], overflow := none,
                                       restart := .commanded keepHeld }))) ∧
    (∀ e : Executing, s.link.executing = some e → s.link.waiting = [] →
      let waits : State :=
        { s with link := { s.link with waiting := [{ tag := tag, request := .command (.restart keepHeld) }] } }
      let cuts (t : State) : Prop :=
        exec (.restart tag keepHeld) s = .next t.drive ∧ (t.blocked → exec (.restart tag keepHeld) s = .next t)
      (∀ built, e.run = .result built → waits.blocked ∨ s.resting → exec (.restart tag keepHeld) s = .next waits) ∧
      (s.port.servesCommand = true →
        (e.run.plain = true → cuts (waits.executing e.tag e.code (.cutting .restart none))) ∧
        (∀ rest n, e.run = .flush rest n → cuts (waits.executing e.tag e.code (.cutting .restart (some n)))) ∧
        (∀ r, e.run = .scan r → r.ending = .goingOn →
          cuts (waits.executing e.tag e.code (.scan { r with ending := .cut .restart })))) ∧
      (∀ r, e.run = .sweep r → r.ending = .goingOn ∨ r.ending = .stopped →
        cuts (waits.executing e.tag e.code (.sweep { r with ending := .cut .restart }))) ∧
      (s.port.servesCommand = false →
        (e.run.plain = true → cuts (waits.answered e.tag e.code .cut 19 [])) ∧
        (∀ r, e.run = .scan r → r.ending = .goingOn →
          let counts : List Byte := be 1 r.visited ++ be 1 r.suspended ++ be 1 r.damaged
          (∀ last, r.lastVisited = some last → cuts (waits.answered e.tag e.code .cut 19 (counts ++ be 1 last))) ∧
          (r.lastVisited = none → ∃ byte : Byte,
            cuts (({ waits with freeCount := s.freeCount + 1 } : State).answered e.tag e.code .cut 19
              (counts ++ [byte])))) ∧
        (∀ rest n, e.run = .flush rest n → cuts (waits.answered e.tag e.code .cut 19 (be 1 n)))))

/-- Every command is REFUSED QUIESCED while the engine is QUIESCED, when it becomes the executing command, even with a
parameter out of range; in another engine state a parameter out of range is REFUSED BAD_PARAMETER at that step, which
follows QUIESCED; nothing else changes (R54, R166, R177, R191). The staging commands' own order is stated apart. -/
def Obligations.CommandsAreRefusedQuiescedThenBadParameter : Prop :=
  ∀ (s : State) (tag : Byte) (c : Command), s.link.executing = none → s.commandsHeld = false →
    (s.isQuiesced = true →
      exec (c.row tag) s = .next (s.answered tag (BitVec.ofNat 8 (commandCode c)) .refused 2 [])) ∧
    (s.isQuiesced = false → commandCode c ∉ [0x20, 0x21, 0x22, 0x23, 0x24, 0x25] → commandInRange c = false →
      exec (c.row tag) s = .next (s.answered tag (BitVec.ofNat 8 (commandCode c)) .refused 3 []))

/-- How the command buffers take a good frame (R164): a command that executes makes it wait, and with one waiting it is
discarded and sets the overrun indicator; a RESTART that waits cuts and is stated apart. While no command is taken,
about a RESTART sequence, both buffers may hold waiting commands, in order of arrival, a RESTART too, and a further
frame is discarded. -/
def Obligations.BuffersHoldOneExecutingAndOneWaitingCommand : Prop :=
  (∀ (s : State) (tag : Byte) (c : Command), commandInRange c = true → s.link.executing = none → s.commandsHeld = true →
    (s.link.waiting.length < 2 →
      exec (c.row tag) s = .next
        { s with link := { s.link with waiting := s.link.waiting ++ [{ tag := tag, request := .command c }] } }) ∧
    (2 ≤ s.link.waiting.length →
      exec (c.row tag) s = .next { s with link := { s.link with overrun := true } })) ∧
  ∀ (s : State) (tag : Byte) (c : Command), commandInRange c = true → s.link.executing ≠ none →
    (s.link.waiting = [] → (∀ k, c ≠ .restart k) →
      exec (c.row tag) s = .next
        { s with link := { s.link with waiting := [{ tag := tag, request := .command c }] } }) ∧
    (∀ b, s.link.waiting = [b] →
      exec (c.row tag) s = .next { s with link := { s.link with overrun := true } })

/-- UNKNOWN_COMMAND (R166, R167): a code that names no command is REFUSED UNKNOWN_COMMAND and echoed, in every engine
state, QUIESCED too; so is a body of length 0, whose echoed code the spec leaves open (log 10: any value). -/
def Obligations.UnknownCommandsAreRefusedInEveryEngineState : Prop :=
  ∀ (s : State) (tag : Byte), s.link.executing = none → s.commandsHeld = false →
    (∀ (code : Byte) (p : List Byte), code.toNat ∉ commandCodes →
      exec (.unknownCommand tag (code :: p)) s = .next (s.answered tag code .refused 1 [])) ∧
    (∃ code : Byte, exec (.unknownCommand tag []) s = .next
      (({ s with freeCount := s.freeCount + 1 } : State).answered tag code .refused 1 []))

/-! ### The station link -/

/-- Receiving the bytes of a command's COMMAND frame, from HUNTING, is the command's row: the frame's bytes decode,
field by field, to the command they were written from (R162, R163, R164, R166, R189, R191, sections 10.1 and 12.3).
That a command's row stands for its frame is the model's reading (log 2). -/
def Obligations.ReceivingACommandsFrameIsItsRow : Prop :=
  ∀ (c : Command) (tag : Byte) (s : State), commandInRange c = true → s.link.receive = .hunting →
    requestOf (commandBody c) = .command c ∧
    exec (.frameReceived (frameBytes commandKind tag (commandBody c))) s = exec (c.row tag) s ∧
    exec (.frameReceived (frameBytes commandKind tag (commandBody c))) s =
      .next (s.arrive { tag := tag, request := .command c })

/-- A frame whose check code is wrong, or whose kind the engine does not accept, is discarded: the discards-seen
indicator is set, the receive side hunts again, and there is no other effect. A gap and a byte without a stop bit
discard a frame being assembled; the byte that ended the gap is examined in HUNTING; bytes before a start byte are
ignored (R162, R163). That a gap, or a byte without a stop bit, in HUNTING discards nothing and sets no indicator is
the model's reading (log 5). -/
def Obligations.BadFramesAreDiscardedWithoutOtherEffect : Prop :=
  ∀ s : State,
    let discarded : State := { s with link := { s.link with receive := .hunting, discardsSeen := true } }
    (∀ (kind tag c1 c2 : Byte) (body : List Byte), s.link.receive = .hunting → body.length ≤ 255 →
      ([c1, c2] ≠ be 2 (checkCode (be 1 body.length ++ [kind, tag] ++ body)).toNat ∨ (kind ≠ 0x01 ∧ kind ≠ 0x02)) →
      exec (.frameReceived ([0xA5] ++ be 1 body.length ++ [kind, tag] ++ body ++ [c1, c2])) s = .next discarded) ∧
    (∀ bytes : List Byte, s.link.receive = .hunting → (∀ b ∈ bytes, b ≠ 0xA5) → exec (.frameReceived bytes) s = .next s) ∧
    (∀ held : List Byte, s.link.receive = .assembling held →
      exec (.frameGapTimeout none) s = .next discarded ∧
      exec (.frameGapTimeout (some 0xA5)) s =
        .next { s with link := { s.link with receive := .assembling [], discardsSeen := true } } ∧
      (∀ b : Byte, b ≠ 0xA5 → exec (.frameGapTimeout (some b)) s = .next discarded) ∧
      exec .byteWithoutStopBit s = .next discarded) ∧
    (s.link.receive = .hunting → exec (.frameGapTimeout none) s = .next s ∧ exec .byteWithoutStopBit s = .next s)

/-- A good STOP frame, whatever its tag and body, asks an executing SWEEP that goes on to end, and is ignored otherwise
(R165). -/
def Obligations.StopAsksASweepToEndAndIsIgnoredOtherwise : Prop :=
  ∀ (s : State) (tag : Byte) (body : List Byte), s.link.receive = .hunting → body.length ≤ 255 →
    (∀ t code r, s.link.executing = some { tag := t, code := code, run := .sweep r } → r.ending = .goingOn →
      exec (.frameReceived (frameBytes 0x02 tag body)) s = .next (s.executing t code (.sweep { r with ending := .stopped }))) ∧
    ((∀ e r, s.link.executing = some e → e.run = .sweep r → r.ending ≠ .goingOn) →
      exec (.frameReceived (frameBytes 0x02 tag body)) s = .next s)

/-- RESULT_QUEUED (R164, R167, R173): a built RESULT enters a queue with room, with the attention count and the
indicators as they stand, the overrun and discards-seen indicators are cleared and the buffer is emptied; a waiting
command is then taken, but after the RESULT of RESTART it stays waiting. A full queue leaves it waiting. -/
def Obligations.ResultsEnterTheQueueWithTheIndicators : Prop :=
  ∀ (s : State) (tag code : Byte) (r : CommandResult),
    s.link.executing = some { tag := tag, code := code, run := .result r } →
    let bit (n : Nat) (b : Bool) : Nat := if b then n else 0
    let frame : OutFrame :=
      { kind := 0x81, tag := tag, restart := r.restart,
        body := [r.code] ++ be 1 (match r.outcome with | .done => 0 | .cut => 1 | .refused => 2) ++ be 1 r.detail ++
          be 1 s.attention.items.length ++
          [BitVec.ofNat 8 (bit 1 (r.overflow.getD s.attention.overflow) + bit 2 s.link.overrun +
            bit 4 s.link.discardsSeen)] ++ r.fields }
    let queued : State :=
      { s with link := { s.link with outbound := s.link.outbound ++ [frame], overrun := false, discardsSeen := false,
                                     executing := none } }
    (4 ≤ s.link.outbound.length → exec .resultQueued s = .next s) ∧
    (s.link.outbound.length < 4 → r.restart = .absent → s.link.waiting = [] → exec .resultQueued s = .next queued) ∧
    (∀ k, s.link.outbound.length < 4 → r.restart = .commanded k →
      exec .resultQueued s = .next { queued with link := { queued.link with restartHold := true } }) ∧
    (∀ b rest, s.link.outbound.length < 4 → r.restart = .absent → s.commandsHeld = false → s.link.waiting = b :: rest →
      exec .resultQueued s = .next (({ queued with link := { queued.link with waiting := rest } } : State).begin b))

/-- BLOCK_QUEUED (R170, R186, R187): a waiting BLOCK enters a queue with room under the SWEEP's tag; after the last
account, or once stopped, the SWEEP is DONE with its counts, and otherwise its next account, when the cache does not
hold it, is granted a fill. Stated for units at rest and a READY memory; a full queue keeps the BLOCK waiting. The
order of the counts is the model's reading of section 12.3 (log 18), and that the victim leaves its line at the grant is
too (log 16). -/
def Obligations.BlocksEnterTheQueueAndTheSweepMovesOn : Prop :=
  ∀ (s : State) (tag code : Byte) (r : SweepRun) (body : List Byte) (last : Nat),
    s.link.executing = some { tag := tag, code := code, run := .sweep r } → r.block = some body →
    r.lastVisited = some last →
    let queued : State :=
      { s with link := { s.link with outbound := s.link.outbound ++ [{ kind := 0x82, tag := tag, body := body,
                                                                        restart := .absent }] } }
    (4 ≤ s.link.outbound.length → exec .blockQueued s = .next s) ∧
    (s.link.outbound.length < 4 → s.resting → s.port.state = .ready →
      (r.ending = .stopped ∨ (r.ending = .goingOn ∧ r.order.last < r.inHand + r.order.step) →
        exec .blockQueued s = .next
          (queued.answered tag code .done 0 (be 1 r.visited ++ be 1 (r.blocks + 1) ++ be 1 r.damaged ++ be 1 last ++
            [if r.ending = .stopped then 1 else 0]))) ∧
      (∀ line, r.ending = .goingOn → r.inHand + r.order.step ≤ r.order.last →
        s.cache.lookup (r.inHand + r.order.step) = .miss → s.cache.victim none = some line →
        exec .blockQueued s = .next
          ((({ queued with cache := s.cache.drop line } : State).executing tag code
            (.sweep { r with inHand := r.inHand + r.order.step, blocks := r.blocks + 1, block := none })).onPort
            (.fill .command (r.inHand + r.order.step) line (dirtyRecord (s.cache.line line))))))

/-- STATEMENT (R87, R171, R191, section 12.3): with room, no frame of the executing command waiting and no RESTART result
unsent, the STATEMENT of the oldest owed book enters the queue with tag 0 and 97 body bytes, laid out as section 12.3
lists them, and its flag is cleared; otherwise nothing happens. -/
def Obligations.TheOldestOwedStatementIsQueued : Prop :=
  (∀ b : Book, (statementBody b).length = 97) ∧
  (∀ (b : Book) (k : Capture) (f : Figures), b.capture = some k → b.figures = some f →
    statementBody b =
      be 4 b.start ++ be 4 b.close ++ be 1 b.mark.toNat ++ ([if b.state = .discarded then 1 else 0] : List Byte) ++
      ([match b.holdReason with | none => 0 | some .range => 1 | some .systemDamaged => 2] : List Byte) ++ be 1 k.band ++
      be 3 k.gridPrice ++ be 3 k.feedPrice ++ be 2 k.share ++ be 3 k.fee ++ be 3 k.localPrice ++
      be 1 f.settled ++ be 1 f.missing ++ be 1 f.rebased ++ be 1 f.suspended ++ be 1 f.excluded ++ be 1 f.clamped ++
      be 1 b.counterFaults ++ be 4 f.totalSale ++ be 4 f.totalPurchase ++ be 4 f.localMatch ++
      be 4 f.excludedExport ++ be 4 f.excludedImport ++
      (match f.grid with
       | some g => ([1] : List Byte) ++ be 4 g.gridImport ++ be 4 g.gridExport ++ signedBe 5 g.loss
       | none => List.replicate 14 0) ++
      be 6 f.residue ++ be 6 f.localDebits ++ be 6 f.localCredits ++ be 6 f.gridDebits ++ be 6 f.gridCredits) ∧
  ∀ s : State,
    (∀ b, s.link.outbound.length < 4 → s.frameWaiting = false → (∀ f ∈ s.link.outbound, f.restart = .absent) →
      s.books.find? (fun b => b.owed) = some b →
      exec .statement s = .next
        { s with books := s.books.map (fun x => if x.start = b.start then { x with owed := false } else x),
                 link := { s.link with outbound := s.link.outbound ++
                   [{ kind := 0x83, tag := 0, body := statementBody b, restart := .absent }] } }) ∧
    (4 ≤ s.link.outbound.length ∨ s.frameWaiting = true ∨ (∃ f ∈ s.link.outbound, f.restart ≠ .absent) ∨
      (∀ b ∈ s.books, b.owed = false) → exec .statement s = .next s)

/-- FRAME_SENT (R170, R174, R175): the oldest frame leaves the queue; with none to send nothing changes (log 3). After
the RESULT of RESTART, with the port free and no line dirty, steps 1 to 6 of the sequence have run and start-up's header
read is granted; with a line dirty, steps 1 to 4 have run and the flush of step 5 has its first grant. The end of a
start-up that finds an EMPTY header is step 7's end: ports with no window in progress then cut their rounds and act on
their states and keep-held, the others when their window closes (R21), a QUIET window's round being cut short too (log
13). When every port has acted (log 15) the boundary search runs (R73, R74), commands are held back no longer, and a
waiting command is taken, here READ CLOCK. Steps 8 and 9 are stated for a sequence that leaves no index to be marked and
for no enrolment listening. That a book's two counts are 0 while it collects is the model's choice (log 36). That a
sequence's flush writes its lines in ascending account number is the model's choice (log 46), and so is that a port
reads its feeder's entry as it then stands (log 43). -/
def Obligations.SentFramesLeaveTheQueueAndRestartBegins : Prop :=
  (∀ s : State,
    (s.link.outbound = [] → exec .frameSent s = .next s) ∧
    (∀ f rest, s.link.outbound = f :: rest → f.restart = .absent →
      exec .frameSent s = .next { s with link := { s.link with outbound := rest } }) ∧
    (∀ f rest keepHeld, s.link.outbound = f :: rest → f.restart = .commanded keepHeld → s.isQuiesced = false →
      s.port.inProgress = none →
      let begun : State :=
        { s with link := { s.link with outbound := rest }, work := none,
                 posting := { phase := .idle, book := none, cursor := 0, images := [], durable := false,
                              recheck := s.posting.recheck },
                 activation := { s.activation with
                   phase := if s.activation.phase = .awaitQuiet ∨ s.activation.phase = .checking then .awaitBoundary
                            else s.activation.phase, toCheck := [] },
                 books := [], live := Vector.replicate 192 .initial,
                 ports := s.ports.map fun p => { p with queue := [], enrolment := .free },
                 attention := { items := [], overflow := false }, sequence := .flush keepHeld }
      (s.cache.dirtyAccounts = [] →
        exec .frameSent s = .next
          { begun with cache := .empty, sequence := .startup keepHeld,
                       ports := begun.ports.map fun p =>
                         { p with prefetch := if p.prefetch.isWaiting then .none else p.prefetch },
                       port := { s.port with state := .notReady, startup := .readingHeader,
                                             inProgress := some .startupHeaderRead } }) ∧
      (∀ a more line, s.cache.dirtyAccounts = a :: more → s.cache.find a = some line →
        exec .frameSent s = .next (begun.onPort (.writeBack .restartFlush line a))))) ∧
  (∀ (s : State) (keepHeld : Bool), s.isQuiesced = false → s.work = none → s.posting.phase = .idle → s.books = [] →
    s.activation.phase ≠ .awaitQuiet → s.activation.phase ≠ .checking → s.activation.marking = [] →
    s.link.executing = none → (∀ f : Feeder, s.ports[f].enrolment.condition ≠ .listening) →
    (∀ f : Feeder, s.ports[f].prefetch.isWaiting = false) →
    let acted (f : Feeder) : FeederPort :=
      let p := s.ports[f]
      let enabled : Bool := (s.active.feeder f.val).enabled
      let state : FeederState :=
        match p.state with
        | .off => .off
        | .running => if enabled then .running else .off
        | .holdPending => if enabled then (if keepHeld then .held else .running) else .off
        | .held => if keepHeld then .held else if enabled then .running else .off
      { p with state := state, window := if state = .running then .headDue else .shut, round := none, sending := [],
               driving := false, restartDue := none, prefetch := .none,
               number := if p.round.isSome then p.number + 1 else p.number }
    let ended (t : State) (waiting : List Buffered) : State :=
      { t with sequence := .none, link := { s.link with restartHold := false, waiting := waiting } }
    let steps (row : Instr) (t : State) : Prop :=
      (s.link.waiting = [] → s.engine = .unconfigured ∨ (∀ start, s.clock.openStart = some start → s.candidate ≤ start) →
        exec row s = .next (ended t [])) ∧
      (∀ tag rest, s.link.waiting = { tag := tag, request := .command .readClock } :: rest →
        s.engine = .unconfigured ∨ (∀ start, s.clock.openStart = some start → s.candidate ≤ start) →
        exec row s = .next
          ((ended t rest).answered tag 0x07 .done 0 (clockFields s.engine s.active.week s.clock))) ∧
      (∀ start, s.link.waiting = [] → s.engine = .running → s.clock.openStart = some start → start < s.candidate →
        s.active.expectedSet ≠ [] →
        exec row s = .next
          { ended t [] with
            books := [{
              start := start, close := s.candidate, mark := s.clock.mark + 1,
              deadline := max (s.candidate * 60) s.clock.time + s.active.general.grace, state := .collecting,
              holdReason := none, expected := s.active.expectedSet, members := [], missing := 0, counterFaults := 0,
              capture := none, figures := none, owed := false }]
            clock := { s.clock with mark := s.clock.mark + 1, openStart := some s.candidate }
            activation := { s.activation with
              phase := if s.activation.phase = .awaitBoundary then .awaitQuiet else s.activation.phase }
            live := s.live.map fun l => { l with taken := none } })
    (∀ (returned : Option (List Byte)) (h : Header), s.sequence = .startup keepHeld →
      s.port.inProgress = some .startupHeaderRead → s.port.startup = .readingHeader →
      headerOf (returned.getD (readBytes s.memory 0 16)) = some h → h.journal = .empty →
      let ready : State :=
        { s with port := { state := .ready, header := some h, inProgress := none, startup := .idle } }
      ((∀ f : Feeder, s.ports[f].window.isOpen = false) →
        steps (.startupHeaderRead returned) { ready with ports := Vector.ofFn acted }) ∧
      ((∃ f : Feeder, s.ports[f].window.isOpen = true) →
        exec (.startupHeaderRead returned) s = .next
          { ready with
            sequence := .ports keepHeld
            ports := Vector.ofFn fun f =>
              if s.ports[f].window.isOpen then { s.ports[f] with restartDue := some (.restart keepHeld) }
              else acted f })) ∧
    (∀ (f : Feeder) (r : Round) (heard : List LineChar), s.sequence = .ports keepHeld →
      s.ports[f].window = .quiet → s.ports[f].round = some r → s.ports[f].restartDue = some (.restart keepHeld) →
      s.port.inProgress = none → s.port.startup = .idle →
      (∀ g : Feeder, g ≠ f → s.ports[g].restartDue = none) →
      steps (.quietWindowClose f heard) (s.setPort f (acted f))))

/-! ### The windows of a round -/

/-- HEAD_WINDOW_OPEN (R1, R3, R5, R152, R153, R155, R190): the round begins with the slot count read now; the HEAD
carries feeder, round number, mark and turned list; each turned slot has its order copy; the queue only remembers what
this HEAD turned and what was SENT. The turned list holds the slots of the first 4 READY entries in queue order, less
those not below the count, in ascending order, strictly so in a queue with one entry for a slot. The line driver is
raised from the start of a send window for as long as the message's characters last at 9,600 bit/s, each with a start
bit, its bits least significant first and a stop bit, then released, and is down in every other window: an output of the
time within the window (log 22). -/
def Obligations.HeadWindowOpensTheRound : Prop :=
  (∀ (q : List OrderEntry) (n : Nat),
    (turnedSlots q n).length ≤ 4 ∧
    (∀ j ∈ turnedSlots q n, j < n ∧ ∃ e ∈ q, e.slot = j ∧ e.sent = false) ∧
    ((q.map OrderEntry.slot).Nodup → (turnedSlots q n).Pairwise (fun a b => a < b)) ∧
    (turnedSlots q n).Pairwise (fun a b => a ≤ b) ∧
    (turnedSlots q n).Perm
      ((((q.filter fun e => !e.sent).take 4).map OrderEntry.slot).filter fun j => decide (j < n))) ∧
  (∀ (p : FeederPort) (time : Nat),
    (p.drivesAt time = true ↔ p.driving = true ∧ time * 9600 < 10 * p.sending.length * 1000000) ∧
    (∀ n k (b : Byte), p.driving = true → time * 9600 / 1000000 = 10 * n + k → k < 10 → p.sending[n]? = some b →
      p.lineBit time = some (if k = 0 then false else if k = 9 then true else b.getLsbD (k - 1)))) ∧
  ∀ (s : State) (f : Feeder), s.ports[f].window = .headDue →
    (s.ports[f].state = .running ∨ s.ports[f].state = .holdPending) → s.isQuiesced = false →
    let n := (s.active.feeder f.val).slotCount
    let slots := turnedSlots s.ports[f].queue n
    exec (.headWindowOpen f) s = .next
      (s.setPort f
        { s.ports[f] with
          window := .head, driving := true,
          sending := withCheck ([0x51] ++ be 1 f.val ++ be 2 s.ports[f].number.toNat ++ be 1 s.clock.mark.toNat ++
            be 1 slots.length ++ slots.flatMap (be 1) ++ List.replicate (4 - slots.length) 0xFF)
          round := some { slotCount := n, headOk := false, copies := slots.filterMap (orderCopy s.active f s.ports[f].queue),
                          outcomes := [], orders := [], notice := .skipped, sentNotice := .plain }
          queue := s.ports[f].queue.map fun e => { e with turned := slots.contains e.slot, sentAtHead := e.sent } })

/-- HEAD_WINDOW_CLOSE (R4, R5, R18, R157, R158): a HEAD that fails verification abandons the round to its QUIET window;
one that verifies goes on to the first slot's window, with no prefetch when there is no meter slot or the memory is
NOT_READY, with the household part arrived when the cache holds the cursor's participant, and with the request granted
when it does not; that the victim of its fill leaves its line at the grant is the model's reading (log 16). The verified
cases are stated for units at rest and no command in its execution phase. A readback verifies when there is one for each
bit sent, ten for a byte, and in each the value that two of its three samples agree on is that bit: a start bit of 0, the
byte's bits least significant first, a stop bit of 1. -/
def Obligations.HeadWindowCloseJudgesTheReadback : Prop :=
  (∀ (message : List Byte) (readback : List Sample),
    verified message readback = true ↔
      readback.length = 10 * message.length ∧
      ∀ n k (b : Byte) (x : Sample), message[n]? = some b → k < 10 → readback[10 * n + k]? = some x →
        (if x.first = x.second ∨ x.first = x.third then x.first else x.second) =
          (if k = 0 then false else if k = 9 then true else b.getLsbD (k - 1))) ∧
  ∀ (s : State) (f : Feeder) (r : Round) (readback : List Sample), s.ports[f].window = .head →
    s.ports[f].round = some r → s.isQuiesced = false → s.ports[f].restartDue = none →
    (verified s.ports[f].sending readback = false →
      exec (.headWindowClose f readback) s = .next
        (s.setPort f { s.ports[f] with window := .quiet, sending := [], driving := false,
                                       round := some { r with headOk := false, notice := .skipped },
                                       enrolment := { s.ports[f].enrolment with
                                         counting := s.ports[f].enrolment.condition == .listening } })) ∧
    (verified s.ports[f].sending readback = true → s.resting → s.commandDone = true →
      let next (p : Prefetch) : FeederPort :=
        { s.ports[f] with window := r.windowAt 0, sending := [], driving := false, round := some { r with headOk := true },
                          prefetch := p }
      (r.slotCount = 0 ∨ s.port.state = .notReady ∨ s.active.cursorParticipant f.val s.ports[f].cursor = none →
        exec (.headWindowClose f readback) s = .next (s.setPort f (next .none))) ∧
      (∀ i line x, r.slotCount ≠ 0 → s.port.state = .ready →
        s.active.cursorParticipant f.val s.ports[f].cursor = some i → s.cache.lookup i = .good line x →
        exec (.headWindowClose f readback) s = .next
          (({ s with cache := s.cache.touch line } : State).setPort f
            (next (.arrived i (some
              { index := i, credits := max (-8388607) (min 8388607 (Int.tdiv x.balance 1000)), standing := x.standing })))))
        ∧
      (∀ i line, r.slotCount ≠ 0 → s.port.state = .ready →
        s.active.cursorParticipant f.val s.ports[f].cursor = some i → s.cache.lookup i = .miss →
        s.cache.victim none = some line →
        exec (.headWindowClose f readback) s = .next
          ((({ s with cache := s.cache.drop line } : State).setPort f (next (.waiting i))).onPort
            (.fill (.notice f) i line (dirtyRecord (s.cache.line line))))))

/-- ORDER_WINDOW_OPEN and ORDER_WINDOW_CLOSE (R6, R152, R153): the slot's order copy is sent; the readback is recorded
with the outcome TURNED; an entry the HEAD turned, neither replaced nor removed since, counts the send and is SENT
after OK, READY after FAILED, and removed with ORDER_UNCONFIRMED after its third FAILED send; otherwise the queue is as
it was. -/
def Obligations.OrderWindowsSendTheCopyAndCountTheSend : Prop :=
  ∀ (s : State) (f : Feeder) (j : Nat) (r : Round), s.ports[f].round = some r → s.isQuiesced = false →
    (∀ c, s.ports[f].window = .orderDue j → r.copies.find? (fun c => c.slot == j) = some c →
      exec (.orderWindowOpen f) s = .next
        (s.setPort f { s.ports[f] with
          window := .order j, driving := true,
          sending := withCheck (([0x53] : List Byte) ++ be 4 c.serial ++ be 1 c.slot ++
            be 1 (match c.kind with | .limit => 0 | .release => 1) ++ be 2 c.watts) })) ∧
    (∀ readback : List Sample, s.ports[f].window = .order j → s.ports[f].restartDue = none →
      let ok := verified s.ports[f].sending readback
      let q := s.ports[f].queue
      let closed (queue : List OrderEntry) : FeederPort :=
        { s.ports[f] with
          window := r.windowAt (j + 1), sending := [], driving := false, queue := queue,
          round := some { r with outcomes := r.outcomes ++ [.turned], orders := r.orders ++ [(j, ok)] } }
      (q.find? (fun e => e.slot == j && e.turned) = none →
        exec (.orderWindowClose f readback) s = .next (s.setPort f (closed q))) ∧
      (∀ e, q.find? (fun e => e.slot == j && e.turned) = some e →
        let e' : OrderEntry := { e with sends := e.sends + 1, sent := ok, waited := 0, turned := false }
        (ok = true ∨ e.sends < 2 →
          exec (.orderWindowClose f readback) s = .next
            (s.setPort f (closed (q.map fun x => if x.slot = j then e' else x)))) ∧
        (ok = false → 2 ≤ e.sends →
          exec (.orderWindowClose f readback) s = .next
            (({ s with
                attention := s.attention.raise
                  (.orderUnconfirmed e.participant f.val j e.kind e.watts (e.sends + 1)) } : State).setPort f
              (closed (q.filter fun x => x.slot != j))))))

/-- METER_SLOT_CLOSE (R8, R9, R25, R26, R28, R29, R30, R79, R154): the outcomes SILENT and VACANT of a silent window,
GARBLED of a late start or a malformed message, CHECK_FAIL of a wrong check code, FOREIGN or INTRUDER, which raise
FOREIGN_METER and do nothing else, and GOOD, which updates the live state, raises TAMPER when the flag newly appears,
confirms a SENT order that the LIMIT_ACTIVE flag matches, and is presented to the collecting book: stale without such a
book or with another mark; taken as the snapshot when none is taken, with the absence run 0, the collection ending when
that completes the expected set, here for a memory NOT_READY; equal to the taken one, without effect; else
SNAPSHOT_CHANGED. Stated for units at rest and no command in its execution phase. What the window heard is judged by its
first run of characters, each starting within 2 ms of the end of the one before: its start, kind, length, framing, end
and check code, and whether anything follows it (R8, R10; the edges of the times are log 14). The REPORT's fields are
read from its 17 bytes (R190). -/
def Obligations.MeterSlotsAreJudgedAndReportsHandedOn : Prop :=
  (∀ (kind : Byte) (length : Nat), judge kind length [] = .nothing) ∧
  (∀ (kind : Byte) (length : Nat) (message further : List LineChar) (first last : LineChar),
    message.head? = some first → message.getLast? = some last →
    (∀ n a b, message[n]? = some a → message[n + 1]? = some b → b.start ≤ a.stop + 2000) →
    (∀ c, further.head? = some c → last.stop + 2000 < c.start) →
    let answer := judge kind length (message ++ further)
    (10000 < first.start → answer = .garbled) ∧
    (first.byte ≠ kind ∨ message.length ≠ length ∨ (∃ c ∈ message, c.framed = false) ∨ 38000 ≤ last.stop ∨ further ≠ [] →
      answer = .garbled) ∧
    (∀ front check, first.start ≤ 10000 → first.byte = kind → message.length = length →
      (∀ c ∈ message, c.framed = true) → last.stop < 38000 → further = [] →
      message.map LineChar.byte = front ++ check → check.length = 2 →
      answer = if check = be 2 (checkCode front).toNat then .message (front ++ check) else .checkFail)) ∧
  (∀ (kind mark flags : Byte) (serial exported imported : Nat) (check : List Byte), serial ≤ 4294967295 →
    exported ≤ 4294967295 → imported ≤ 4294967295 →
    reportOf ([kind] ++ be 4 serial ++ [mark] ++ be 4 exported ++ be 4 imported ++ [flags] ++ check) =
      { serial := serial, mark := mark, exported := BitVec.ofNat 32 exported, imported := BitVec.ofNat 32 imported,
        limitActive := flags.getLsbD 0, tamper := flags.getLsbD 1, counterFault := flags.getLsbD 2 }) ∧
  ∀ (s : State) (f : Feeder) (j : Nat) (r : Round) (heard : List LineChar), s.ports[f].window = .slot j →
    s.ports[f].round = some r → s.ports[f].restartDue = none → s.resting → s.commandDone = true →
    let who := s.active.slotParticipant f.val j
    let closed (o : SlotOutcome) : FeederPort :=
      { s.ports[f] with window := r.windowAt (j + 1), sending := [], driving := false,
                        round := some { r with outcomes := r.outcomes ++ [o] } }
    (heard = [] →
      exec (.meterSlotClose f heard) s = .next (s.setPort f (closed (if who.isSome then .silent else .vacant)))) ∧
    (∀ c rest, heard = c :: rest → 10000 < c.start →
      exec (.meterSlotClose f heard) s = .next (s.setPort f (closed .garbled))) ∧
    (judge 0x52 17 heard = .garbled → exec (.meterSlotClose f heard) s = .next (s.setPort f (closed .garbled))) ∧
    (judge 0x52 17 heard = .checkFail → exec (.meterSlotClose f heard) s = .next (s.setPort f (closed .checkFail))) ∧
    (∀ m, judge 0x52 17 heard = .message m →
      let report := reportOf m
      let foreign : Attention := .foreignMeter f.val j report.serial s.ports[f].number
      (who = none →
        exec (.meterSlotClose f heard) s = .next
          (({ s with attention := s.attention.raise foreign } : State).setPort f (closed .intruder))) ∧
      (∀ i, who = some i → (s.active.entry i).serial ≠ report.serial →
        exec (.meterSlotClose f heard) s = .next
          (({ s with attention := s.attention.raise foreign } : State).setPort f (closed .foreign))) ∧
      (∀ i : Fin 192, who = some i.val → (s.active.entry i).serial = report.serial →
        let heardLive : LiveState :=
          { s.live[i] with
            lastRound := some s.ports[f].number, lastMark := some report.mark, limitActive := report.limitActive,
            tamper := report.tamper, counterFault := report.counterFault }
        let items : AttentionList :=
          if report.tamper = true ∧ s.live[i].tamper = false then
            s.attention.raise (.tamper i f.val j s.ports[f].number)
          else s.attention
        let good (books : List Book) (l : LiveState) (attention : AttentionList) : Host.Outcome State Fault Refusal :=
          .next (({ s with live := s.live.set i l, attention := attention, books := books } : State).setPort f
            { closed .good with queue := s.ports[f].queue.filter fun e =>
                !(e.slot == j && e.sent &&
                  (match e.kind with | .limit => report.limitActive | .release => !report.limitActive)) })
        ((∀ b ∈ s.books, b.state ≠ .collecting) →
          exec (.meterSlotClose f heard) s = good s.books heardLive items) ∧
        (∀ b, s.books.find? (fun b => b.state == .collecting) = some b →
          let snapshot : Snapshot :=
            { exported := report.exported, imported := report.imported, counterFault := report.counterFault }
          let takenLive : LiveState := { heardLive with taken := some snapshot, absence := 0 }
          let member (k : Nat) : Option Snapshot := if k = i.val then some snapshot else (s.liveOf k).taken
          (report.mark ≠ b.mark ∨ i.val ∉ b.expected →
            exec (.meterSlotClose f heard) s = good s.books heardLive items) ∧
          (report.mark = b.mark → i.val ∈ b.expected → s.live[i].taken = none →
            (∀ k ∈ b.expected, k ≠ i.val → (s.liveOf k).taken = none →
              exec (.meterSlotClose f heard) s = good s.books takenLive items) ∧
            ((∀ k ∈ b.expected, k ≠ i.val → (s.liveOf k).taken ≠ none) → s.port.state = .notReady →
              exec (.meterSlotClose f heard) s = good
                (s.books.map fun x =>
                  if x.start = b.start ∧ x.state = .collecting then
                    { x with
                      state := .waiting, members := b.expected.map fun k => { index := k, snapshot := member k }
                      missing := 0
                      counterFaults := (b.expected.filter fun k =>
                        ((member k).map Snapshot.counterFault).getD false).length }
                  else x)
                takenLive items)) ∧
          (∀ x, report.mark = b.mark → i.val ∈ b.expected → s.live[i].taken = some x →
            (x.exported = report.exported ∧ x.imported = report.imported →
              exec (.meterSlotClose f heard) s = good s.books heardLive items) ∧
            (¬(x.exported = report.exported ∧ x.imported = report.imported) →
              exec (.meterSlotClose f heard) s = good s.books heardLive
                (items.raise (.snapshotChanged i x report.exported report.imported s.ports[f].number)))))))

/-- NOTICE_WINDOW_OPEN and NOTICE_WINDOW_CLOSE (R7, R157, R159, R160, R190): the NOTICE carries the band of the open
interval, its prices and the mark, and the household part when it has arrived, is not DAMAGED and is still the cursor's
participant's; a waiting request is withdrawn. At the close the cursor advances past the participant after a household
part read back OK, and past a DAMAGED one whatever the readback; else it stays. The prefetch is then NONE. That a
DAMAGED prefetch gives its form whatever the cursor is the model's reading (log 29), and so is the state NONE of a
withdrawn request (log 25). -/
def Obligations.NoticeWindowsSendPricesAndTheHouseholdPart : Prop :=
  ∀ (s : State) (f : Feeder) (r : Round), s.ports[f].round = some r → s.isQuiesced = false →
    (∀ start band b, s.ports[f].window = .noticeDue → s.clock.openStart = some start →
      s.active.bandFor s.clock.weekday start = some (band, b) →
      let sends (sent : NoticeSent) (prefetch : Prefetch) (part : List Byte) : FeederPort :=
        { s.ports[f] with
          window := .notice, driving := true, prefetch := prefetch, round := some { r with sentNotice := sent },
          sending := withCheck ([0x54] ++ be 1 band ++ be 3 (localPrice b.gridPrice b.feedPrice b.share) ++
            be 3 b.gridPrice ++ be 3 b.feedPrice ++ be 1 s.clock.mark.toNat ++ part) }
      let alone : List Byte := [0, 0, 0, 0, 0, 0]
      let cursors := s.active.cursorParticipant f.val s.ports[f].cursor
      (∀ i h, s.ports[f].prefetch = .arrived i (some h) → cursors = some i →
        exec (.noticeWindowOpen f) s = .next
          (s.setPort f (sends .household s.ports[f].prefetch (be 1 1 ++ be 1 h.index ++ signedBe 3 h.credits ++
            be 1 (match h.standing with | .current => 0 | .arrears => 1))))) ∧
      (∀ i h, s.ports[f].prefetch = .arrived i (some h) → cursors ≠ some i →
        exec (.noticeWindowOpen f) s = .next (s.setPort f (sends .plain s.ports[f].prefetch alone))) ∧
      (∀ i, s.ports[f].prefetch = .arrived i none →
        exec (.noticeWindowOpen f) s = .next (s.setPort f (sends .damaged s.ports[f].prefetch alone))) ∧
      (s.ports[f].prefetch = .none ∨ s.ports[f].prefetch.isWaiting = true →
        exec (.noticeWindowOpen f) s = .next (s.setPort f (sends .plain .none alone)))) ∧
    (∀ readback : List Sample, s.ports[f].window = .notice → s.ports[f].restartDue = none →
      let ok := verified s.ports[f].sending readback
      let closed (cursor : Nat) : FeederPort :=
        { s.ports[f] with
          window := .quiet, sending := [], driving := false, prefetch := .none, cursor := cursor,
          round := some { r with notice := if ok then .ok else .failed },
          enrolment := { s.ports[f].enrolment with counting := s.ports[f].enrolment.condition == .listening } }
      (∀ i, s.active.cursorParticipant f.val s.ports[f].cursor = some i →
        (r.sentNotice = .household ∧ ok = true) ∨ r.sentNotice = .damaged →
        exec (.noticeWindowClose f readback) s = .next
          (s.setPort f (closed (if (s.active.entry i).slot = 47 then 0 else (s.active.entry i).slot + 1)))) ∧
      (r.sentNotice = .plain ∨ (r.sentNotice = .household ∧ ok = false) →
        exec (.noticeWindowClose f readback) s = .next (s.setPort f (closed s.ports[f].cursor))))

/-- QUIET_WINDOW_CLOSE (R1, R2, R10, R11, R13, R14, R18, R19, R155): the round completes, its record replaces the last
completed one, the number advances, entries counted in a verified round wait one round longer, and the feeder goes on,
is HELD after a hold or OFF when disabled. On a feeder that goes on: a LISTENING register counts a QUIET slot whose
window it was open for, ends FOUND, HEARD_OTHER or NOT_HEARD with ENROL_DONE, and is FREE at once when a full list drops
that item; and a queue's entries given up after 4 rounds and 3 sends are removed with ORDER_UNCONFIRMED. A LISTENING
register that does not count the slot ends NOT_HEARD on a feeder that goes OFF. The order of the items of one close,
ENROL_DONE of R18, then ORDER_UNCONFIRMED in the queue's order, then that ENROL_DONE, is the model's choice (log 35).
That a feeder's entry is read at the close, whatever commits there were within the round, is the model's choice (log
43). -/
def Obligations.QuietWindowCloseCompletesTheRound : Prop :=
  ∀ (s : State) (f : Feeder) (r : Round) (heard : List LineChar), s.ports[f].window = .quiet →
    s.ports[f].round = some r → s.isQuiesced = false → s.ports[f].restartDue = none →
    let heardQuiet := judge 0x55 7 heard
    let quiet : QuietOutcome :=
      match heardQuiet with
      | .nothing => .nothing
      | .message m => .announce (field m 1 4)
      | _ => .garbled
    let counted (e : OrderEntry) : Bool := r.headOk && e.sent && e.sentAtHead
    let lost : List OrderEntry := s.ports[f].queue.filter fun e => counted e && decide (3 ≤ e.waited ∧ 3 ≤ e.sends)
    let queue : List OrderEntry :=
      (s.ports[f].queue.filter fun e => !(counted e && decide (3 ≤ e.waited ∧ 3 ≤ e.sends))).map fun e =>
        if counted e then
          (if e.waited < 3 then { e with waited := e.waited + 1 }
           else { e with sent := false, waited := 0, sentAtHead := false })
        else e
    let unconfirmed (l : AttentionList) : AttentionList :=
      (lost.map fun e => Attention.orderUnconfirmed e.participant f.val e.slot e.kind e.watts e.sends).foldl
        AttentionList.raise l
    let completed (state : FeederState) (window : Window) (enrolment : Enrolment) : FeederPort :=
      { s.ports[f] with
        state := state, window := window, round := none, sending := [], driving := false, queue := queue,
        number := s.ports[f].number + 1, enrolment := enrolment,
        last := some { number := s.ports[f].number, headOk := r.headOk, slotCount := r.slotCount, outcomes := r.outcomes,
                       orders := r.orders, notice := r.notice, quiet := quiet } }
    let reg : Enrolment := s.ports[f].enrolment
    let leaves (attention : AttentionList) (p : FeederPort) : Prop :=
      exec (.quietWindowClose f heard) s = .next (({ s with attention := attention } : State).setPort f p)
    (reg.condition ≠ .listening →
      leaves (unconfirmed s.attention)
        (if (s.active.feeder f.val).enabled = false then completed .off .shut reg
         else if s.ports[f].state = .holdPending then completed .held .shut reg
         else completed .running .headDue reg)) ∧
    (reg.condition = .listening → reg.counting = false → (s.active.feeder f.val).enabled = false →
      let item : Attention := .enrolDone f.val .notHeard reg.others reg.counted
      leaves ((unconfirmed s.attention).raise item)
        (completed .off .shut
          (if (unconfirmed s.attention).drops item then .free else { reg with condition := .ended .notHeard }))) ∧
    (reg.condition = .listening → (s.active.feeder f.val).enabled = true → s.ports[f].state = .running →
      let once : Enrolment := { reg with counted := reg.counted + 1, counting := false }
      let goesOn (e : Enrolment) : Prop := leaves (unconfirmed s.attention) (completed .running .headDue e)
      let ends (e : Enrolment) (ending : EnrolEnding) : Prop :=
        let item : Attention := .enrolDone f.val ending e.others e.counted
        leaves (unconfirmed (s.attention.raise item))
          (completed .running .headDue
            (if s.attention.drops item then .free else { e with condition := .ended ending }))
      let looked (serial : Nat) : Prop := if reg.expected = 0 then serial ≠ 0 else serial = reg.expected
      (reg.counting = false → goesOn reg) ∧
      (reg.counting = true →
        (∀ m, heardQuiet = .message m → looked (field m 1 4) → ends once (.found (field m 1 4))) ∧
        (∀ m, heardQuiet = .message m → ¬looked (field m 1 4) →
          let e : Enrolment := { once with others := min 255 (reg.others + 1), remaining := reg.remaining - 1 }
          (reg.remaining ≤ 1 → ends e .heardOther) ∧ (1 < reg.remaining → goesOn e)) ∧
        ((∀ m, heardQuiet ≠ .message m) →
          let e : Enrolment := { once with remaining := reg.remaining - 1 }
          (reg.remaining ≤ 1 → ends e (if 0 < reg.others then .heardOther else .notHeard)) ∧
          (1 < reg.remaining → goesOn e))))

/-! ### The clock -/

/-- CLOCK_TICK (R69): the clock advances by one second, over midnight into the next day, and stops at day 65535, second
86399. A minute count that is a multiple of the active interval length, once reached, is noted for its boundary search.
Stated where no deadline and no boundary reached before is still to be served (log 9). -/
def Obligations.ClockTickAdvancesOneSecond : Prop :=
  ∀ s : State, s.clock.boundaryDue = false → (∀ b ∈ s.books, b.state = .collecting → s.clock.time < b.deadline) →
    (s.clock.day = 65535 → s.clock.second = 86399 → exec .clockTick s = .next s) ∧
    (s.clock.day ≠ 65535 → s.clock.second = 86399 →
      exec .clockTick s = .next
        { s with clock := { s.clock with
            day := s.clock.day + 1, second := 0,
            boundaryDue := (s.clock.day + 1) * 1440 % s.active.general.interval == 0 } }) ∧
    (s.clock.second < 86399 →
      exec .clockTick s = .next
        { s with clock := { s.clock with
            second := s.clock.second + 1,
            boundaryDue := (s.clock.second + 1) % 60 == 0 &&
              (s.clock.day * 1440 + (s.clock.second + 1) / 60) % s.active.general.interval == 0 } })

/-- INTERVAL_BOUNDARY (R27, R59, R73, R74, R75, R76): at a multiple of the interval length beyond the open interval's
start a RUNNING engine creates the book, in the place of the oldest that can be replaced when the list is full, takes
the next mark and start, moves an arming on and clears the taken snapshots; a full list without such a book merges the
intervals and raises BOOK_MERGED; no candidate beyond the start, or checks in progress, or an engine not RUNNING take
nothing. A boundary that finds a book still COLLECTING ends its collection first, as at its deadline (R31, R79), stated
for a memory NOT_READY and a list with room. Checks in progress are stated where their next read, or another operation,
is in progress on the port and no unit has a turn to take; the rest for units at rest, no command in its execution
phase, and someone to expect. When the row comes after the clock's tick is the model's choice (log 9), and so are a
collecting book's two counts of 0 (log 36) and the ascending order of the ABSENT items of one end of collection (log
47). -/
def Obligations.IntervalBoundaryCreatesTheBook : Prop :=
  (∀ s : State, s.clock.boundaryDue = true → s.activation.phase = .checking →
    let served : State := { s with clock := { s.clock with boundaryDue := false } }
    served.blocked → exec .intervalBoundary s = .next served) ∧
  (∀ (s : State) (start : Nat) (b : Book), s.clock.boundaryDue = true → s.clock.openStart = some start → s.resting →
    s.commandDone = true → s.engine = .running → s.port.state = .notReady →
    s.books.find? (fun b => b.state == .collecting) = some b → (∀ x ∈ s.books, x.state = .collecting → x = b) →
    b.expected.Nodup → (∀ i ∈ b.expected, i < 192) → s.books.length < 8 →
    let candidate := (s.clock.day * 1440 + s.clock.second / 60) / s.active.general.interval * s.active.general.interval
    let expected := (List.range 192).filter fun i =>
      nonVacant (s.active.entry i) && (s.active.feeder (s.active.entry i).feeder).enabled
    let missing : List Nat := b.expected.filter fun i => (s.liveOf i).taken.isNone
    let run (i : Nat) : Nat := min 255 ((s.liveOf i).absence + 1)
    start < candidate → expected ≠ [] →
    exec .intervalBoundary s = .next
      { s with
        books :=
          (s.books.map fun x =>
            if x.start = b.start ∧ x.state = .collecting then
              { x with
                state := .waiting, members := b.expected.map fun i => { index := i, snapshot := (s.liveOf i).taken }
                missing := missing.length
                counterFaults := (b.expected.filter fun i =>
                  ((s.liveOf i).taken.map Snapshot.counterFault).getD false).length }
            else x) ++
          [{ start := start, close := candidate, mark := s.clock.mark + 1,
             deadline := max (candidate * 60) (s.clock.day * 86400 + s.clock.second) + s.active.general.grace,
             state := .collecting, holdReason := none, expected := expected, members := [], missing := 0,
             counterFaults := 0, capture := none, figures := none, owed := false }]
        clock := { s.clock with mark := s.clock.mark + 1, openStart := some candidate, boundaryDue := false }
        activation := { s.activation with
          phase := if s.activation.phase = .awaitBoundary then .awaitQuiet else s.activation.phase }
        live := Vector.ofFn fun i : Fin 192 =>
          { s.live[i] with
            taken := none, absence := if i.val ∈ missing then run i else s.live[i].absence }
        attention := ((missing.filter fun i => 3 ≤ run i).map fun i => Attention.absent i (run i)).foldl
          AttentionList.raise s.attention }) ∧
  ∀ (s : State) (start : Nat), s.clock.boundaryDue = true → s.clock.openStart = some start → s.resting →
    s.commandDone = true → (∀ b ∈ s.books, b.state ≠ .collecting) →
    let candidate := (s.clock.day * 1440 + s.clock.second / 60) / s.active.general.interval * s.active.general.interval
    let expected := (List.range 192).filter fun i =>
      nonVacant (s.active.entry i) && (s.active.feeder (s.active.entry i).feeder).enabled
    let served : State := { s with clock := { s.clock with boundaryDue := false } }
    let book : Book :=
      { start := start, close := candidate, mark := s.clock.mark + 1,
        deadline := max (candidate * 60) (s.clock.day * 86400 + s.clock.second) + s.active.general.grace,
        state := .collecting, holdReason := none, expected := expected, members := [], missing := 0, counterFaults := 0,
        capture := none, figures := none, owed := false }
    let taken (kept : List Book) : State :=
      { served with
        books := kept ++ [book]
        clock := { served.clock with mark := s.clock.mark + 1, openStart := some candidate }
        activation := { s.activation with
          phase := if s.activation.phase = .awaitBoundary then .awaitQuiet else s.activation.phase }
        live := s.live.map fun l => { l with taken := none } }
    (s.engine = .unconfigured ∨ candidate ≤ start → exec .intervalBoundary s = .next served) ∧
    (s.engine = .running → start < candidate → expected ≠ [] → s.books.length < 8 →
      exec .intervalBoundary s = .next (taken s.books)) ∧
    (∀ older b newer, s.engine = .running → start < candidate → expected ≠ [] → 8 ≤ s.books.length →
      s.books = older ++ b :: newer → (∀ x ∈ older, x.replaceable = false) → b.replaceable = true →
      exec .intervalBoundary s = .next (taken (older ++ newer))) ∧
    (s.engine = .running → start < candidate → 8 ≤ s.books.length → (∀ b ∈ s.books, b.replaceable = false) →
      exec .intervalBoundary s = .next
        { served with attention := s.attention.raise (.bookMerged candidate start) })

/-- COLLECTION_DEADLINE (R31, R79, R80, R81): the collecting book whose deadline the clock has reached takes its
snapshot set and counts, each missing member's absence run grows by one, held at 255, and from the third on ABSENT is
raised; with the account memory NOT_READY the book is WAITING. With it READY, the book the oldest that is not final, no
line locked and the cache empty, the book enters SETTLING in the same event: it captures band and prices, and the
Settlement Unit's first read, of CLEARING, is granted into line 0 (R53, R82, R91). Before the deadline, or with no
collecting book, nothing happens. Stated for units otherwise at rest and no command in its execution phase. When the
row comes after the clock's tick is the model's choice (log 9), and so is the ascending order of the ABSENT items (log
47). -/
def Obligations.CollectionDeadlineEndsTheCollection : Prop :=
  ∀ s : State,
    ((∀ b ∈ s.books, b.state = .collecting → s.clock.time < b.deadline) → exec .collectionDeadline s = .next s) ∧
    (∀ b, s.books.find? (fun b => b.state == .collecting) = some b → b.deadline ≤ s.clock.time → s.resting →
      s.commandDone = true → b.expected.Nodup → (∀ i ∈ b.expected, i < 192) →
      let missing : List Nat := b.expected.filter fun i => (s.liveOf i).taken.isNone
      let run (i : Nat) : Nat := min 255 ((s.liveOf i).absence + 1)
      let members : List Member := b.expected.map fun i => { index := i, snapshot := (s.liveOf i).taken }
      let collected (f : Book → Book) : State :=
        { s with
          books := s.books.map fun x =>
            if x.start = b.start ∧ x.state = .collecting then
              f { x with
                  state := .waiting, members := members, missing := missing.length
                  counterFaults := (b.expected.filter fun i =>
                    ((s.liveOf i).taken.map Snapshot.counterFault).getD false).length }
            else x
          live := Vector.ofFn fun i : Fin 192 =>
            if i.val ∈ missing then { s.live[i] with absence := run i } else s.live[i]
          attention := ((missing.filter fun i => 3 ≤ run i).map fun i => Attention.absent i (run i)).foldl
            AttentionList.raise s.attention }
      (s.port.state = .notReady → exec .collectionDeadline s = .next (collected fun x => x)) ∧
      (s.port.state = .ready → s.cache = .empty →
        s.books.find? (fun x => x.state != .posted && x.state != .discarded) = some b →
        (∀ x ∈ s.books, x.start = b.start → x = b) →
        exec .collectionDeadline s = .next
          (({ collected (fun x => { x with
                state := .settling, capture := some (s.active.captureFor s.clock.weekday b.start), figures := none }) with
              work := some { book := b.start, stage := .reading, copies := [],
                             toRead := [192, 193, 194, 195] ++
                               (members.filter (fun m => m.snapshot.isSome)).map Member.index,
                             rows := [], totals := none, aims := [], landed := [], changes := [] } } : State).onPort
            (.fill .settlement 192 0 none))))

/-! ### Completions on the account memory port -/

/-- CACHE_FILL (R129, R136, R137, R138, R180): the victim's record is written back, the line takes what the read gave,
clean and most recently used, DAMAGED raised, naming the reader, where the read was a check failure, and the reader is
served: READ ACCOUNT is answered; a command cut while it waited for the fill ends CUT (R168, R169; log 19); a SWEEP has
its BLOCK (R186); a SCAN compares (R188); a REBASE sets the flag or is REFUSED DAMAGED (R38); a REPAIR ACCOUNT is
REFUSED NOT_DAMAGED or has its write granted (R126); a TRANSFER locks its payer's line and reads the payee, then the
payee's line and decides, a refusal leaving no line locked (R122, R123, R124); the Settlement Unit copies the record and
asks for its next (R91), the last read being stated apart, with the end of SETTLING; check 11 passes a balance of 0 and
fails on another or on damage (R64, R65); marking sets the rebase flag (R67); a Notice Builder that waits for the
account, whoever asked for the fill, takes the household part, also in the flush of a RESTART sequence (R136, R158,
R176). Stated for units otherwise at rest. That the victim leaves its line at the grant, and is kept in the operation,
is the model's reading (log 16); the order of the bytes of results and BLOCKs, and the damaged form, are too (log 18).
-/
def Obligations.CacheFillServesTheReadThatWaited : Prop :=
  ∀ (s : State) (a line : Nat) (victim : Option (Nat × AccountRecord)) (returned : Option (List Byte)),
    line < 32 → s.cache.find a = none →
    let free (s : State) : State := { s with port := { s.port with inProgress := none } }
    let memory : List Host.Cell :=
      match victim with
      | none => s.memory
      | some v => writeUnit s.memory (32 + 32 * v.1) (recordBytes v.1 v.2)
    let read : Option AccountRecord := recordOf a (returned.getD (readBytes memory (32 + 32 * a) 28))
    let filled (reader : Reader) : State :=
      { s with memory := memory, port := { s.port with inProgress := none }, cache := s.cache.fill line a read
               attention := if read.isNone then s.attention.raise (.damaged a reader) else s.attention }
    let fills (reader : Reader) : Prop := s.port.inProgress = some (.fill reader a line victim)
    let next (t : State) : Prop := exec (.cacheFill returned) s = .next t
    (∀ tag code, fills .command → (free s).resting →
      (s.link.executing = some { tag := tag, code := code, run := .readAccount a } →
        next ((filled .command).answered tag code .done 0
          (match read with | some r => be 1 a ++ recordFields r ++ [0] | none => be 1 a ++ [1]))) ∧
      (∀ reason flushed, s.link.executing = some { tag := tag, code := code, run := .cutting reason flushed } →
        next ((filled .command).answered tag code .cut (match reason with | .quiesced => 2 | .restart => 19)
          (match flushed with | some n => be 1 n | none => []))) ∧
      (∀ r, s.link.executing = some { tag := tag, code := code, run := .sweep r } → r.inHand = a → r.block = none →
        filterMatches r.order.filter read = true →
        next ((filled .command).executing tag code
          (.sweep { r with
            visited := r.visited + 1, damaged := if read.isNone then r.damaged + 1 else r.damaged, lastVisited := some a
            block := some (be 1 a ++ be 1 r.blocks ++
              (match read with | some x => [0] ++ recordFields x | none => [1])) }))) ∧
      (∀ r, s.link.executing = some { tag := tag, code := code, run := .scan r } → r.inHand = a → r.tested = true →
        r.ending = .goingOn →
        let holds (balance : Int) : Prop :=
          match r.order.comparison with
          | .equal => balance = r.order.threshold
          | .atMost => balance ≤ r.order.threshold
          | .atLeast => r.order.threshold ≤ balance
        let counts (damaged : Nat) : List Byte := be 1 (r.visited + 1) ++ be 1 r.suspended ++ be 1 damaged ++ be 1 a
        (∀ x, read = some x → holds x.balance →
          next ((filled .command).answered tag code .done 1 (be 1 a ++ signedBe 6 x.balance ++ counts r.damaged))) ∧
        (∀ x, read = some x → ¬holds x.balance → r.order.last < a + r.order.step →
          next ((filled .command).answered tag code .done 2 (counts r.damaged))) ∧
        (read = none → r.order.last < a + r.order.step →
          next ((filled .command).answered tag code .done 2 (counts (r.damaged + 1)))))) ∧
    (∀ tag code, fills .command → (free s).resting →
      (s.link.executing = some { tag := tag, code := code, run := .rebaseRead a } →
        (∀ r, read = some r →
          next (({ filled .command with
              cache := (s.cache.fill line a read).set line
                (some { tag := a, record := some { r with rebasePending := true }, dirty := true,
                        locked := false }) } : State).answered tag code .done (if r.rebasePending then 2 else 1) [])) ∧
        (read = none → next ((filled .command).answered tag code .refused 14 []))) ∧
      (∀ o, s.link.executing = some { tag := tag, code := code, run := .repairRead o } → o.account = a →
        (∀ r, read = some r → next ((filled .command).answered tag code .refused 17 [])) ∧
        (read = none →
          next (((filled .command).executing tag code (.repairWrite o)).onPort
            (.repairRecord a
              { balance := o.balance, baseExport := BitVec.ofNat 32 o.baseExport,
                baseImport := BitVec.ofNat 32 o.baseImport, baseMinute := o.baseMinute, rebasePending := false,
                standing := o.standing, lastPosted := none })))) ∧
      (∀ o : TransferOrder, o.payer ≠ o.payee →
        let refused (cache : Cache) (detail : Nat) (fields : List Byte) : Prop :=
          next (({ filled .command with cache := cache.unlockAll } : State).answered tag code .refused detail fields)
        let decides (x y : AccountRecord) (cache : Cache) : Prop :=
          let floor := (s.active.entry o.payer).creditFloor
          let standing (account : Nat) (balance : Int) : Standing :=
            if account < 192 ∧ (s.active.entry account).kind ≠ .vacant ∧
                balance < (s.active.entry account).creditFloor then .arrears
            else .current
          let image (account : Nat) (r : AccountRecord) (balance : Int) : Image :=
            { account := account, changes := true, was := r.standing,
              record := { r with balance := balance, standing := standing account balance } }
          let payer := image o.payer x (x.balance - o.amount)
          let payee := image o.payee y (y.balance + o.amount)
          let short : Prop :=
            o.mode = .checked ∧ o.payer < 192 ∧ (s.active.entry o.payer).kind ≠ .vacant ∧ x.balance - o.amount < floor
          (balanceInRange (x.balance - o.amount) = false → refused cache 15 (be 1 o.payer)) ∧
          (balanceInRange (x.balance - o.amount) = true → balanceInRange (y.balance + o.amount) = false →
            refused cache 15 (be 1 o.payee)) ∧
          (balanceInRange (x.balance - o.amount) = true → balanceInRange (y.balance + o.amount) = true →
            (short → refused cache 16 (signedBe 6 x.balance ++ signedBe 6 floor)) ∧
            (¬short →
              next ((({ filled .command with cache := cache } : State).executing tag code
                (.transferJournal o [payer, payee] 0)).onPort (.journalEntry .transfer 0 payer))))
        let now : Cache := s.cache.fill line a read
        (s.link.executing = some { tag := tag, code := code, run := .transferPayer o } → o.payer = a →
          (read = none → refused now 14 (be 1 a)) ∧
          (∀ x, read = some x →
            let held : Cache := now.setLock line true
            (∀ free, now.lookup o.payee = .miss → held.victim none = some free →
              next ((({ filled .command with cache := held.drop free } : State).executing tag code
                (.transferPayee o)).onPort (.fill .command o.payee free (dirtyRecord (held.line free))))) ∧
            (∀ j, now.lookup o.payee = .damaged j → refused (held.touch j) 14 (be 1 o.payee)) ∧
            (∀ j y, now.lookup o.payee = .good j y → decides x y ((held.touch j).setLock j true)))) ∧
        (s.link.executing = some { tag := tag, code := code, run := .transferPayee o } → o.payee = a →
          (read = none → refused now 14 (be 1 a)) ∧
          (∀ i x y, read = some y → now.lookup o.payer = .good i x → decides x y (now.setLock line true))))) ∧
    (∀ w b more line' b', fills .settlement → s.commandDone = true → s.work = some w → w.stage = .reading →
      w.toRead = a :: b :: more → s.books.find? (fun x => x.start == w.book) = some b' → b'.state = .settling →
      s.books.find? (fun x => x.state != .posted && x.state != .discarded) = some b' →
      (free { s with work := none, books := [] }).resting → s.port.state = .ready →
      (filled .settlement).cache.lookup b = .miss → (filled .settlement).cache.victim none = some line' →
      next (({ filled .settlement with
          work := some { w with copies := (a, read) :: w.copies, toRead := b :: more }
          cache := (filled .settlement).cache.drop line' } : State).onPort
        (.fill .settlement b line' (dirtyRecord ((filled .settlement).cache.line line'))))) ∧
    (∀ b more line', fills .activation → s.commandDone = true → s.activation.phase = .checking →
      s.activation.toCheck = a :: b :: more → s.port.state = .ready → s.engine = .running →
      (free { s with activation := { s.activation with phase := .idle } }).resting →
      (∀ r, read = some r → r.balance = 0 → (filled .activation).cache.lookup b = .miss →
        (filled .activation).cache.victim none = some line' →
        next (({ filled .activation with
            activation := { s.activation with toCheck := b :: more }
            cache := (filled .activation).cache.drop line' } : State).onPort
          (.fill .activation b line' (dirtyRecord ((filled .activation).cache.line line'))))) ∧
      ((∀ r, read = some r → r.balance ≠ 0) → (∀ start, s.clock.openStart = some start → s.candidate ≤ start) →
        next { filled .activation with
          activation := { s.activation with phase := .idle, toCheck := [], report := some (11, some a) }
          attention := (filled .activation).attention.raise (.activateFailed 11 (some a)) })) ∧
    (fills .activation → s.commandDone = true → s.activation.marking = [a] → s.port.state = .ready →
      (free { s with activation := { s.activation with marking := [] } }).resting →
      next { filled .activation with
        activation := { s.activation with marking := [] }
        cache :=
          match read with
          | some r =>
            (s.cache.fill line a read).set line
              (some { tag := a, record := some { r with rebasePending := true }, dirty := true, locked := false })
          | none => s.cache.fill line a read }) ∧
    (∀ (reader : Reader) (f : Feeder), fills reader → s.ports[f].prefetch = .waiting a →
      (∀ g : Feeder, g ≠ f → s.ports[g].prefetch ≠ .waiting a) →
      let arrived : State :=
        (filled reader).setPort f { s.ports[f] with
          prefetch := .arrived a (read.map fun x =>
            { index := a, credits := max (-8388607) (min 8388607 (Int.tdiv x.balance 1000)), standing := x.standing }) }
      (arrived.resting → s.commandDone = true → next arrived) ∧
      (∀ keepHeld, s.isQuiesced = false → s.sequence = .flush keepHeld → s.link.executing = none →
        (filled reader).cache.dirtyAccounts = [] →
        next { arrived with
          cache := .empty, sequence := .startup keepHeld
          ports := arrived.ports.map fun p => { p with prefetch := if p.prefetch.isWaiting then .none else p.prefetch }
          port := { s.port with state := .notReady, startup := .readingHeader,
                                inProgress := some .startupHeaderRead } }))

/-- CACHE_WRITE_BACK (R124, R129, R139, R144, R145, R146, R192): the line's record is written into its account's place
and the line is clean; the flush of the power warning goes on with the next dirty line, so does the flush of a RESTART
sequence, after whose last line the cache is invalid, the waiting requests are withdrawn and start-up's header read is
granted (R175 steps 5 to 7, R176); FLUSH goes on with its list, passing over an account whose line is gone or clean,
and after its last is DONE with its count, one that was cut CUT with the line counted (R169; log 19); a posting's
WRITE_BACK goes on with the book's next dirty line in account order, and after the last its phase is CLEAR and the
header write of journal state EMPTY, with the book as last posted, is granted (R118); a TRANSFER's goes on from the
payer's line to the payee's, and after that the header write of journal state EMPTY, with the last posted book as it
was, is granted. A record written whose fields fit their bytes is what a later read of its place gives. That a RESTART
sequence's flush takes the lines in ascending account number is the model's choice (log 46), and so is the payer's line
before the payee's (log 48). -/
def Obligations.WriteBackPutsTheLinesRecordInItsPlace : Prop :=
  (∀ (s : State) (line a : Nat) (r : AccountRecord) (dirty locked : Bool) (use : WriteBackUse),
    s.port.inProgress = some (.writeBack use line a) →
    s.cache.line line = some { tag := a, record := some r, dirty := dirty, locked := locked } →
    let written : State :=
      { s with
        memory := writeUnit s.memory (32 + 32 * a) (recordBytes a r)
        cache := s.cache.set line (some { tag := a, record := some r, dirty := false, locked := locked })
        port := { s.port with inProgress := none } }
    (use = .powerFlush → s.isQuiesced = true → s.powerWarning = true → s.link.executing = none →
      (written.cache.dirtyAccounts = [] → exec .cacheWriteBack s = .next written) ∧
      (∀ b more next, written.cache.dirtyAccounts = b :: more → written.cache.find b = some next →
        exec .cacheWriteBack s = .next (written.onPort (.writeBack .powerFlush next b)))) ∧
    (∀ tag code n, use = .flush → written.resting →
      s.link.executing = some { tag := tag, code := code, run := .flush [a] n } →
      exec .cacheWriteBack s = .next (written.answered tag code .done 0 (be 1 (n + 1)))) ∧
    (∀ tag code n rest, use = .flush → written.resting → rest.length ≤ 196 →
      s.link.executing = some { tag := tag, code := code, run := .flush (a :: rest) n } →
      let passed (x : Nat) : Prop := ∀ l, written.cache.find x = some l → written.cache.isDirty l = false
      (∀ before b after next, rest = before ++ b :: after → (∀ x ∈ before, passed x) →
        written.cache.find b = some next → written.cache.isDirty next = true →
        exec .cacheWriteBack s = .next
          ((written.executing tag code (.flush (b :: after) (n + 1))).onPort (.writeBack .flush next b))) ∧
      ((∀ x ∈ rest, passed x) →
        exec .cacheWriteBack s = .next (written.answered tag code .done 0 (be 1 (n + 1))))) ∧
    (∀ keepHeld, use = .restartFlush → s.sequence = .flush keepHeld → s.isQuiesced = false → s.link.executing = none →
      (∀ b more next, written.cache.dirtyAccounts = b :: more → written.cache.find b = some next →
        exec .cacheWriteBack s = .next (written.onPort (.writeBack .restartFlush next b))) ∧
      (written.cache.dirtyAccounts = [] →
        exec .cacheWriteBack s = .next
          { written with
            cache := .empty, sequence := .startup keepHeld
            ports := s.ports.map fun p => { p with prefetch := if p.prefetch.isWaiting then .none else p.prefetch }
            port := { s.port with state := .notReady, startup := .readingHeader,
                                  inProgress := some .startupHeaderRead } })) ∧
    (∀ tag code reason n, use = .flush → written.resting →
      s.link.executing = some { tag := tag, code := code, run := .cutting reason (some n) } →
      exec .cacheWriteBack s = .next
        (written.answered tag code .cut (match reason with | .quiesced => 2 | .restart => 19) (be 1 (n + 1)))) ∧
    (∀ tag code o p q copy, use = .transfer → written.resting → s.port.header = some copy → s.cache.find a = some line →
      (∀ next, s.link.executing = some { tag := tag, code := code, run := .transferWriteBack o [p, q] 0 } →
        p.account = a → written.cache.find q.account = some next → written.cache.isDirty next = true →
        exec .cacheWriteBack s = .next
          ((written.executing tag code (.transferWriteBack o [p, q] 1)).onPort (.writeBack .transfer next q.account))) ∧
      (s.link.executing = some { tag := tag, code := code, run := .transferWriteBack o [p, q] 1 } → q.account = a →
        exec .cacheWriteBack s = .next
          ((written.executing tag code (.transferClear o [p, q])).onPort
            (.journalClear .transfer { copy with journal := .empty })))) ∧
    (∀ start copy, use = .postingWriteBack → s.posting.phase = .writeBack → s.posting.book = some start →
      s.port.header = some copy → s.port.state = .ready → s.commandDone = true →
      (∀ w, s.work = some w → w.stage = .done) →
      (∀ b, s.books.find? (fun x => x.state != .posted && x.state != .discarded) = some b → b.state = .posting) →
      ({ written with work := none, books := [], posting := { s.posting with phase := .idle } } : State).resting →
      let dirty (i : Image) : Bool :=
        match written.cache.find i.account with | some l => written.cache.isDirty l | none => false
      (∀ before i after next, s.posting.images = before ++ i :: after → (∀ x ∈ before, dirty x = false) →
        dirty i = true → written.cache.find i.account = some next →
        exec .cacheWriteBack s = .next (written.onPort (.writeBack .postingWriteBack next i.account))) ∧
      ((∀ x ∈ s.posting.images, dirty x = false) →
        exec .cacheWriteBack s = .next
          (({ written with posting := { s.posting with phase := .clear, cursor := 0 } } : State).onPort
            (.journalClear .posting { copy with journal := .empty, lastPosted := some start }))))) ∧
  (∀ (m : List Host.Cell) (a : Nat) (r : AccountRecord), Memory.wf m = true → a ≤ 195 → balanceInRange r.balance = true →
    (∀ n, r.baseMinute = some n → n ≤ 94371839) → (∀ n, r.lastPosted = some n → n ≤ 94371839) →
    recordOf a (readBytes (writeUnit m (32 + 32 * a) (recordBytes a r)) (32 + 32 * a) 28) = some r)

/-- JOURNAL_ENTRY_WRITE and JOURNAL_HEADER_WRITE (R115, R116, R117, R124, R128, R130, R138, R140). For a TRANSFER: the
payer's entry, then the payee's, then the header TRANSFER_READY with two entries, whose other fields come from the
header copy; then both images are in their lines, dirty, ARREARS raised where one moves its account from CURRENT to
ARREARS, and the payer's line is granted its write-back. For a posting: the entries in order, then the header
BOOK_READY with the book and the count, whose grant makes the phase APPLY; then the images are in their lines, dirty,
ARREARS raised likewise, and the first is granted its write-back, stated for two entries that lines hold; an image
without a line whose victim is dirty has that written back first, and takes the line then. That the payer's image is
applied, and its line written back, before the payee's is the model's choice (log 48). Stated for units otherwise at
rest. -/
def Obligations.TransferJournalsBothImagesThenMarksTheHeader : Prop :=
  (∀ (s : State) (tag code : Byte) (o : TransferOrder) (p q : Image) (copy : Header), s.port.header = some copy →
    ({ s with port := { s.port with inProgress := none } } : State).resting →
    let wrote (place : Nat) (bytes : List Byte) : State :=
      { s with memory := writeUnit s.memory place bytes, port := { s.port with inProgress := none } }
    (s.link.executing = some { tag := tag, code := code, run := .transferJournal o [p, q] 0 } →
      s.port.inProgress = some (.journalEntry .transfer 0 p) →
      exec .journalEntryWrite s = .next
        (((wrote 6304 (recordBytes p.account p.record)).executing tag code (.transferJournal o [p, q] 1)).onPort
          (.journalEntry .transfer 1 q))) ∧
    (s.link.executing = some { tag := tag, code := code, run := .transferJournal o [p, q] 1 } →
      s.port.inProgress = some (.journalEntry .transfer 1 q) →
      exec .journalEntryWrite s = .next
        (((wrote 6336 (recordBytes q.account q.record)).executing tag code (.transferHeader o [p, q])).onPort
          (.journalHeader .transfer { copy with journal := .transferReady, book := none, count := 2 }))) ∧
    (∀ (h : Header) (i j : Nat), s.link.executing = some { tag := tag, code := code, run := .transferHeader o [p, q] } →
      s.port.inProgress = some (.journalHeader .transfer h) → s.cache.find p.account = some i →
      s.cache.find q.account = some j → p.account ≠ q.account →
      let raised (l : AttentionList) (x : Image) : AttentionList :=
        if x.record.standing = .arrears ∧ x.was = .current then
          l.raise (.arrears x.account x.record.balance (s.active.entry x.account).creditFloor)
        else l
      let marked : State :=
        { wrote 0 (headerBytes 0x3D6A h) with
          port := { s.port with inProgress := none, header := some h }
          cache := (s.cache.place i p).place j q
          attention := raised (raised s.attention p) q }
      exec .journalHeaderWrite s = .next
        ((marked.executing tag code (.transferWriteBack o [p, q] 0)).onPort (.writeBack .transfer i p.account)))) ∧
  (∀ (s : State) (start : Nat) (copy : Header), s.posting.book = some start → s.port.header = some copy →
    s.port.state = .ready → s.commandDone = true → (∀ w, s.work = some w → w.stage = .done) →
    (∀ b, s.books.find? (fun x => x.state != .posted && x.state != .discarded) = some b → b.state = .posting) →
    ({ s with work := none, books := [], posting := { s.posting with phase := .idle },
              port := { s.port with inProgress := none } } : State).resting →
    let wrote (place : Nat) (bytes : List Byte) : State :=
      { s with memory := writeUnit s.memory place bytes, port := { s.port with inProgress := none } }
    (∀ n i, s.port.inProgress = some (.journalEntry .posting n i) → s.posting.phase = .journal → s.posting.cursor = n →
      let entered : State := wrote (6304 + 32 * n) (recordBytes i.account i.record)
      (∀ k, s.posting.images[n + 1]? = some k →
        exec .journalEntryWrite s = .next
          (({ entered with posting := { s.posting with cursor := n + 1 } } : State).onPort
            (.journalEntry .posting (n + 1) k))) ∧
      (s.posting.images[n + 1]? = none →
        exec .journalEntryWrite s = .next
          (({ entered with posting := { s.posting with phase := .apply, cursor := 0 } } : State).onPort
            (.journalHeader .posting
              { copy with journal := .bookReady, book := some start, count := s.posting.images.length })))) ∧
    (∀ h, s.port.inProgress = some (.journalHeader .posting h) → s.posting.phase = .apply → s.posting.cursor = 0 →
      let marked : State :=
        { wrote 0 (headerBytes 0x3D6A h) with port := { s.port with inProgress := none, header := some h } }
      let raised (l : AttentionList) (x : Image) : AttentionList :=
        if x.record.standing = .arrears ∧ x.was = .current then
          l.raise (.arrears x.account x.record.balance (s.active.entry x.account).creditFloor)
        else l
      (∀ p q i j, s.posting.images = [p, q] → s.cache.find p.account = some i → s.cache.find q.account = some j →
        p.account ≠ q.account →
        exec .journalHeaderWrite s = .next
          (({ marked with
              posting := { s.posting with phase := .writeBack, cursor := 0, durable := true }
              cache := (s.cache.place i p).place j q
              attention := raised (raised s.attention p) q } : State).onPort
            (.writeBack .postingWriteBack i p.account))) ∧
      (∀ p rest i l, s.posting.images = p :: rest → s.cache.find p.account = none → s.cache.victim none = some i →
        s.cache.line i = some l → l.dirty = true →
        exec .journalHeaderWrite s = .next
          (({ marked with posting := { s.posting with durable := true } } : State).onPort
            (.writeBack (.postingVictim p) i l.tag)))) ∧
    (∀ p i l r, s.port.inProgress = some (.writeBack (.postingVictim p) i l.tag) → s.posting.phase = .apply →
      s.posting.durable = true → s.posting.cursor = 0 → s.posting.images = [p] → s.cache.line i = some l →
      l.record = some r → s.cache.find p.account = none →
      exec .cacheWriteBack s = .next
        (({ wrote (32 + 32 * l.tag) (recordBytes l.tag r) with
            posting := { s.posting with phase := .writeBack, cursor := 0 }
            cache := (s.cache.clean i).place i p
            attention :=
              if p.record.standing = .arrears ∧ p.was = .current then
                s.attention.raise (.arrears p.account p.record.balance (s.active.entry p.account).creditFloor)
              else s.attention } : State).onPort (.writeBack .postingWriteBack i p.account))))

/-- JOURNAL_HEADER_CLEAR and REPAIR_RECORD_WRITE (R83, R90, R118, R120, R124, R126, R130): the cleared header is
written and the header copy with it; a TRANSFER releases its locks and is DONE with both new balances, a posting's book
is POSTED with its statement owed, the work record is empty and the posting phase IDLE; REPAIR ACCOUNT writes the
record and the line that holds the account takes it, good and clean. The reconciliation pass then runs, for a book and
a TRANSFER for the accounts whose balance changed, for REPAIR ACCOUNT when it names a participant account. A REBASE, a
TRANSFER or a REPAIR ACCOUNT that waited for the posting goes on with its read in the same event (R38, R122, R126): a
hit sets REBASE's flag, a miss asks for the TRANSFER's payer, whose victim leaves its line at the grant (log 16), a
DAMAGED line lets REPAIR ACCOUNT write. The posting that leaves every book POSTED or DISCARDED while the activation
waits in AWAIT_QUIET is the commit moment  (R62): the phase is CHECKING and the first read of check 11 is granted (R64;
log 16), or, a check of 1 to 10 failed, IDLE  with the failure report and ACTIVATE_FAILED (R65), stated for no boundary
to be taken then. Stated for units then  otherwise at rest. -/
def Obligations.ClearedJournalsAndRepairsEndTheirWork : Prop :=
  ∀ s : State,
    let wrote (place : Nat) (bytes : List Byte) (header : Option Header) : State :=
      { s with memory := writeUnit s.memory place bytes, port := { s.port with inProgress := none, header := header } }
    (∀ (tag code : Byte) (o : TransferOrder) (p q : Image) (h : Header),
      s.link.executing = some { tag := tag, code := code, run := .transferClear o [p, q] } →
      s.port.inProgress = some (.journalClear .transfer h) → (wrote 0 (headerBytes 0x3D6A h) (some h)).resting →
      exec .journalHeaderClear s = .next
        ((({ wrote 0 (headerBytes 0x3D6A h) (some h) with cache := s.cache.unlockAll } : State).reconcile
          [(p.account, p.record.standing), (q.account, q.record.standing)]).answered tag code .done 0
          (signedBe 6 p.record.balance ++ signedBe 6 q.record.balance))) ∧
    (∀ (start : Nat) (h : Header), s.posting.phase = .clear → s.posting.book = some start →
      s.port.inProgress = some (.journalClear .posting h) →
      let ended : State :=
        { wrote 0 (headerBytes 0x3D6A h) (some h) with
          books := s.books.map fun b => if b.start = start then { b with state := .posted, owed := true } else b
          work := none
          posting := { phase := .idle, book := none, cursor := 0, images := [], durable := false,
                       recheck := s.posting.recheck } }
      let after : State :=
        ended.reconcile ((s.posting.images.filter fun i => i.changes).map fun i => (i.account, i.record.standing))
      (({ ended with activation := { s.activation with phase := .idle } } : State).resting →
        s.activation.phase = .awaitQuiet → ended.commandDone = true →
        (∀ x ∈ ended.books, x.state = .posted ∨ x.state = .discarded) →
        let first := firstFailure s.staged (s.port.state == .ready)
        (∀ i rest line, first = none →
          ((List.range 192).filter fun i => (s.active.entry i).kind != .vacant && (s.staged.entry i).kind == .vacant) =
            i :: rest →
          s.cache.lookup i = .miss → s.cache.victim none = some line →
          exec .journalHeaderClear s = .next
            (({ after with
                activation := { s.activation with phase := .checking, toCheck := i :: rest }
                cache := s.cache.drop line } : State).onPort
              (.fill .activation i line (dirtyRecord (s.cache.line line))))) ∧
        (∀ check object, first = some (check, object) → (∀ o, s.clock.openStart = some o → s.candidate ≤ o) →
          exec .journalHeaderClear s = .next
            { after with
              activation := { s.activation with phase := .idle, toCheck := [], report := some (check, object) }
              attention := after.attention.raise (.activateFailed check object) })) ∧
      (ended.resting →
      (ended.commandDone = true → exec .journalHeaderClear s = .next after) ∧
      (∀ tag code i line r dirty locked,
        s.link.executing = some { tag := tag, code := code, run := .rebaseWait i } → s.cache.find i = some line →
        s.cache.line line = some { tag := i, record := some r, dirty := dirty, locked := locked } →
        exec .journalHeaderClear s = .next
          (({ after with cache := (s.cache.set line (some { tag := i, record := some { r with rebasePending := true },
                                                             dirty := true, locked := locked })).touch line } : State).answered
            tag code .done (if r.rebasePending then 2 else 1) [])) ∧
      (∀ tag code o free, s.link.executing = some { tag := tag, code := code, run := .transferWait o } →
        s.cache.lookup o.payer = .miss → s.cache.victim none = some free →
        exec .journalHeaderClear s = .next
          ((({ after with cache := s.cache.drop free } : State).executing tag code (.transferPayer o)).onPort
            (.fill .command o.payer free (dirtyRecord (s.cache.line free))))) ∧
      (∀ tag code o line, s.link.executing = some { tag := tag, code := code, run := .repairWait o } →
        s.cache.lookup o.account = .damaged line →
        exec .journalHeaderClear s = .next
          ((({ after with cache := s.cache.touch line } : State).executing tag code (.repairWrite o)).onPort
            (.repairRecord o.account
              { balance := o.balance, baseExport := BitVec.ofNat 32 o.baseExport,
                baseImport := BitVec.ofNat 32 o.baseImport, baseMinute := o.baseMinute, rebasePending := false,
                standing := o.standing, lastPosted := none }))))) ∧
    (∀ (tag code : Byte) (o : RepairOrder) (r : AccountRecord) (line : Nat),
      s.link.executing = some { tag := tag, code := code, run := .repairWrite o } →
      s.port.inProgress = some (.repairRecord o.account r) → s.cache.find o.account = some line →
      let repaired : State :=
        { wrote (32 + 32 * o.account) (recordBytes o.account r) s.port.header with
          cache := s.cache.set line (some { tag := o.account, record := some r, dirty := false, locked := false }) }
      repaired.resting →
      exec .repairRecordWrite s = .next
        ((if o.account < 192 then repaired.reconcile [(o.account, o.standing)] else repaired).answered tag code .done 0 []))

/-- The reconciliation pass for one account (R120, R121, R150): a participant in ARREARS with a limit wants LIMIT at
that limit, any other RELEASE; an order is requested where the queue's entry asks for something else, or, without an
entry, where the LIMIT_ACTIVE flag does not match; a full queue raises QUEUE_FULL and leaves the participant on the
recheck list. VACANT indices and system accounts ask for nothing. So for one account with the recheck list empty
before. In general a pass visits the concerned participants and those of  the recheck list once each in ascending
index, a concerned one with the standing of the pass, another with its  entry's (R121); a visit that ends in nothing or
in an accepted request takes the index off the list, a refused one puts  it there in its place or replaces its
standing, and a VACANT index leaves without a request. The list stays in ascending  index, below 192, with at most 192
entries. -/
def Obligations.ReconciliationRequestsTheOrderTheStandingWants : Prop :=
  (∀ (s : State) (st : Standing), s.posting.recheck = [] →
    (∀ a, 192 ≤ a → s.reconcile [(a, st)] = s) ∧
    (∀ i : Fin 192, (s.active.entry i).kind = .vacant → s.reconcile [(i.val, st)] = s) ∧
    (∀ (i : Fin 192) (f : Feeder), (s.active.entry i).kind ≠ .vacant → (s.active.entry i).feeder = f.val →
      let e := s.active.entry i
      let limits : Prop := st = .arrears ∧ 0 < e.limit
      let wants (kind : OrderKind) (watts : Nat) (flag : Bool) : Prop :=
        let fresh : OrderEntry :=
          { slot := e.slot, participant := i.val, kind := kind, watts := watts, sends := 0, sent := false, waited := 0,
            turned := false, sentAtHead := false }
        let q := s.ports[f].queue
        (∀ x, q.find? (fun x => x.slot == e.slot) = some x →
          (x.kind = kind ∧ x.watts = watts → s.reconcile [(i.val, st)] = s) ∧
          (¬(x.kind = kind ∧ x.watts = watts) →
            s.reconcile [(i.val, st)] =
              s.setPort f { s.ports[f] with queue := q.map fun y => if y.slot = e.slot then fresh else y })) ∧
        (q.find? (fun x => x.slot == e.slot) = none →
          (s.live[i].limitActive = flag → s.reconcile [(i.val, st)] = s) ∧
          (s.live[i].limitActive ≠ flag → q.length < 16 →
            s.reconcile [(i.val, st)] = s.setPort f { s.ports[f] with queue := q ++ [fresh] }) ∧
          (s.live[i].limitActive ≠ flag → 16 ≤ q.length →
            s.reconcile [(i.val, st)] =
              { s with posting := { s.posting with recheck := [(i.val, st)] },
                       attention := s.attention.raise (.queueFull f.val e.slot kind) }))
      (limits → wants .limit e.limit true) ∧ (¬limits → wants .release 0 false))) ∧
  (∀ (s : State) (concerned : List (Nat × Standing)),
    let visits : List (Nat × Standing) := (List.range 192).filterMap fun i =>
      match concerned.lookup i, s.posting.recheck.lookup i with
      | some st, _ => some (i, st)
      | none, some st => some (i, st)
      | none, none => none
    s.reconcile concerned = visits.foldl (fun t v => t.reconcileAt v.1 v.2) s) ∧
  (∀ (s : State) (i : Fin 192) (st : Standing),
    let e := s.active.entry i
    let left : Posting := { s.posting with recheck := s.posting.recheck.filter fun r => r.1 != i.val }
    (e.kind = .vacant → s.reconcileAt i st = { s with posting := left }) ∧
    (∀ f : Feeder, e.kind ≠ .vacant → e.feeder = f.val →
      let limits : Prop := st = .arrears ∧ 0 < e.limit
      let q := s.ports[f].queue
      let wants (kind : OrderKind) (watts : Nat) (flag : Bool) : Prop :=
        let fresh : OrderEntry :=
          { slot := e.slot, participant := i.val, kind := kind, watts := watts, sends := 0, sent := false, waited := 0,
            turned := false, sentAtHead := false }
        let takes (queue : List OrderEntry) : State :=
          { s.setPort f { s.ports[f] with queue := queue } with posting := left }
        (∀ x, q.find? (fun x => x.slot == e.slot) = some x →
          s.reconcileAt i st =
            if x.kind = kind ∧ x.watts = watts then { s with posting := left }
            else takes (q.map fun y => if y.slot = e.slot then fresh else y)) ∧
        (q.find? (fun x => x.slot == e.slot) = none →
          (s.live[i].limitActive = flag → s.reconcileAt i st = { s with posting := left }) ∧
          (s.live[i].limitActive ≠ flag → q.length < 16 → s.reconcileAt i st = takes (q ++ [fresh])) ∧
          (s.live[i].limitActive ≠ flag → 16 ≤ q.length →
            (s.posting.recheck.map Prod.fst).Pairwise (fun a b => a < b) →
            s.reconcileAt i st =
              { s with
                posting :=
                  { s.posting with
                    recheck := (s.posting.recheck.filter fun r => decide (r.1 < i.val)) ++
                      (i.val, st) :: s.posting.recheck.filter fun r => decide (i.val < r.1) }
                attention := s.attention.raise (.queueFull f.val e.slot kind) }))
      (limits → wants .limit e.limit true) ∧ (¬limits → wants .release 0 false))) ∧
  (∀ (s : State) (concerned : List (Nat × Standing)),
    let ascending (l : List (Nat × Standing)) : Prop :=
      (l.map Prod.fst).Pairwise (fun a b => a < b) ∧ ∀ r ∈ l, r.1 < 192
    ascending s.posting.recheck →
    ascending (s.reconcile concerned).posting.recheck ∧ (s.reconcile concerned).posting.recheck.length ≤ 192)

/-- STARTUP_HEADER_READ and JOURNAL_VERIFY_READ (R130, R131, R132, R133): a bad header leaves the memory NOT_READY and
the header copy empty; an EMPTY one makes it READY; another has its entries read one by one, and a journal of no entry
is closed at once. An entry that fails its check, is CLEARING's or repeats an account ends the pass with the EMPTY
header asked for; the last good entry begins the write pass in entry order. Stated for units otherwise at rest and no
command in its execution phase. -/
def Obligations.StartupReadsTheHeaderAndVerifiesTheJournal : Prop :=
  ∀ (s : State) (returned : Option (List Byte)), s.commandDone = true →
    ({ s with port := { s.port with inProgress := none, startup := .idle } } : State).resting →
    let portAt (memory : MemoryState) (header : Option Header) (op : Option PortOp) (startup : Startup) : State :=
      { s with port := { state := memory, header := header, inProgress := op, startup := startup } }
    let closing (h : Header) : PortOp :=
      .startupHeaderWrite
        { h with journal := .empty, count := 0, lastPosted := if h.journal = .bookReady then h.book else h.lastPosted }
    let lost (h : Header) : PortOp := .startupHeaderWrite { h with journal := .empty, count := 0 }
    (s.port.inProgress = some .startupHeaderRead → s.port.startup = .readingHeader →
      let bytes := returned.getD (readBytes s.memory 0 16)
      (headerOf bytes = none → exec (.startupHeaderRead returned) s = .next (portAt .notReady none none .idle)) ∧
      (∀ h, headerOf bytes = some h →
        (h.journal = .empty → exec (.startupHeaderRead returned) s = .next (portAt .ready (some h) none .idle)) ∧
        (h.journal ≠ .empty → h.count = 0 →
          exec (.startupHeaderRead returned) s = .next
            (portAt s.port.state (some h) (some (closing h)) (.closing h .replayed))) ∧
        (h.journal ≠ .empty → h.count ≠ 0 →
          exec (.startupHeaderRead returned) s = .next
            (portAt s.port.state (some h) (some (.journalVerifyRead 0)) (.verifying h []))))) ∧
    (∀ h seen place, s.port.inProgress = some (.journalVerifyRead place) → s.port.startup = .verifying h seen →
      let entry := entryOf (returned.getD (readBytes s.memory (6304 + 32 * place) 28))
      ((entry = none ∨ (∃ r, entry = some (192, r)) ∨ (∃ a r, entry = some (a, r) ∧ a ∈ seen.map Prod.fst)) →
        exec (.journalVerifyRead returned) s = .next
          (portAt s.port.state s.port.header (some (lost h)) (.closing h (.lost seen.length)))) ∧
      (∀ a r, entry = some (a, r) → a ≠ 192 → a ∉ seen.map Prod.fst →
        (seen.length + 1 < h.count →
          exec (.journalVerifyRead returned) s = .next
            (portAt s.port.state s.port.header (some (.journalVerifyRead (seen.length + 1)))
              (.verifying h (seen ++ [(a, r)])))) ∧
        (∀ b x more, h.count ≤ seen.length + 1 → seen ++ [(a, r)] = (b, x) :: more →
          exec (.journalVerifyRead returned) s = .next
            (portAt s.port.state s.port.header (some (.replayRecord b x)) (.writing h ((b, x) :: more))))))

/-- REPLAY_RECORD_WRITE and STARTUP_HEADER_WRITE (R128, R130, R131, R132, R133): each record is written in its
account's place and the next one asked for; after the last the EMPTY header is; once that is written it is the header
copy, the memory is READY, and JOURNAL_REPLAYED or JOURNAL_LOST is raised. Stated for units otherwise at rest and no
command in its execution phase. -/
def Obligations.StartupReplaysTheJournalAndClosesIt : Prop :=
  ∀ s : State, s.commandDone = true →
    ({ s with port := { s.port with inProgress := none, startup := .idle } } : State).resting →
    (∀ h a r rest, s.port.inProgress = some (.replayRecord a r) → s.port.startup = .writing h ((a, r) :: rest) →
      let wrote (op : PortOp) (startup : Startup) : State :=
        { s with memory := writeUnit s.memory (32 + 32 * a) (recordBytes a r),
                 port := { s.port with inProgress := some op, startup := startup } }
      (rest = [] →
        exec .replayRecordWrite s = .next
          (wrote (.startupHeaderWrite { h with
              journal := .empty, count := 0, lastPosted := if h.journal = .bookReady then h.book else h.lastPosted })
            (.closing h .replayed))) ∧
      (∀ b x more, rest = (b, x) :: more →
        exec .replayRecordWrite s = .next (wrote (.replayRecord b x) (.writing h rest)))) ∧
    (∀ written h outcome, s.port.inProgress = some (.startupHeaderWrite written) →
      s.port.startup = .closing h outcome →
      let book : Option Nat := if h.journal = .bookReady then h.book else none
      exec .startupHeaderWrite s = .next
        { s with
          memory := writeUnit s.memory 0 (headerBytes 0x3D6A written)
          port := { state := .ready, header := some written, inProgress := none, startup := .idle }
          attention := s.attention.raise
            (match outcome with
             | .replayed => .journalReplayed h.journal book h.count
             | .lost place => .journalLost h.journal book h.count place) })

/-- INIT_HEADER_WRITE, INIT_RECORD_WRITE and INIT_HEADER_READBACK (R130, R131, R135): the header with a zero marker, the
196 fresh records in order, the header with the engine's marker, the header copy following both writes, and its
read-back, which makes the memory READY and the command DONE when it is good, and else leaves the memory NOT_READY, the
copy empty and the command CUT NOT_READY. Stated for units otherwise at rest. The other fields of the first header, and
the copy after a bad read-back, are the model's choice (log 18). -/
def Obligations.InitWritesTheWholeAccountMemory : Prop :=
  ∀ (s : State) (tag code : Byte) (returned : Option (List Byte)),
    ({ s with port := { s.port with inProgress := none } } : State).resting →
    let wrote (place : Nat) (bytes : List Byte) : State :=
      { s with memory := writeUnit s.memory place bytes, port := { s.port with inProgress := none } }
    let runs (run : Run) : Prop := s.link.executing = some { tag := tag, code := code, run := run }
    let empty : Header := { lastPosted := none, journal := .empty, book := none, count := 0 }
    let headed (marker : Nat) : State :=
      { wrote 0 (headerBytes marker empty) with port := { s.port with inProgress := none, header := some empty } }
    let fresh : AccountRecord :=
      { balance := 0, baseExport := 0, baseImport := 0, baseMinute := none, rebasePending := false, standing := .current,
        lastPosted := none }
    (runs .initHeader → s.port.inProgress = some (.initHeader false) →
      exec .initHeaderWrite s = .next
        (((headed 0).executing tag code (.initRecords 0)).onPort (.initRecord 0))) ∧
    (∀ a, runs (.initRecords a) → s.port.inProgress = some (.initRecord a) →
      (a < 195 →
        exec .initRecordWrite s = .next
          (((wrote (32 + 32 * a) (recordBytes a fresh)).executing tag code (.initRecords (a + 1))).onPort
            (.initRecord (a + 1)))) ∧
      (a = 195 →
        exec .initRecordWrite s = .next
          (((wrote (32 + 32 * a) (recordBytes a fresh)).executing tag code .initFinal).onPort (.initHeader true)))) ∧
    (runs .initFinal → s.port.inProgress = some (.initHeader true) →
      exec .initHeaderWrite s = .next
        (((headed 0x3D6A).executing tag code .initReadback).onPort .initReadback)) ∧
    (runs .initReadback → s.port.inProgress = some .initReadback →
      (∀ h, headerOf (returned.getD (readBytes s.memory 0 16)) = some h →
        exec (.initHeaderReadback returned) s = .next
          (({ s with port := { s.port with state := .ready, header := some h, inProgress := none } } : State).answered
            tag code .done 0 [])) ∧
      (headerOf (returned.getD (readBytes s.memory 0 16)) = none →
        exec (.initHeaderReadback returned) s = .next
          (({ s with port := { s.port with header := none, inProgress := none } } : State).answered tag code .cut 8 [])))

/-! ### What every step keeps -/

/-- Every step keeps account memory in canonical form. -/
def Obligations.EveryStepKeepsMemoryCanonical : Prop :=
  ∀ s t : State, s.memoryCanonical → step s = .next t → t.memoryCanonical

/-- Whatever the command or event, a byte of account memory outside the 32 bytes of the place that the operation in
progress on the port writes reads as before (R118, R129, R138, R139, R143): nothing writes account memory but the
completion of a write granted, and a hardware reset that cuts one off. -/
def Obligations.OnlyTheOperationInProgressWritesMemory : Prop :=
  ∀ (c : Instr) (s t : State) (a : Nat), s.memoryCanonical → exec c s = .next t →
    (∀ o place, s.port.inProgress = some o → o.place = some place → a < place ∨ place + 32 ≤ a) →
    readByte t.memory a = readByte s.memory a

/-- Every step keeps the Attention List at 16 items or fewer, no two of one kind and object (R172), and the capacities
of the outbound queue (4 frames, R170), the command buffers (two frames, none waiting that could execute, R164), the
Book List (8 records, R77) and each Directed Queue (16 entries, R149); and raising an event changes the list as R172
says in each of its three cases. -/
def Obligations.EveryStepKeepsTheAttentionListSound : Prop :=
  (∀ s t : State, s.attention.sound → step s = .next t → t.attention.sound) ∧
  (∀ s t : State, s.bounded → step s = .next t → t.bounded) ∧
  (∀ (l : AttentionList) (e : Attention),
    (∀ before i after, l.items = before ++ i :: after → i.event.kind = e.kind → i.event.object = e.object →
      (∀ x ∈ before, ¬(x.event.kind = e.kind ∧ x.event.object = e.object)) →
      l.raise e = { l with items := before ++ { event := e, repeats := min 255 (i.repeats + 1) } :: after }) ∧
    ((∀ x ∈ l.items, ¬(x.event.kind = e.kind ∧ x.event.object = e.object)) →
      (l.items.length < 16 → l.raise e = { l with items := l.items ++ [{ event := e, repeats := 1 }] }) ∧
      (16 ≤ l.items.length → l.raise e = { l with overflow := true })))

/-! ### The settlement arithmetic -/

/-- The local price (R97): L is F plus the floor of (B − F) × σ / 256, between F and B, equal to F when σ is 0 or B
equals F and to B when σ is 256; every book that enters SETTLING captures it with B, F, σ and φ; in every book's rows
buyers pay L + φ, at most 1,099,998 mc per kWh, for local energy and B for the rest, each amount rounded up (R98),
sellers are paid L and F, each rounded down (R99), and NEITHER nothing; and the book's STATEMENT reports it. -/
def Obligations.TheLocalPriceLiesBetweenTheBandsPrices : Prop :=
  (∀ grid feed share, feed ≤ grid → share ≤ 256 →
    localPrice grid feed share = feed + (grid - feed) * share / 256 ∧
    feed ≤ localPrice grid feed share ∧ localPrice grid feed share ≤ grid ∧
    (share = 0 ∨ grid = feed → localPrice grid feed share = feed) ∧
    (share = 256 → localPrice grid feed share = grid)) ∧
  (∀ b : Band, bandInRange b = true → b.feedPrice ≤ b.gridPrice →
    localPrice b.gridPrice b.feedPrice b.share + b.fee ≤ 1099998) ∧
  (∀ (s : State) (b : Book) (i : Nat) (band : Band), s.active.bandFor s.clock.weekday b.start = some (i, band) →
    ∀ x ∈ (s.enterSettling b).books, x.start = b.start →
      x.capture = some { band := i, gridPrice := band.gridPrice, feedPrice := band.feedPrice, share := band.share,
                         fee := band.fee, localPrice := localPrice band.gridPrice band.feedPrice band.share }) ∧
  (let priced (k : Capture) (r : MemberRow) : Prop :=
     (r.group = .buyer →
       r.localAmount = (r.localShare * (k.localPrice + k.fee) + 999) / 1000 ∧
       r.gridAmount = (r.gridPart * k.gridPrice + 999) / 1000) ∧
     (r.group = .seller →
       r.localAmount = r.localShare * k.localPrice / 1000 ∧ r.gridAmount = r.gridPart * k.feedPrice / 1000)
   (∀ (k : Capture) (s d : Nat) (sellers buyers : List (Nat × Nat)) (r : MemberRow),
     (allocate k s d sellers buyers r).group = r.group ∧ priced k (allocate k s d sellers buyers r)) ∧
   (∀ (t : TableSet) (b : Book) (k : Capture) (c : Copies), ∀ r ∈ settleRows t b k c,
     priced k r ∧ (r.group = .neither → r.localAmount = 0 ∧ r.gridAmount = 0))) ∧
  (∀ (b : Book) (k : Capture), b.capture = some k →
    ∃ front back : List Byte, front.length = 23 ∧ statementBody b = front ++ be 3 k.localPrice ++ back)

/-- The division of the local match in the sharing group (R95), for own amounts by index: shares of 0 when M is 0; else
the floors, and one more for the first R members by descending remainder and ascending index; the shares then sum to M,
none is above its own amount, R is below the number of members and the remainders sum to R × X. In every book the
sharing group divides so: the buyers by their purchases where S is at most D, else the sellers by their sales. -/
def Obligations.TheSharingGroupDividesTheLocalMatch : Prop :=
  (∀ (m : Nat) (group : List (Nat × Nat)), (group.map Prod.fst).Nodup → (∀ g ∈ group, 0 < g.2) →
    let total := (group.map Prod.snd).sum
    let share (g : Nat × Nat) : Nat := shareOf m total group g.1 g.2
    let remainder (g : Nat × Nat) : Nat := m * g.2 % total
    let shortfall : Nat := m - (group.map fun g => m * g.2 / total).sum
    let before (g : Nat × Nat) : Nat :=
      (group.filter fun x => remainder g < remainder x ∨ (remainder x = remainder g ∧ x.1 < g.1)).length
    (m = 0 → ∀ g ∈ group, share g = 0) ∧
    (m ≠ 0 → ∀ g ∈ group, share g = m * g.2 / total + (if before g < shortfall then 1 else 0)) ∧
    (group ≠ [] → m ≤ total →
      shortfall < group.length ∧ (group.map share).sum = m ∧ (group.map remainder).sum = shortfall * total ∧
      ∀ g ∈ group, share g ≤ g.2 ∧ (before g < shortfall → 0 < remainder g ∧ m * g.2 / total < g.2))) ∧
  ∀ (t : TableSet) (b : Book) (k : Capture) (c : Copies),
    let rows := settleRows t b k c
    let s : Nat := (rows.map MemberRow.sale).sum
    let d : Nat := (rows.map MemberRow.purchase).sum
    let sellers := (rows.filter fun r => r.group == .seller).map fun r => (r.index, r.sale)
    let buyers := (rows.filter fun r => r.group == .buyer).map fun r => (r.index, r.purchase)
    ∀ r ∈ rows,
      (r.group = .buyer → s ≤ d → r.localShare = shareOf s d buyers r.index r.purchase) ∧
      (r.group = .seller → d < s → r.localShare = shareOf d s sellers r.index r.sale)

/-- Grid parts (R96): in every book's rows the local shares of the buyers sum to M and so do the sellers', no share is
above its member's own net amount, the grid part is the rest, 0 for the keeping group and for NEITHER, and the grid
parts sum to D − M and S − M, one of which is 0. The rows are the members', each with its treatment (R32), deltas held
to the ceiling's allowance (R34, R35), new baseline (R33, R36), net amounts and group (R92), whatever the allocation; and
the totals of the work record sum them (R93), with the loss of the grid-tie meter or UNKNOWN (R102). -/
def Obligations.LocalEnergyBalancesInEveryBook : Prop :=
  (∀ (t : TableSet) (b : Book) (k : Capture) (c : Copies), (b.members.map Member.index).Nodup →
    let rows := settleRows t b k c
    let s : Nat := (rows.map MemberRow.sale).sum
    let d : Nat := (rows.map MemberRow.purchase).sum
    let m : Nat := min s d
    let across (g : Group) (f : MemberRow → Nat) : Nat := ((rows.filter fun r => r.group == g).map f).sum
    across .buyer MemberRow.localShare = m ∧ across .seller MemberRow.localShare = m ∧
    across .buyer MemberRow.gridPart = d - m ∧ across .seller MemberRow.gridPart = s - m ∧ (d - m = 0 ∨ s - m = 0) ∧
    ∀ r ∈ rows,
      (r.group = .neither → r.localShare = 0 ∧ r.gridPart = 0) ∧
      (r.group = .buyer → r.localShare ≤ r.purchase ∧ r.gridPart = r.purchase - r.localShare ∧ (d < s → r.gridPart = 0)) ∧
      (r.group = .seller → r.localShare ≤ r.sale ∧ r.gridPart = r.sale - r.localShare ∧ (s ≤ d → r.gridPart = 0))) ∧
  (∀ (t : TableSet) (b : Book) (k : Capture) (c : Copies),
    (settleRows t b k c).map (fun r => { r with localShare := 0, gridPart := 0, localAmount := 0, gridAmount := 0 }) =
      b.members.map (memberRow t b c)) ∧
  (∀ (t : TableSet) (b : Book) (c : Copies) (m : Member),
    let row := memberRow t b c m
    let e := t.entry m.index
    let takes (baseline : Option NewBaseline) : Prop :=
      row.exportDelta = 0 ∧ row.importDelta = 0 ∧ row.clamped = none ∧ row.baseline = baseline ∧ row.sale = 0 ∧
      row.purchase = 0 ∧ row.group = .neither
    row.index = m.index ∧ row.kind = e.kind ∧
    (m.snapshot = none → row.treatment = .missing ∧ takes none) ∧
    (∀ x, m.snapshot = some x → (∀ r, c.lookup m.index ≠ some (some r)) → row.treatment = .excluded ∧ takes none) ∧
    (∀ x r, m.snapshot = some x → c.lookup m.index = some (some r) →
      let baseline (minute : Nat) : Option NewBaseline :=
        some { exported := x.exported, imported := x.imported, minute := minute, clears := true }
      (r.baseMinute = none → row.treatment = .rebased ∧ takes (baseline b.close)) ∧
      (∀ base, r.baseMinute = some base → r.rebasePending = true →
        row.treatment = .rebased ∧ takes (baseline (max base b.close))) ∧
      (∀ base, r.baseMinute = some base → r.rebasePending = false →
        let minutes : Nat := if base < b.close then b.close - base else b.close - b.start
        let allowance : Nat := min 16777215 (e.ceiling * minutes / 60)
        let raw (now old : Counter) : Nat := (now.toNat + 4294967296 - old.toNat) % 4294967296
        let rawE := raw x.exported r.baseExport
        let rawI := raw x.imported r.baseImport
        let settles : Bool := e.status != .suspended && (e.kind == .household || e.kind == .store)
        row.treatment = (if e.status = .suspended then .suspended else .settled) ∧
        row.exportDelta = min rawE allowance ∧ row.importDelta = min rawI allowance ∧
        row.clamped = (if allowance < rawE ∨ allowance < rawI then some (rawE, rawI, allowance) else none) ∧
        row.baseline = baseline (max base b.close) ∧
        row.sale = (if settles then row.exportDelta - row.importDelta else 0) ∧
        row.purchase = (if settles then row.importDelta - row.exportDelta else 0) ∧
        row.group = (if 0 < row.sale then .seller else if 0 < row.purchase then .buyer else .neither)))) ∧
  (∀ rows : List MemberRow,
    let t := totalsOf rows
    let suspended := rows.filter fun r => r.treatment == .suspended && (r.kind == .household || r.kind == .store)
    t.totalSale = (rows.map MemberRow.sale).sum ∧ t.totalPurchase = (rows.map MemberRow.purchase).sum ∧
    t.localMatch = min t.totalSale t.totalPurchase ∧
    t.excludedExport = (suspended.map MemberRow.exportDelta).sum ∧
    t.excludedImport = (suspended.map MemberRow.importDelta).sum ∧
    ((∀ r ∈ rows, r.kind ≠ .gridTie) → t.grid = none) ∧
    (∀ before r after, rows = before ++ r :: after → (∀ x ∈ before, x.kind ≠ .gridTie) → r.kind = .gridTie →
      (r.treatment = .settled ∨ r.treatment = .suspended →
        t.grid = some { gridImport := r.importDelta, gridExport := r.exportDelta,
                        loss := ((r.importDelta : Int) - r.exportDelta) - ((t.totalPurchase : Int) - t.totalSale) }) ∧
      (r.treatment ≠ .settled → r.treatment ≠ .suspended → t.grid = none)))

/-- The money totals (R101): whatever stage 7 ends in, the book record takes the four totals and the residue, and over
the book GRID's balance changes by its debits less its credits and FUND's by the residue, which over every book's rows
is the exact fee and less than 1 mc more for each trader (R100). Before it, a BUYER's local and grid amounts are aimed
as debits, a SELLER's as credits, at the member's own account, an amount of 0 nowhere (log 37; the order is log 17); a
walk that has reached a DAMAGED record lands its amount on SUSPENSE with REDIRECT_TO_SUSPENSE, follows a link whose
scope covers its direction, and else lands where it is (R112, R113). The change list then has the items with a net
other than 0 or a new baseline, in ascending account number (R103); and the book is HELD for the lowest damaged system
account (R104), else for the lowest new balance out of range (R105), and else enters POSTING with one record image for
each item, made from the record read (R106, R116). The CACHE_FILL that brings the last record of R91, or one that a
walk waited for, does all of this in one event: CLAMPED is raised in index order (R35; log 17), and every step of every
walk, its start too, reads through the cache: a hit moves its line in the use order and is  copied where no whole copy
is held, a miss has its fill granted (its victim: log 16) and the walk waits; at its start,  the aimed participant, a
walk goes by the whole copy that settled it even when the line is now DAMAGED (log 50). When all  have ended the book
is HELD, or POSTING with its first journal entry, or without items its header, granted. Stated for  walks of up to 4
links, and units otherwise at rest. -/
def Obligations.MoneyTotalsAreWrittenWhateverTheOutcome : Prop :=
  (∀ (s : State) (w : Work) (b : Book), s.book b.start = some b →
    let across (g : Group) (f : MemberRow → Nat) : Nat := ((w.rows.filter fun r => r.group == g).map f).sum
    let f := w.figures
    f.localDebits = across .buyer MemberRow.localAmount ∧ f.localCredits = across .seller MemberRow.localAmount ∧
    f.gridDebits = across .buyer MemberRow.gridAmount ∧ f.gridCredits = across .seller MemberRow.gridAmount ∧
    f.residue = f.localDebits - f.localCredits ∧
    (∃ x, (s.finishSettling w b).book b.start = some x ∧ x.figures = some f ∧ (x.state = .held ∨ x.state = .posting)) ∧
    ((∀ l ∈ w.landed, l.1 ≠ 193 ∧ l.1 ≠ 194) →
      netOn (w.landed ++ systemLandings f) 194 = (f.gridDebits : Int) - f.gridCredits ∧
      netOn (w.landed ++ systemLandings f) 193 = f.residue)) ∧
  (∀ (w : Work) (t : Totals), w.totals = some t →
    w.figures.totalSale = t.totalSale ∧ w.figures.totalPurchase = t.totalPurchase ∧ w.figures.localMatch = t.localMatch ∧
    w.figures.excludedExport = t.excludedExport ∧ w.figures.excludedImport = t.excludedImport ∧
    w.figures.grid = t.grid) ∧
  (∀ (s : State) (w : Work) (a : Aim) (rest : List Aim),
    let amount : Int := match a.direction with | .debit => -(a.amount : Int) | .credit => a.amount
    let lands (account : Nat) : State :=
      { s with work := some { w with aims := rest, landed := (account, amount) :: w.landed } }
    let covers (r : Redirect) : Prop :=
      r.scope = .all ∨ (r.scope = .debits ∧ a.direction = .debit) ∨ (r.scope = .credits ∧ a.direction = .credit)
    s.walkOn w a rest none =
      { lands 195 with
        attention := s.attention.raise (.redirectToSuspense a.participant w.book a.reached a.direction) } ∧
    (∀ x r, a.reached < 192 → (s.active.entry a.reached).redirect = some r → covers r →
      s.walkOn w a rest (some x) = { s with work := some { w with aims := { a with reached := r.target } :: rest } }) ∧
    (∀ x, (∀ r, (s.active.entry a.reached).redirect = some r → ¬covers r) →
      s.walkOn w a rest (some x) = lands a.reached)) ∧
  (∀ (c : Copies) (rows : List MemberRow) (landed : List (Nat × Int)), (rows.map MemberRow.index).Nodup →
    let list := changeList c rows landed
    let net (a : Nat) : Int := ((landed.filter fun l => l.1 == a).map fun l => l.2).sum
    (list.map ChangeItem.account).Pairwise (fun a b => a < b) ∧
    (∀ a, a < 196 → ((∃ i ∈ list, i.account = a) ↔
      net a ≠ 0 ∨ ∃ r ∈ rows, r.index = a ∧ r.baseline ≠ none)) ∧
    ∀ i ∈ list, i.account < 196 ∧ i.net = net i.account ∧
      (∀ r ∈ rows, r.index = i.account → i.baseline = r.baseline) ∧
      (i.net = 0 → i.read = none ∧ i.balance = none) ∧
      (∀ x, i.net ≠ 0 → c.lookup i.account = some (some x) →
        i.read = some x.balance ∧ i.balance = some (x.balance + i.net))) ∧
  (∀ (s : State) (w : Work) (b : Book),
    let f := w.figures
    let changes := changeList w.copies w.rows (w.landed ++ systemLandings f)
    let good (a : Nat) : Prop := ∃ r, w.copies.lookup a = some (some r)
    let out (i : ChangeItem) : Bool := match i.balance with | some x => !balanceInRange x | none => false
    let held (reason : HoldReason) (account : Nat) : State :=
      { s with
        books := s.books.map fun x =>
          if x.start = b.start then { x with state := .held, holdReason := some reason, figures := some f } else x
        work := none
        attention := s.attention.raise (.bookHeld b.start reason account) }
    (∀ a, 192 ≤ a → a ≤ 195 → ¬good a → (∀ x, 192 ≤ x → x < a → good x) →
      s.finishSettling w b = held .systemDamaged a) ∧
    ((∀ x, 192 ≤ x → x ≤ 195 → good x) →
      (∀ before i after, changes = before ++ i :: after → (∀ x ∈ before, out x = false) → out i = true →
        s.finishSettling w b = held .range i.account) ∧
      ((∀ i ∈ changes, out i = false) →
        ∃ images : List Image,
          s.finishSettling w b =
            { s with
              books := s.books.map fun x =>
                if x.start = b.start then { x with state := .posting, figures := some f } else x
              work := some { w with stage := .done, changes := changes }
              posting := { phase := .journal, book := some b.start, cursor := 0, images := images, durable := false,
                           recheck := s.posting.recheck } } ∧
          images.length = changes.length ∧
          ∀ (n : Nat) (i : ChangeItem) (r : AccountRecord), changes[n]? = some i →
            w.copies.lookup i.account = some (some r) →
            images[n]? = some
              { account := i.account, changes := i.balance.isSome, was := r.standing
                record :=
                  { balance := i.balance.getD r.balance
                    baseExport := match i.baseline with | some x => x.exported | none => r.baseExport
                    baseImport := match i.baseline with | some x => x.imported | none => r.baseImport
                    baseMinute := match i.baseline with | some x => some x.minute | none => r.baseMinute
                    rebasePending := match i.baseline with
                      | some x => if x.clears then false else r.rebasePending
                      | none => r.rebasePending
                    standing := match i.balance with
                      | some x =>
                        if i.account < 192 ∧ (s.active.entry i.account).kind ≠ .vacant ∧
                            x < (s.active.entry i.account).creditFloor then .arrears
                        else .current
                      | none => r.standing
                    lastPosted := some b.start } }))) ∧
  (∀ (t : TableSet) (b : Book) (k : Capture) (c : Copies), (b.members.map Member.index).Nodup →
    let rows := settleRows t b k c
    let f := figuresFrom (totalsOf rows) rows
    let traders := rows.filter fun r => r.group == .buyer || r.group == .seller
    f.localCredits ≤ f.localDebits ∧ f.localMatch * k.fee ≤ 1000 * f.residue ∧
    1000 * f.residue ≤ f.localMatch * k.fee + 999 * traders.length) ∧
  (∀ r : MemberRow,
    let aims (d : Direction) : List Aim :=
      ([r.localAmount, r.gridAmount].filter fun x => decide (0 < x)).map fun x =>
        { participant := r.index, direction := d, amount := x, reached := r.index }
    (r.group = .buyer → aimsOf r = aims .debit) ∧ (r.group = .seller → aimsOf r = aims .credit) ∧
    (r.group = .neither → aimsOf r = [])) ∧
  (∀ (s : State) (w : Work) (b : Book) (k : Capture) (a line : Nat) (victim : Option (Nat × AccountRecord))
      (returned : Option (List Byte)),
    line < 32 → s.cache.find a = none → s.port.inProgress = some (.fill .settlement a line victim) →
    s.port.state = .ready → s.commandDone = true → s.work = some w →
    s.books.find? (fun x => x.start == w.book) = some b → b.state = .settling → b.capture = some k →
    s.books.find? (fun x => x.state != .posted && x.state != .discarded) = some b →
    ({ s with work := none, books := [], port := { s.port with inProgress := none } } : State).resting →
    let memory : List Host.Cell :=
      match victim with
      | none => s.memory
      | some v => writeUnit s.memory (32 + 32 * v.1) (recordBytes v.1 v.2)
    let read : Option AccountRecord := recordOf a (returned.getD (readBytes memory (32 + 32 * a) 28))
    let filled : State :=
      { s with memory := memory, port := { s.port with inProgress := none }, cache := s.cache.fill line a read
               attention := if read.isNone then s.attention.raise (.damaged a .settlement) else s.attention }
    let copies : Copies := (a, read) :: w.copies
    let covers (r : Redirect) (d : Direction) : Prop :=
      r.scope = .all ∨ (r.scope = .debits ∧ d = .debit) ∨ (r.scope = .credits ∧ d = .credit)
    let follows (x : Aim) (i j : Nat) : Prop :=
      i < 192 ∧ ∃ r, (s.active.entry i).redirect = some r ∧ covers r x.direction ∧ r.target = j
    let stays (x : Aim) (i : Nat) : Prop := ∀ r, (s.active.entry i).redirect = some r → ¬covers r x.direction
    let goesOn (w' : Work) (u : State) : Prop :=
      let hit (c : Nat) : Option (Nat × Option AccountRecord) :=
        match u.cache.lookup c with | .good line r => some (line, some r) | .damaged line => some (line, none) | .miss => none
      let whole (x : Aim) (c : Nat) : Bool :=
        match hit c with
        | some (_, some _) => true
        | some (_, none) => c == x.participant && match w'.copies.lookup c with | some (some _) => true | _ => false
        | none => false
      let cacheAfter (read : List Nat) : Cache :=
        read.foldl (fun k c => match hit c with | some y => k.touch y.1 | none => k) u.cache
      let copiesAfter (read : List Nat) : Copies :=
        read.foldl (fun cs c =>
          match cs.lookup c, hit c with | some (some _), _ => cs | _, some y => (c, y.2) :: cs | _, none => cs) w'.copies
      let reaches (x : Aim) (chain : List Nat) (i : Nat) : Prop :=
        chain.length ≤ 4 ∧ (chain ++ [i]).head? = some x.reached ∧ (∀ c ∈ chain, whole x c = true) ∧
        ∀ n c d, (chain ++ [i])[n]? = some c → (chain ++ [i])[n + 1]? = some d → follows x c d
      let landings (last : Aim → Nat) (aims : List Aim) : List (Nat × Int) :=
        (aims.map fun x =>
          (if whole x (last x) then last x else 195,
            match x.direction with | .debit => -(x.amount : Int) | .credit => x.amount)).reverse
      let walked (last : Aim → Nat) (aims : List Aim) : AttentionList :=
        (aims.filterMap fun x =>
          if whole x (last x) then none
          else some (.redirectToSuspense x.participant w.book (last x) x.direction)).foldl AttentionList.raise u.attention
      w'.aims.length ≤ 384 → ∀ (chain : Aim → List Nat) (last : Aim → Nat),
        let reads (aims : List Aim) : List Nat := aims.flatMap fun x => chain x ++ [last x]
        let ends (x : Aim) : Prop :=
          reaches x (chain x) (last x) ∧ hit (last x) ≠ none ∧ (whole x (last x) = true → stays x (last x))
        (∀ before x after part i free, w'.aims = before ++ x :: after → (∀ y ∈ before, ends y) →
          reaches x part i → u.cache.lookup i = .miss →
          let read := reads before ++ part
          (cacheAfter read).victim none = some free →
          exec (.cacheFill returned) s = .next
            (({ u with
                attention := walked last before, cache := (cacheAfter read).drop free
                work := some { w' with copies := copiesAfter read, aims := { x with reached := i } :: after,
                                       landed := landings last before ++ w'.landed } } : State).onPort
              (.fill .settlement i free (dirtyRecord ((cacheAfter read).line free))))) ∧
        ((∀ x ∈ w'.aims, ends x) →
          let read := reads w'.aims
          let settled : Work :=
            { w' with copies := copiesAfter read, aims := [], landed := landings last w'.aims ++ w'.landed }
          let t : State :=
            ({ u with attention := walked last w'.aims, cache := cacheAfter read, work := some settled } :
              State).finishSettling settled b
          (t.work = none → exec (.cacheFill returned) s = .next t) ∧
          (∀ first more, t.work ≠ none → t.posting.images = first :: more →
            exec (.cacheFill returned) s = .next (t.onPort (.journalEntry .posting 0 first))) ∧
          (∀ copy, t.work ≠ none → t.posting.images = [] → s.port.header = some copy →
            exec (.cacheFill returned) s = .next
              (({ t with posting := { t.posting with phase := .apply } } : State).onPort
                (.journalHeader .posting { copy with journal := .bookReady, book := some b.start, count := 0 }))))
    (w.stage = .reading → w.toRead = [a] →
      let rows := settleRows s.active b k copies
      goesOn
        { w with copies := copies, toRead := [], stage := .walking, rows := rows, totals := some (totalsOf rows)
                 aims := rows.flatMap aimsOf }
        { filled with
          attention := (rows.filterMap fun r => r.clamped.map fun x => Attention.clamped r.index x.1 x.2.1 x.2.2).foldl
            AttentionList.raise filled.attention }) ∧
    (w.stage = .walking → goesOn w filled))
end

