-- ==== Sys2Proof/Laws/Cache.lean ====
section
/-! SUPPORT. Laws of the account cache (R136 to R141) and of the Attention List (R172). -/

namespace Sys2Proof.Machine

/-! ### Lines -/

theorem Cache.line_set (c : Cache) (i j : Nat) (l : Option CacheLine) (hi : i < 32) :
    (c.set i l).line j = if j = i then l else c.line j := by
  simp only [Cache.line, Cache.set, Vector.getElem?_setIfInBounds]
  by_cases h : i = j
  · subst h; simp [hi]
  · simp [h, Ne.symm h]

@[simp] theorem Cache.line_touch (c : Cache) (i j : Nat) : (c.touch i).line j = c.line j := rfl

theorem Cache.line_drop (c : Cache) (i j : Nat) (hi : i < 32) :
    (c.drop i).line j = if j = i then none else c.line j := Cache.line_set c i j none hi

theorem Cache.line_fill (c : Cache) (i j account : Nat) (r : Option AccountRecord) (hi : i < 32) :
    (c.fill i account r).line j =
      if j = i then some { tag := account, record := r, dirty := false, locked := false } else c.line j :=
  Cache.line_set c i j _ hi

/-- A line never used and one touched stand once in the use order. -/
@[simp] theorem Cache.touch_fill (c : Cache) (i account : Nat) (r : Option AccountRecord) :
    (c.fill i account r).touch i = c.fill i account r := by
  simp [Cache.fill, Cache.touch, Cache.set, List.filter_filter]

theorem Cache.isDirty_fill (c : Cache) (i account : Nat) (r : Option AccountRecord) (hi : i < 32) :
    (c.fill i account r).isDirty i = false := by
  simp [Cache.isDirty, Cache.line_fill, hi]

theorem Cache.isDirty_place (c : Cache) (i : Nat) (image : Image) (hi : i < 32) :
    (c.place i image).isDirty i = true := by
  simp [Cache.isDirty, Cache.place, Cache.line_set, hi]

theorem Cache.isDirty_clean (c : Cache) (i : Nat) (hi : i < 32) : (c.clean i).isDirty i = false := by
  unfold Cache.clean Cache.isDirty
  cases h : c.line i with
  | none => simp [h]
  | some l => simp [Cache.line_set, hi]

theorem Cache.isLocked_setLock (c : Cache) (i : Nat) (locked : Bool) (hi : i < 32) (hl : (c.line i).isSome) :
    (c.setLock i locked).isLocked i = locked := by
  unfold Cache.setLock Cache.isLocked
  cases h : c.line i with
  | none => simp [h] at hl
  | some l => simp [Cache.line_set, hi]

theorem Cache.isLocked_unlockAll (c : Cache) (i : Nat) : c.unlockAll.isLocked i = false := by
  simp only [Cache.isLocked, Cache.line, Cache.unlockAll, Vector.getElem?_map]
  cases c.lines[i]? with
  | none => rfl
  | some l => cases l <;> rfl

/-! ### Which line holds an account -/

theorem Cache.find_fill (c : Cache) (i account : Nat) (r : Option AccountRecord) (hi : i < 32)
    (miss : c.find account = none) : (c.fill i account r).find account = some i := by
  simp only [Cache.find, Cache.fill, Cache.touch, Cache.set] at *
  rw [List.findIdx?_eq_none_iff] at miss
  rw [List.findIdx?_eq_some_iff_getElem]
  refine ⟨by simpa using hi, by simp, fun j hj => ?_⟩
  have := miss (c.lines[j]) (by simp)
  simpa [Nat.ne_of_gt hj] using this

/-- What a reader meets once the fill it waited for has come (R137). -/
theorem Cache.lookup_fill (c : Cache) (i account : Nat) (r : Option AccountRecord) (hi : i < 32)
    (miss : c.find account = none) :
    (c.fill i account r).lookup account = match r with | some x => .good i x | none => .damaged i := by
  simp only [Cache.lookup, Cache.find_fill c i account r hi miss, Cache.line_fill c i i account r hi, if_true]
  cases r <;> rfl

/-- A line that `find` names holds the account. -/
theorem Cache.line_of_find {c : Cache} {account i : Nat} (h : c.find account = some i) :
    ∃ l, c.line i = some l ∧ l.tag = account := by
  rw [Cache.find, List.findIdx?_eq_some_iff_getElem] at h
  obtain ⟨hi, hl, -⟩ := h
  have hi' : i < 32 := by simpa using hi
  simp only [Cache.line, Vector.getElem?_eq_getElem hi', Option.join_some]
  simp only [Vector.getElem_toList] at hl
  cases h : c.lines[i] with
  | none => simp [h] at hl
  | some l => exact ⟨l, rfl, by simpa [h] using hl⟩

/-- A miss is exactly that no line holds the account. -/
theorem Cache.lookup_eq_miss {c : Cache} {account : Nat} : c.lookup account = .miss ↔ c.find account = none := by
  unfold Cache.lookup
  cases h : c.find account with
  | none => simp
  | some i =>
    obtain ⟨l, hl, -⟩ := Cache.line_of_find h
    simp only [hl]
    obtain ⟨t, r, d, k⟩ := l
    cases r <;> simp

/-- A good answer names the line that holds the account and its record. -/
theorem Cache.line_of_good {c : Cache} {account i : Nat} {r : AccountRecord} (h : c.lookup account = .good i r) :
    ∃ l, c.line i = some l ∧ l.tag = account ∧ l.record = some r := by
  unfold Cache.lookup at h
  cases hf : c.find account with
  | none => simp [hf] at h
  | some j =>
    obtain ⟨l, hl, ht⟩ := Cache.line_of_find hf
    simp only [hf, hl] at h
    obtain ⟨t, x, d, k⟩ := l
    cases x with
    | none => simp at h
    | some x =>
      simp only [Lookup.good.injEq] at h
      obtain ⟨rfl, rfl⟩ := h
      exact ⟨_, hl, ht, rfl⟩

/-! ### The Attention List -/

theorem coalesce_length (e : Attention) (l : List AttentionItem) : (coalesce e l).length = l.length := by
  induction l with
  | nil => rfl
  | cons i rest ih => simp only [coalesce]; split <;> simp [ih]

/-- Two events match exactly when their kinds and objects are the same. -/
theorem Attention.matches_iff (a b : Attention) : a.matches b = true ↔ a.kind = b.kind ∧ a.object = b.object := by
  simp [Attention.matches]

theorem AttentionList.holds_iff (l : AttentionList) (e : Attention) :
    l.holds e = true ↔ ∃ i ∈ l.items, i.event.kind = e.kind ∧ i.event.object = e.object := by
  simp [AttentionList.holds, Attention.matches_iff]

end Sys2Proof.Machine
end

