-- ==== Sys2Proof/Laws/State.lean ====
section
/-! SUPPORT. What each small update of State leaves and makes of each field, true by unfolding, so that no proof unfolds a
record update. -/

namespace Sys2Proof.Machine

variable (s : State)

/-! ### `State.setPort` -/

@[simp] theorem State.setPort_engine (f : Feeder) (p : FeederPort) : (s.setPort f p).engine = s.engine := rfl
@[simp] theorem State.setPort_before (f : Feeder) (p : FeederPort) : (s.setPort f p).before = s.before := rfl
@[simp] theorem State.setPort_powerWarning (f : Feeder) (p : FeederPort) : (s.setPort f p).powerWarning = s.powerWarning := rfl
@[simp] theorem State.setPort_sequence (f : Feeder) (p : FeederPort) : (s.setPort f p).sequence = s.sequence := rfl
@[simp] theorem State.setPort_active (f : Feeder) (p : FeederPort) : (s.setPort f p).active = s.active := rfl
@[simp] theorem State.setPort_staged (f : Feeder) (p : FeederPort) : (s.setPort f p).staged = s.staged := rfl
@[simp] theorem State.setPort_live (f : Feeder) (p : FeederPort) : (s.setPort f p).live = s.live := rfl
@[simp] theorem State.setPort_ports (f : Feeder) (p : FeederPort) : (s.setPort f p).ports = s.ports.set f p := rfl
@[simp] theorem State.setPort_activation (f : Feeder) (p : FeederPort) : (s.setPort f p).activation = s.activation := rfl
@[simp] theorem State.setPort_clock (f : Feeder) (p : FeederPort) : (s.setPort f p).clock = s.clock := rfl
@[simp] theorem State.setPort_books (f : Feeder) (p : FeederPort) : (s.setPort f p).books = s.books := rfl
@[simp] theorem State.setPort_work (f : Feeder) (p : FeederPort) : (s.setPort f p).work = s.work := rfl
@[simp] theorem State.setPort_posting (f : Feeder) (p : FeederPort) : (s.setPort f p).posting = s.posting := rfl
@[simp] theorem State.setPort_memory (f : Feeder) (p : FeederPort) : (s.setPort f p).memory = s.memory := rfl
@[simp] theorem State.setPort_port (f : Feeder) (p : FeederPort) : (s.setPort f p).port = s.port := rfl
@[simp] theorem State.setPort_cache (f : Feeder) (p : FeederPort) : (s.setPort f p).cache = s.cache := rfl
@[simp] theorem State.setPort_link (f : Feeder) (p : FeederPort) : (s.setPort f p).link = s.link := rfl
@[simp] theorem State.setPort_attention (f : Feeder) (p : FeederPort) : (s.setPort f p).attention = s.attention := rfl
@[simp] theorem State.setPort_freeCount (f : Feeder) (p : FeederPort) : (s.setPort f p).freeCount = s.freeCount := rfl
@[simp] theorem State.setPort_pending (f : Feeder) (p : FeederPort) : (s.setPort f p).pending = s.pending := rfl

/-! ### `State.modifyPort` -/

@[simp] theorem State.modifyPort_engine (f : Feeder) (g : FeederPort → FeederPort) : (s.modifyPort f g).engine = s.engine := rfl
@[simp] theorem State.modifyPort_before (f : Feeder) (g : FeederPort → FeederPort) : (s.modifyPort f g).before = s.before := rfl
@[simp] theorem State.modifyPort_powerWarning (f : Feeder) (g : FeederPort → FeederPort) : (s.modifyPort f g).powerWarning = s.powerWarning := rfl
@[simp] theorem State.modifyPort_sequence (f : Feeder) (g : FeederPort → FeederPort) : (s.modifyPort f g).sequence = s.sequence := rfl
@[simp] theorem State.modifyPort_active (f : Feeder) (g : FeederPort → FeederPort) : (s.modifyPort f g).active = s.active := rfl
@[simp] theorem State.modifyPort_staged (f : Feeder) (g : FeederPort → FeederPort) : (s.modifyPort f g).staged = s.staged := rfl
@[simp] theorem State.modifyPort_live (f : Feeder) (g : FeederPort → FeederPort) : (s.modifyPort f g).live = s.live := rfl
@[simp] theorem State.modifyPort_ports (f : Feeder) (g : FeederPort → FeederPort) : (s.modifyPort f g).ports = s.ports.set f (g s.ports[f]) := rfl
@[simp] theorem State.modifyPort_activation (f : Feeder) (g : FeederPort → FeederPort) : (s.modifyPort f g).activation = s.activation := rfl
@[simp] theorem State.modifyPort_clock (f : Feeder) (g : FeederPort → FeederPort) : (s.modifyPort f g).clock = s.clock := rfl
@[simp] theorem State.modifyPort_books (f : Feeder) (g : FeederPort → FeederPort) : (s.modifyPort f g).books = s.books := rfl
@[simp] theorem State.modifyPort_work (f : Feeder) (g : FeederPort → FeederPort) : (s.modifyPort f g).work = s.work := rfl
@[simp] theorem State.modifyPort_posting (f : Feeder) (g : FeederPort → FeederPort) : (s.modifyPort f g).posting = s.posting := rfl
@[simp] theorem State.modifyPort_memory (f : Feeder) (g : FeederPort → FeederPort) : (s.modifyPort f g).memory = s.memory := rfl
@[simp] theorem State.modifyPort_port (f : Feeder) (g : FeederPort → FeederPort) : (s.modifyPort f g).port = s.port := rfl
@[simp] theorem State.modifyPort_cache (f : Feeder) (g : FeederPort → FeederPort) : (s.modifyPort f g).cache = s.cache := rfl
@[simp] theorem State.modifyPort_link (f : Feeder) (g : FeederPort → FeederPort) : (s.modifyPort f g).link = s.link := rfl
@[simp] theorem State.modifyPort_attention (f : Feeder) (g : FeederPort → FeederPort) : (s.modifyPort f g).attention = s.attention := rfl
@[simp] theorem State.modifyPort_freeCount (f : Feeder) (g : FeederPort → FeederPort) : (s.modifyPort f g).freeCount = s.freeCount := rfl
@[simp] theorem State.modifyPort_pending (f : Feeder) (g : FeederPort → FeederPort) : (s.modifyPort f g).pending = s.pending := rfl

/-! ### `State.setRound` -/

@[simp] theorem State.setRound_engine (f : Feeder) (r : Round) : (s.setRound f r).engine = s.engine := rfl
@[simp] theorem State.setRound_before (f : Feeder) (r : Round) : (s.setRound f r).before = s.before := rfl
@[simp] theorem State.setRound_powerWarning (f : Feeder) (r : Round) : (s.setRound f r).powerWarning = s.powerWarning := rfl
@[simp] theorem State.setRound_sequence (f : Feeder) (r : Round) : (s.setRound f r).sequence = s.sequence := rfl
@[simp] theorem State.setRound_active (f : Feeder) (r : Round) : (s.setRound f r).active = s.active := rfl
@[simp] theorem State.setRound_staged (f : Feeder) (r : Round) : (s.setRound f r).staged = s.staged := rfl
@[simp] theorem State.setRound_live (f : Feeder) (r : Round) : (s.setRound f r).live = s.live := rfl
@[simp] theorem State.setRound_ports (f : Feeder) (r : Round) : (s.setRound f r).ports = s.ports.set f { s.ports[f] with round := some r } := rfl
@[simp] theorem State.setRound_activation (f : Feeder) (r : Round) : (s.setRound f r).activation = s.activation := rfl
@[simp] theorem State.setRound_clock (f : Feeder) (r : Round) : (s.setRound f r).clock = s.clock := rfl
@[simp] theorem State.setRound_books (f : Feeder) (r : Round) : (s.setRound f r).books = s.books := rfl
@[simp] theorem State.setRound_work (f : Feeder) (r : Round) : (s.setRound f r).work = s.work := rfl
@[simp] theorem State.setRound_posting (f : Feeder) (r : Round) : (s.setRound f r).posting = s.posting := rfl
@[simp] theorem State.setRound_memory (f : Feeder) (r : Round) : (s.setRound f r).memory = s.memory := rfl
@[simp] theorem State.setRound_port (f : Feeder) (r : Round) : (s.setRound f r).port = s.port := rfl
@[simp] theorem State.setRound_cache (f : Feeder) (r : Round) : (s.setRound f r).cache = s.cache := rfl
@[simp] theorem State.setRound_link (f : Feeder) (r : Round) : (s.setRound f r).link = s.link := rfl
@[simp] theorem State.setRound_attention (f : Feeder) (r : Round) : (s.setRound f r).attention = s.attention := rfl
@[simp] theorem State.setRound_freeCount (f : Feeder) (r : Round) : (s.setRound f r).freeCount = s.freeCount := rfl
@[simp] theorem State.setRound_pending (f : Feeder) (r : Round) : (s.setRound f r).pending = s.pending := rfl

/-! ### `State.withdrawPrefetches` -/

@[simp] theorem State.withdrawPrefetches_engine : (s.withdrawPrefetches).engine = s.engine := rfl
@[simp] theorem State.withdrawPrefetches_before : (s.withdrawPrefetches).before = s.before := rfl
@[simp] theorem State.withdrawPrefetches_powerWarning : (s.withdrawPrefetches).powerWarning = s.powerWarning := rfl
@[simp] theorem State.withdrawPrefetches_sequence : (s.withdrawPrefetches).sequence = s.sequence := rfl
@[simp] theorem State.withdrawPrefetches_active : (s.withdrawPrefetches).active = s.active := rfl
@[simp] theorem State.withdrawPrefetches_staged : (s.withdrawPrefetches).staged = s.staged := rfl
@[simp] theorem State.withdrawPrefetches_live : (s.withdrawPrefetches).live = s.live := rfl
@[simp] theorem State.withdrawPrefetches_activation : (s.withdrawPrefetches).activation = s.activation := rfl
@[simp] theorem State.withdrawPrefetches_clock : (s.withdrawPrefetches).clock = s.clock := rfl
@[simp] theorem State.withdrawPrefetches_books : (s.withdrawPrefetches).books = s.books := rfl
@[simp] theorem State.withdrawPrefetches_work : (s.withdrawPrefetches).work = s.work := rfl
@[simp] theorem State.withdrawPrefetches_posting : (s.withdrawPrefetches).posting = s.posting := rfl
@[simp] theorem State.withdrawPrefetches_memory : (s.withdrawPrefetches).memory = s.memory := rfl
@[simp] theorem State.withdrawPrefetches_port : (s.withdrawPrefetches).port = s.port := rfl
@[simp] theorem State.withdrawPrefetches_cache : (s.withdrawPrefetches).cache = s.cache := rfl
@[simp] theorem State.withdrawPrefetches_link : (s.withdrawPrefetches).link = s.link := rfl
@[simp] theorem State.withdrawPrefetches_attention : (s.withdrawPrefetches).attention = s.attention := rfl
@[simp] theorem State.withdrawPrefetches_freeCount : (s.withdrawPrefetches).freeCount = s.freeCount := rfl
@[simp] theorem State.withdrawPrefetches_pending : (s.withdrawPrefetches).pending = s.pending := rfl

/-! ### `State.setLive` -/

@[simp] theorem State.setLive_engine (i : Nat) (l : LiveState) : (s.setLive i l).engine = s.engine := rfl
@[simp] theorem State.setLive_before (i : Nat) (l : LiveState) : (s.setLive i l).before = s.before := rfl
@[simp] theorem State.setLive_powerWarning (i : Nat) (l : LiveState) : (s.setLive i l).powerWarning = s.powerWarning := rfl
@[simp] theorem State.setLive_sequence (i : Nat) (l : LiveState) : (s.setLive i l).sequence = s.sequence := rfl
@[simp] theorem State.setLive_active (i : Nat) (l : LiveState) : (s.setLive i l).active = s.active := rfl
@[simp] theorem State.setLive_staged (i : Nat) (l : LiveState) : (s.setLive i l).staged = s.staged := rfl
@[simp] theorem State.setLive_live (i : Nat) (l : LiveState) : (s.setLive i l).live = s.live.setIfInBounds i l := rfl
@[simp] theorem State.setLive_ports (i : Nat) (l : LiveState) : (s.setLive i l).ports = s.ports := rfl
@[simp] theorem State.setLive_activation (i : Nat) (l : LiveState) : (s.setLive i l).activation = s.activation := rfl
@[simp] theorem State.setLive_clock (i : Nat) (l : LiveState) : (s.setLive i l).clock = s.clock := rfl
@[simp] theorem State.setLive_books (i : Nat) (l : LiveState) : (s.setLive i l).books = s.books := rfl
@[simp] theorem State.setLive_work (i : Nat) (l : LiveState) : (s.setLive i l).work = s.work := rfl
@[simp] theorem State.setLive_posting (i : Nat) (l : LiveState) : (s.setLive i l).posting = s.posting := rfl
@[simp] theorem State.setLive_memory (i : Nat) (l : LiveState) : (s.setLive i l).memory = s.memory := rfl
@[simp] theorem State.setLive_port (i : Nat) (l : LiveState) : (s.setLive i l).port = s.port := rfl
@[simp] theorem State.setLive_cache (i : Nat) (l : LiveState) : (s.setLive i l).cache = s.cache := rfl
@[simp] theorem State.setLive_link (i : Nat) (l : LiveState) : (s.setLive i l).link = s.link := rfl
@[simp] theorem State.setLive_attention (i : Nat) (l : LiveState) : (s.setLive i l).attention = s.attention := rfl
@[simp] theorem State.setLive_freeCount (i : Nat) (l : LiveState) : (s.setLive i l).freeCount = s.freeCount := rfl
@[simp] theorem State.setLive_pending (i : Nat) (l : LiveState) : (s.setLive i l).pending = s.pending := rfl

/-! ### `State.raise` -/

@[simp] theorem State.raise_engine (e : Attention) : (s.raise e).engine = s.engine := rfl
@[simp] theorem State.raise_before (e : Attention) : (s.raise e).before = s.before := rfl
@[simp] theorem State.raise_powerWarning (e : Attention) : (s.raise e).powerWarning = s.powerWarning := rfl
@[simp] theorem State.raise_sequence (e : Attention) : (s.raise e).sequence = s.sequence := rfl
@[simp] theorem State.raise_active (e : Attention) : (s.raise e).active = s.active := rfl
@[simp] theorem State.raise_staged (e : Attention) : (s.raise e).staged = s.staged := rfl
@[simp] theorem State.raise_live (e : Attention) : (s.raise e).live = s.live := rfl
@[simp] theorem State.raise_ports (e : Attention) : (s.raise e).ports = s.ports := rfl
@[simp] theorem State.raise_activation (e : Attention) : (s.raise e).activation = s.activation := rfl
@[simp] theorem State.raise_clock (e : Attention) : (s.raise e).clock = s.clock := rfl
@[simp] theorem State.raise_books (e : Attention) : (s.raise e).books = s.books := rfl
@[simp] theorem State.raise_work (e : Attention) : (s.raise e).work = s.work := rfl
@[simp] theorem State.raise_posting (e : Attention) : (s.raise e).posting = s.posting := rfl
@[simp] theorem State.raise_memory (e : Attention) : (s.raise e).memory = s.memory := rfl
@[simp] theorem State.raise_port (e : Attention) : (s.raise e).port = s.port := rfl
@[simp] theorem State.raise_cache (e : Attention) : (s.raise e).cache = s.cache := rfl
@[simp] theorem State.raise_link (e : Attention) : (s.raise e).link = s.link := rfl
@[simp] theorem State.raise_attention (e : Attention) : (s.raise e).attention = s.attention.raise e := rfl
@[simp] theorem State.raise_freeCount (e : Attention) : (s.raise e).freeCount = s.freeCount := rfl
@[simp] theorem State.raise_pending (e : Attention) : (s.raise e).pending = s.pending := rfl

/-! ### `State.setRecheck` -/

@[simp] theorem State.setRecheck_engine (l : List (Nat × Standing)) : (s.setRecheck l).engine = s.engine := rfl
@[simp] theorem State.setRecheck_before (l : List (Nat × Standing)) : (s.setRecheck l).before = s.before := rfl
@[simp] theorem State.setRecheck_powerWarning (l : List (Nat × Standing)) : (s.setRecheck l).powerWarning = s.powerWarning := rfl
@[simp] theorem State.setRecheck_sequence (l : List (Nat × Standing)) : (s.setRecheck l).sequence = s.sequence := rfl
@[simp] theorem State.setRecheck_active (l : List (Nat × Standing)) : (s.setRecheck l).active = s.active := rfl
@[simp] theorem State.setRecheck_staged (l : List (Nat × Standing)) : (s.setRecheck l).staged = s.staged := rfl
@[simp] theorem State.setRecheck_live (l : List (Nat × Standing)) : (s.setRecheck l).live = s.live := rfl
@[simp] theorem State.setRecheck_ports (l : List (Nat × Standing)) : (s.setRecheck l).ports = s.ports := rfl
@[simp] theorem State.setRecheck_activation (l : List (Nat × Standing)) : (s.setRecheck l).activation = s.activation := rfl
@[simp] theorem State.setRecheck_clock (l : List (Nat × Standing)) : (s.setRecheck l).clock = s.clock := rfl
@[simp] theorem State.setRecheck_books (l : List (Nat × Standing)) : (s.setRecheck l).books = s.books := rfl
@[simp] theorem State.setRecheck_work (l : List (Nat × Standing)) : (s.setRecheck l).work = s.work := rfl
@[simp] theorem State.setRecheck_posting (l : List (Nat × Standing)) : (s.setRecheck l).posting = { s.posting with recheck := l } := rfl
@[simp] theorem State.setRecheck_memory (l : List (Nat × Standing)) : (s.setRecheck l).memory = s.memory := rfl
@[simp] theorem State.setRecheck_port (l : List (Nat × Standing)) : (s.setRecheck l).port = s.port := rfl
@[simp] theorem State.setRecheck_cache (l : List (Nat × Standing)) : (s.setRecheck l).cache = s.cache := rfl
@[simp] theorem State.setRecheck_link (l : List (Nat × Standing)) : (s.setRecheck l).link = s.link := rfl
@[simp] theorem State.setRecheck_attention (l : List (Nat × Standing)) : (s.setRecheck l).attention = s.attention := rfl
@[simp] theorem State.setRecheck_freeCount (l : List (Nat × Standing)) : (s.setRecheck l).freeCount = s.freeCount := rfl
@[simp] theorem State.setRecheck_pending (l : List (Nat × Standing)) : (s.setRecheck l).pending = s.pending := rfl

/-! ### `State.setPosting` -/

@[simp] theorem State.setPosting_engine (ph : PostingPhase) (n : Nat) : (s.setPosting ph n).engine = s.engine := rfl
@[simp] theorem State.setPosting_before (ph : PostingPhase) (n : Nat) : (s.setPosting ph n).before = s.before := rfl
@[simp] theorem State.setPosting_powerWarning (ph : PostingPhase) (n : Nat) : (s.setPosting ph n).powerWarning = s.powerWarning := rfl
@[simp] theorem State.setPosting_sequence (ph : PostingPhase) (n : Nat) : (s.setPosting ph n).sequence = s.sequence := rfl
@[simp] theorem State.setPosting_active (ph : PostingPhase) (n : Nat) : (s.setPosting ph n).active = s.active := rfl
@[simp] theorem State.setPosting_staged (ph : PostingPhase) (n : Nat) : (s.setPosting ph n).staged = s.staged := rfl
@[simp] theorem State.setPosting_live (ph : PostingPhase) (n : Nat) : (s.setPosting ph n).live = s.live := rfl
@[simp] theorem State.setPosting_ports (ph : PostingPhase) (n : Nat) : (s.setPosting ph n).ports = s.ports := rfl
@[simp] theorem State.setPosting_activation (ph : PostingPhase) (n : Nat) : (s.setPosting ph n).activation = s.activation := rfl
@[simp] theorem State.setPosting_clock (ph : PostingPhase) (n : Nat) : (s.setPosting ph n).clock = s.clock := rfl
@[simp] theorem State.setPosting_books (ph : PostingPhase) (n : Nat) : (s.setPosting ph n).books = s.books := rfl
@[simp] theorem State.setPosting_work (ph : PostingPhase) (n : Nat) : (s.setPosting ph n).work = s.work := rfl
@[simp] theorem State.setPosting_posting (ph : PostingPhase) (n : Nat) : (s.setPosting ph n).posting = { s.posting with phase := ph, cursor := n } := rfl
@[simp] theorem State.setPosting_memory (ph : PostingPhase) (n : Nat) : (s.setPosting ph n).memory = s.memory := rfl
@[simp] theorem State.setPosting_port (ph : PostingPhase) (n : Nat) : (s.setPosting ph n).port = s.port := rfl
@[simp] theorem State.setPosting_cache (ph : PostingPhase) (n : Nat) : (s.setPosting ph n).cache = s.cache := rfl
@[simp] theorem State.setPosting_link (ph : PostingPhase) (n : Nat) : (s.setPosting ph n).link = s.link := rfl
@[simp] theorem State.setPosting_attention (ph : PostingPhase) (n : Nat) : (s.setPosting ph n).attention = s.attention := rfl
@[simp] theorem State.setPosting_freeCount (ph : PostingPhase) (n : Nat) : (s.setPosting ph n).freeCount = s.freeCount := rfl
@[simp] theorem State.setPosting_pending (ph : PostingPhase) (n : Nat) : (s.setPosting ph n).pending = s.pending := rfl

/-! ### `State.updateBook` -/

@[simp] theorem State.updateBook_engine (m : Nat) (g : Book → Book) : (s.updateBook m g).engine = s.engine := rfl
@[simp] theorem State.updateBook_before (m : Nat) (g : Book → Book) : (s.updateBook m g).before = s.before := rfl
@[simp] theorem State.updateBook_powerWarning (m : Nat) (g : Book → Book) : (s.updateBook m g).powerWarning = s.powerWarning := rfl
@[simp] theorem State.updateBook_sequence (m : Nat) (g : Book → Book) : (s.updateBook m g).sequence = s.sequence := rfl
@[simp] theorem State.updateBook_active (m : Nat) (g : Book → Book) : (s.updateBook m g).active = s.active := rfl
@[simp] theorem State.updateBook_staged (m : Nat) (g : Book → Book) : (s.updateBook m g).staged = s.staged := rfl
@[simp] theorem State.updateBook_live (m : Nat) (g : Book → Book) : (s.updateBook m g).live = s.live := rfl
@[simp] theorem State.updateBook_ports (m : Nat) (g : Book → Book) : (s.updateBook m g).ports = s.ports := rfl
@[simp] theorem State.updateBook_activation (m : Nat) (g : Book → Book) : (s.updateBook m g).activation = s.activation := rfl
@[simp] theorem State.updateBook_clock (m : Nat) (g : Book → Book) : (s.updateBook m g).clock = s.clock := rfl
@[simp] theorem State.updateBook_books (m : Nat) (g : Book → Book) : (s.updateBook m g).books = s.books.map fun b => if b.start = m then g b else b := rfl
@[simp] theorem State.updateBook_work (m : Nat) (g : Book → Book) : (s.updateBook m g).work = s.work := rfl
@[simp] theorem State.updateBook_posting (m : Nat) (g : Book → Book) : (s.updateBook m g).posting = s.posting := rfl
@[simp] theorem State.updateBook_memory (m : Nat) (g : Book → Book) : (s.updateBook m g).memory = s.memory := rfl
@[simp] theorem State.updateBook_port (m : Nat) (g : Book → Book) : (s.updateBook m g).port = s.port := rfl
@[simp] theorem State.updateBook_cache (m : Nat) (g : Book → Book) : (s.updateBook m g).cache = s.cache := rfl
@[simp] theorem State.updateBook_link (m : Nat) (g : Book → Book) : (s.updateBook m g).link = s.link := rfl
@[simp] theorem State.updateBook_attention (m : Nat) (g : Book → Book) : (s.updateBook m g).attention = s.attention := rfl
@[simp] theorem State.updateBook_freeCount (m : Nat) (g : Book → Book) : (s.updateBook m g).freeCount = s.freeCount := rfl
@[simp] theorem State.updateBook_pending (m : Nat) (g : Book → Book) : (s.updateBook m g).pending = s.pending := rfl

/-! ### `State.setWork` -/

@[simp] theorem State.setWork_engine (w : Work) : (s.setWork w).engine = s.engine := rfl
@[simp] theorem State.setWork_before (w : Work) : (s.setWork w).before = s.before := rfl
@[simp] theorem State.setWork_powerWarning (w : Work) : (s.setWork w).powerWarning = s.powerWarning := rfl
@[simp] theorem State.setWork_sequence (w : Work) : (s.setWork w).sequence = s.sequence := rfl
@[simp] theorem State.setWork_active (w : Work) : (s.setWork w).active = s.active := rfl
@[simp] theorem State.setWork_staged (w : Work) : (s.setWork w).staged = s.staged := rfl
@[simp] theorem State.setWork_live (w : Work) : (s.setWork w).live = s.live := rfl
@[simp] theorem State.setWork_ports (w : Work) : (s.setWork w).ports = s.ports := rfl
@[simp] theorem State.setWork_activation (w : Work) : (s.setWork w).activation = s.activation := rfl
@[simp] theorem State.setWork_clock (w : Work) : (s.setWork w).clock = s.clock := rfl
@[simp] theorem State.setWork_books (w : Work) : (s.setWork w).books = s.books := rfl
@[simp] theorem State.setWork_work (w : Work) : (s.setWork w).work = some w := rfl
@[simp] theorem State.setWork_posting (w : Work) : (s.setWork w).posting = s.posting := rfl
@[simp] theorem State.setWork_memory (w : Work) : (s.setWork w).memory = s.memory := rfl
@[simp] theorem State.setWork_port (w : Work) : (s.setWork w).port = s.port := rfl
@[simp] theorem State.setWork_cache (w : Work) : (s.setWork w).cache = s.cache := rfl
@[simp] theorem State.setWork_link (w : Work) : (s.setWork w).link = s.link := rfl
@[simp] theorem State.setWork_attention (w : Work) : (s.setWork w).attention = s.attention := rfl
@[simp] theorem State.setWork_freeCount (w : Work) : (s.setWork w).freeCount = s.freeCount := rfl
@[simp] theorem State.setWork_pending (w : Work) : (s.setWork w).pending = s.pending := rfl

/-! ### `State.setActivation` -/

@[simp] theorem State.setActivation_engine (a : Activation) : (s.setActivation a).engine = s.engine := rfl
@[simp] theorem State.setActivation_before (a : Activation) : (s.setActivation a).before = s.before := rfl
@[simp] theorem State.setActivation_powerWarning (a : Activation) : (s.setActivation a).powerWarning = s.powerWarning := rfl
@[simp] theorem State.setActivation_sequence (a : Activation) : (s.setActivation a).sequence = s.sequence := rfl
@[simp] theorem State.setActivation_active (a : Activation) : (s.setActivation a).active = s.active := rfl
@[simp] theorem State.setActivation_staged (a : Activation) : (s.setActivation a).staged = s.staged := rfl
@[simp] theorem State.setActivation_live (a : Activation) : (s.setActivation a).live = s.live := rfl
@[simp] theorem State.setActivation_ports (a : Activation) : (s.setActivation a).ports = s.ports := rfl
@[simp] theorem State.setActivation_activation (a : Activation) : (s.setActivation a).activation = a := rfl
@[simp] theorem State.setActivation_clock (a : Activation) : (s.setActivation a).clock = s.clock := rfl
@[simp] theorem State.setActivation_books (a : Activation) : (s.setActivation a).books = s.books := rfl
@[simp] theorem State.setActivation_work (a : Activation) : (s.setActivation a).work = s.work := rfl
@[simp] theorem State.setActivation_posting (a : Activation) : (s.setActivation a).posting = s.posting := rfl
@[simp] theorem State.setActivation_memory (a : Activation) : (s.setActivation a).memory = s.memory := rfl
@[simp] theorem State.setActivation_port (a : Activation) : (s.setActivation a).port = s.port := rfl
@[simp] theorem State.setActivation_cache (a : Activation) : (s.setActivation a).cache = s.cache := rfl
@[simp] theorem State.setActivation_link (a : Activation) : (s.setActivation a).link = s.link := rfl
@[simp] theorem State.setActivation_attention (a : Activation) : (s.setActivation a).attention = s.attention := rfl
@[simp] theorem State.setActivation_freeCount (a : Activation) : (s.setActivation a).freeCount = s.freeCount := rfl
@[simp] theorem State.setActivation_pending (a : Activation) : (s.setActivation a).pending = s.pending := rfl

/-! ### `State.touch` -/

@[simp] theorem State.touch_engine (n : Nat) : (s.touch n).engine = s.engine := rfl
@[simp] theorem State.touch_before (n : Nat) : (s.touch n).before = s.before := rfl
@[simp] theorem State.touch_powerWarning (n : Nat) : (s.touch n).powerWarning = s.powerWarning := rfl
@[simp] theorem State.touch_sequence (n : Nat) : (s.touch n).sequence = s.sequence := rfl
@[simp] theorem State.touch_active (n : Nat) : (s.touch n).active = s.active := rfl
@[simp] theorem State.touch_staged (n : Nat) : (s.touch n).staged = s.staged := rfl
@[simp] theorem State.touch_live (n : Nat) : (s.touch n).live = s.live := rfl
@[simp] theorem State.touch_ports (n : Nat) : (s.touch n).ports = s.ports := rfl
@[simp] theorem State.touch_activation (n : Nat) : (s.touch n).activation = s.activation := rfl
@[simp] theorem State.touch_clock (n : Nat) : (s.touch n).clock = s.clock := rfl
@[simp] theorem State.touch_books (n : Nat) : (s.touch n).books = s.books := rfl
@[simp] theorem State.touch_work (n : Nat) : (s.touch n).work = s.work := rfl
@[simp] theorem State.touch_posting (n : Nat) : (s.touch n).posting = s.posting := rfl
@[simp] theorem State.touch_memory (n : Nat) : (s.touch n).memory = s.memory := rfl
@[simp] theorem State.touch_port (n : Nat) : (s.touch n).port = s.port := rfl
@[simp] theorem State.touch_cache (n : Nat) : (s.touch n).cache = s.cache.touch n := rfl
@[simp] theorem State.touch_link (n : Nat) : (s.touch n).link = s.link := rfl
@[simp] theorem State.touch_attention (n : Nat) : (s.touch n).attention = s.attention := rfl
@[simp] theorem State.touch_freeCount (n : Nat) : (s.touch n).freeCount = s.freeCount := rfl
@[simp] theorem State.touch_pending (n : Nat) : (s.touch n).pending = s.pending := rfl

/-! ### `State.lockLine` -/

@[simp] theorem State.lockLine_engine (n : Nat) : (s.lockLine n).engine = s.engine := rfl
@[simp] theorem State.lockLine_before (n : Nat) : (s.lockLine n).before = s.before := rfl
@[simp] theorem State.lockLine_powerWarning (n : Nat) : (s.lockLine n).powerWarning = s.powerWarning := rfl
@[simp] theorem State.lockLine_sequence (n : Nat) : (s.lockLine n).sequence = s.sequence := rfl
@[simp] theorem State.lockLine_active (n : Nat) : (s.lockLine n).active = s.active := rfl
@[simp] theorem State.lockLine_staged (n : Nat) : (s.lockLine n).staged = s.staged := rfl
@[simp] theorem State.lockLine_live (n : Nat) : (s.lockLine n).live = s.live := rfl
@[simp] theorem State.lockLine_ports (n : Nat) : (s.lockLine n).ports = s.ports := rfl
@[simp] theorem State.lockLine_activation (n : Nat) : (s.lockLine n).activation = s.activation := rfl
@[simp] theorem State.lockLine_clock (n : Nat) : (s.lockLine n).clock = s.clock := rfl
@[simp] theorem State.lockLine_books (n : Nat) : (s.lockLine n).books = s.books := rfl
@[simp] theorem State.lockLine_work (n : Nat) : (s.lockLine n).work = s.work := rfl
@[simp] theorem State.lockLine_posting (n : Nat) : (s.lockLine n).posting = s.posting := rfl
@[simp] theorem State.lockLine_memory (n : Nat) : (s.lockLine n).memory = s.memory := rfl
@[simp] theorem State.lockLine_port (n : Nat) : (s.lockLine n).port = s.port := rfl
@[simp] theorem State.lockLine_cache (n : Nat) : (s.lockLine n).cache = (s.cache.touch n).setLock n true := rfl
@[simp] theorem State.lockLine_link (n : Nat) : (s.lockLine n).link = s.link := rfl
@[simp] theorem State.lockLine_attention (n : Nat) : (s.lockLine n).attention = s.attention := rfl
@[simp] theorem State.lockLine_freeCount (n : Nat) : (s.lockLine n).freeCount = s.freeCount := rfl
@[simp] theorem State.lockLine_pending (n : Nat) : (s.lockLine n).pending = s.pending := rfl

/-! ### `State.unlock` -/

@[simp] theorem State.unlock_engine : (s.unlock).engine = s.engine := rfl
@[simp] theorem State.unlock_before : (s.unlock).before = s.before := rfl
@[simp] theorem State.unlock_powerWarning : (s.unlock).powerWarning = s.powerWarning := rfl
@[simp] theorem State.unlock_sequence : (s.unlock).sequence = s.sequence := rfl
@[simp] theorem State.unlock_active : (s.unlock).active = s.active := rfl
@[simp] theorem State.unlock_staged : (s.unlock).staged = s.staged := rfl
@[simp] theorem State.unlock_live : (s.unlock).live = s.live := rfl
@[simp] theorem State.unlock_ports : (s.unlock).ports = s.ports := rfl
@[simp] theorem State.unlock_activation : (s.unlock).activation = s.activation := rfl
@[simp] theorem State.unlock_clock : (s.unlock).clock = s.clock := rfl
@[simp] theorem State.unlock_books : (s.unlock).books = s.books := rfl
@[simp] theorem State.unlock_work : (s.unlock).work = s.work := rfl
@[simp] theorem State.unlock_posting : (s.unlock).posting = s.posting := rfl
@[simp] theorem State.unlock_memory : (s.unlock).memory = s.memory := rfl
@[simp] theorem State.unlock_port : (s.unlock).port = s.port := rfl
@[simp] theorem State.unlock_cache : (s.unlock).cache = s.cache.unlockAll := rfl
@[simp] theorem State.unlock_link : (s.unlock).link = s.link := rfl
@[simp] theorem State.unlock_attention : (s.unlock).attention = s.attention := rfl
@[simp] theorem State.unlock_freeCount : (s.unlock).freeCount = s.freeCount := rfl
@[simp] theorem State.unlock_pending : (s.unlock).pending = s.pending := rfl

/-! ### `State.drawn` -/

@[simp] theorem State.drawn_engine : (s.drawn).engine = s.engine := rfl
@[simp] theorem State.drawn_before : (s.drawn).before = s.before := rfl
@[simp] theorem State.drawn_powerWarning : (s.drawn).powerWarning = s.powerWarning := rfl
@[simp] theorem State.drawn_sequence : (s.drawn).sequence = s.sequence := rfl
@[simp] theorem State.drawn_active : (s.drawn).active = s.active := rfl
@[simp] theorem State.drawn_staged : (s.drawn).staged = s.staged := rfl
@[simp] theorem State.drawn_live : (s.drawn).live = s.live := rfl
@[simp] theorem State.drawn_ports : (s.drawn).ports = s.ports := rfl
@[simp] theorem State.drawn_activation : (s.drawn).activation = s.activation := rfl
@[simp] theorem State.drawn_clock : (s.drawn).clock = s.clock := rfl
@[simp] theorem State.drawn_books : (s.drawn).books = s.books := rfl
@[simp] theorem State.drawn_work : (s.drawn).work = s.work := rfl
@[simp] theorem State.drawn_posting : (s.drawn).posting = s.posting := rfl
@[simp] theorem State.drawn_memory : (s.drawn).memory = s.memory := rfl
@[simp] theorem State.drawn_port : (s.drawn).port = s.port := rfl
@[simp] theorem State.drawn_cache : (s.drawn).cache = s.cache := rfl
@[simp] theorem State.drawn_link : (s.drawn).link = s.link := rfl
@[simp] theorem State.drawn_attention : (s.drawn).attention = s.attention := rfl
@[simp] theorem State.drawn_freeCount : (s.drawn).freeCount = s.freeCount + 1 := rfl
@[simp] theorem State.drawn_pending : (s.drawn).pending = s.pending := rfl

/-! ### `State.setRun` -/

@[simp] theorem State.setRun_engine (r : Run) : (s.setRun r).engine = s.engine := rfl
@[simp] theorem State.setRun_before (r : Run) : (s.setRun r).before = s.before := rfl
@[simp] theorem State.setRun_powerWarning (r : Run) : (s.setRun r).powerWarning = s.powerWarning := rfl
@[simp] theorem State.setRun_sequence (r : Run) : (s.setRun r).sequence = s.sequence := rfl
@[simp] theorem State.setRun_active (r : Run) : (s.setRun r).active = s.active := rfl
@[simp] theorem State.setRun_staged (r : Run) : (s.setRun r).staged = s.staged := rfl
@[simp] theorem State.setRun_live (r : Run) : (s.setRun r).live = s.live := rfl
@[simp] theorem State.setRun_ports (r : Run) : (s.setRun r).ports = s.ports := rfl
@[simp] theorem State.setRun_activation (r : Run) : (s.setRun r).activation = s.activation := rfl
@[simp] theorem State.setRun_clock (r : Run) : (s.setRun r).clock = s.clock := rfl
@[simp] theorem State.setRun_books (r : Run) : (s.setRun r).books = s.books := rfl
@[simp] theorem State.setRun_work (r : Run) : (s.setRun r).work = s.work := rfl
@[simp] theorem State.setRun_posting (r : Run) : (s.setRun r).posting = s.posting := rfl
@[simp] theorem State.setRun_memory (r : Run) : (s.setRun r).memory = s.memory := rfl
@[simp] theorem State.setRun_port (r : Run) : (s.setRun r).port = s.port := rfl
@[simp] theorem State.setRun_cache (r : Run) : (s.setRun r).cache = s.cache := rfl
@[simp] theorem State.setRun_link (r : Run) : (s.setRun r).link = { s.link with executing := s.link.executing.map fun e => { e with run := r } } := rfl
@[simp] theorem State.setRun_attention (r : Run) : (s.setRun r).attention = s.attention := rfl
@[simp] theorem State.setRun_freeCount (r : Run) : (s.setRun r).freeCount = s.freeCount := rfl
@[simp] theorem State.setRun_pending (r : Run) : (s.setRun r).pending = s.pending := rfl

/-! ### `State.answer` -/

@[simp] theorem State.answer_engine (o : OutcomeClass) (d : Nat) (fl : List Byte) : (s.answer o d fl).engine = s.engine := rfl
@[simp] theorem State.answer_before (o : OutcomeClass) (d : Nat) (fl : List Byte) : (s.answer o d fl).before = s.before := rfl
@[simp] theorem State.answer_powerWarning (o : OutcomeClass) (d : Nat) (fl : List Byte) : (s.answer o d fl).powerWarning = s.powerWarning := rfl
@[simp] theorem State.answer_sequence (o : OutcomeClass) (d : Nat) (fl : List Byte) : (s.answer o d fl).sequence = s.sequence := rfl
@[simp] theorem State.answer_active (o : OutcomeClass) (d : Nat) (fl : List Byte) : (s.answer o d fl).active = s.active := rfl
@[simp] theorem State.answer_staged (o : OutcomeClass) (d : Nat) (fl : List Byte) : (s.answer o d fl).staged = s.staged := rfl
@[simp] theorem State.answer_live (o : OutcomeClass) (d : Nat) (fl : List Byte) : (s.answer o d fl).live = s.live := rfl
@[simp] theorem State.answer_ports (o : OutcomeClass) (d : Nat) (fl : List Byte) : (s.answer o d fl).ports = s.ports := rfl
@[simp] theorem State.answer_activation (o : OutcomeClass) (d : Nat) (fl : List Byte) : (s.answer o d fl).activation = s.activation := rfl
@[simp] theorem State.answer_clock (o : OutcomeClass) (d : Nat) (fl : List Byte) : (s.answer o d fl).clock = s.clock := rfl
@[simp] theorem State.answer_books (o : OutcomeClass) (d : Nat) (fl : List Byte) : (s.answer o d fl).books = s.books := rfl
@[simp] theorem State.answer_work (o : OutcomeClass) (d : Nat) (fl : List Byte) : (s.answer o d fl).work = s.work := rfl
@[simp] theorem State.answer_posting (o : OutcomeClass) (d : Nat) (fl : List Byte) : (s.answer o d fl).posting = s.posting := rfl
@[simp] theorem State.answer_memory (o : OutcomeClass) (d : Nat) (fl : List Byte) : (s.answer o d fl).memory = s.memory := rfl
@[simp] theorem State.answer_port (o : OutcomeClass) (d : Nat) (fl : List Byte) : (s.answer o d fl).port = s.port := rfl
@[simp] theorem State.answer_cache (o : OutcomeClass) (d : Nat) (fl : List Byte) : (s.answer o d fl).cache = s.cache := rfl
@[simp] theorem State.answer_attention (o : OutcomeClass) (d : Nat) (fl : List Byte) : (s.answer o d fl).attention = s.attention := rfl
@[simp] theorem State.answer_freeCount (o : OutcomeClass) (d : Nat) (fl : List Byte) : (s.answer o d fl).freeCount = s.freeCount := rfl
@[simp] theorem State.answer_pending (o : OutcomeClass) (d : Nat) (fl : List Byte) : (s.answer o d fl).pending = s.pending := rfl

/-! ### `State.refuse` -/

@[simp] theorem State.refuse_engine (d : Nat) : (s.refuse d).engine = s.engine := rfl
@[simp] theorem State.refuse_before (d : Nat) : (s.refuse d).before = s.before := rfl
@[simp] theorem State.refuse_powerWarning (d : Nat) : (s.refuse d).powerWarning = s.powerWarning := rfl
@[simp] theorem State.refuse_sequence (d : Nat) : (s.refuse d).sequence = s.sequence := rfl
@[simp] theorem State.refuse_active (d : Nat) : (s.refuse d).active = s.active := rfl
@[simp] theorem State.refuse_staged (d : Nat) : (s.refuse d).staged = s.staged := rfl
@[simp] theorem State.refuse_live (d : Nat) : (s.refuse d).live = s.live := rfl
@[simp] theorem State.refuse_ports (d : Nat) : (s.refuse d).ports = s.ports := rfl
@[simp] theorem State.refuse_activation (d : Nat) : (s.refuse d).activation = s.activation := rfl
@[simp] theorem State.refuse_clock (d : Nat) : (s.refuse d).clock = s.clock := rfl
@[simp] theorem State.refuse_books (d : Nat) : (s.refuse d).books = s.books := rfl
@[simp] theorem State.refuse_work (d : Nat) : (s.refuse d).work = s.work := rfl
@[simp] theorem State.refuse_posting (d : Nat) : (s.refuse d).posting = s.posting := rfl
@[simp] theorem State.refuse_memory (d : Nat) : (s.refuse d).memory = s.memory := rfl
@[simp] theorem State.refuse_port (d : Nat) : (s.refuse d).port = s.port := rfl
@[simp] theorem State.refuse_cache (d : Nat) : (s.refuse d).cache = s.cache := rfl
@[simp] theorem State.refuse_attention (d : Nat) : (s.refuse d).attention = s.attention := rfl
@[simp] theorem State.refuse_freeCount (d : Nat) : (s.refuse d).freeCount = s.freeCount := rfl
@[simp] theorem State.refuse_pending (d : Nat) : (s.refuse d).pending = s.pending := rfl

/-! ### `State.finish` -/

@[simp] theorem State.finish_engine (d : Nat) (fl : List Byte) : (s.finish d fl).engine = s.engine := rfl
@[simp] theorem State.finish_before (d : Nat) (fl : List Byte) : (s.finish d fl).before = s.before := rfl
@[simp] theorem State.finish_powerWarning (d : Nat) (fl : List Byte) : (s.finish d fl).powerWarning = s.powerWarning := rfl
@[simp] theorem State.finish_sequence (d : Nat) (fl : List Byte) : (s.finish d fl).sequence = s.sequence := rfl
@[simp] theorem State.finish_active (d : Nat) (fl : List Byte) : (s.finish d fl).active = s.active := rfl
@[simp] theorem State.finish_staged (d : Nat) (fl : List Byte) : (s.finish d fl).staged = s.staged := rfl
@[simp] theorem State.finish_live (d : Nat) (fl : List Byte) : (s.finish d fl).live = s.live := rfl
@[simp] theorem State.finish_ports (d : Nat) (fl : List Byte) : (s.finish d fl).ports = s.ports := rfl
@[simp] theorem State.finish_activation (d : Nat) (fl : List Byte) : (s.finish d fl).activation = s.activation := rfl
@[simp] theorem State.finish_clock (d : Nat) (fl : List Byte) : (s.finish d fl).clock = s.clock := rfl
@[simp] theorem State.finish_books (d : Nat) (fl : List Byte) : (s.finish d fl).books = s.books := rfl
@[simp] theorem State.finish_work (d : Nat) (fl : List Byte) : (s.finish d fl).work = s.work := rfl
@[simp] theorem State.finish_posting (d : Nat) (fl : List Byte) : (s.finish d fl).posting = s.posting := rfl
@[simp] theorem State.finish_memory (d : Nat) (fl : List Byte) : (s.finish d fl).memory = s.memory := rfl
@[simp] theorem State.finish_port (d : Nat) (fl : List Byte) : (s.finish d fl).port = s.port := rfl
@[simp] theorem State.finish_cache (d : Nat) (fl : List Byte) : (s.finish d fl).cache = s.cache := rfl
@[simp] theorem State.finish_attention (d : Nat) (fl : List Byte) : (s.finish d fl).attention = s.attention := rfl
@[simp] theorem State.finish_freeCount (d : Nat) (fl : List Byte) : (s.finish d fl).freeCount = s.freeCount := rfl
@[simp] theorem State.finish_pending (d : Nat) (fl : List Byte) : (s.finish d fl).pending = s.pending := rfl

/-! ### `State.install` -/

@[simp] theorem State.install_engine (t c : Byte) : (s.install t c).engine = s.engine := rfl
@[simp] theorem State.install_before (t c : Byte) : (s.install t c).before = s.before := rfl
@[simp] theorem State.install_powerWarning (t c : Byte) : (s.install t c).powerWarning = s.powerWarning := rfl
@[simp] theorem State.install_sequence (t c : Byte) : (s.install t c).sequence = s.sequence := rfl
@[simp] theorem State.install_active (t c : Byte) : (s.install t c).active = s.active := rfl
@[simp] theorem State.install_staged (t c : Byte) : (s.install t c).staged = s.staged := rfl
@[simp] theorem State.install_live (t c : Byte) : (s.install t c).live = s.live := rfl
@[simp] theorem State.install_ports (t c : Byte) : (s.install t c).ports = s.ports := rfl
@[simp] theorem State.install_activation (t c : Byte) : (s.install t c).activation = s.activation := rfl
@[simp] theorem State.install_clock (t c : Byte) : (s.install t c).clock = s.clock := rfl
@[simp] theorem State.install_books (t c : Byte) : (s.install t c).books = s.books := rfl
@[simp] theorem State.install_work (t c : Byte) : (s.install t c).work = s.work := rfl
@[simp] theorem State.install_posting (t c : Byte) : (s.install t c).posting = s.posting := rfl
@[simp] theorem State.install_memory (t c : Byte) : (s.install t c).memory = s.memory := rfl
@[simp] theorem State.install_port (t c : Byte) : (s.install t c).port = s.port := rfl
@[simp] theorem State.install_cache (t c : Byte) : (s.install t c).cache = s.cache := rfl
@[simp] theorem State.install_link (t c : Byte) : (s.install t c).link = { s.link with executing := some { tag := t, code := c, run := .deciding } } := rfl
@[simp] theorem State.install_attention (t c : Byte) : (s.install t c).attention = s.attention := rfl
@[simp] theorem State.install_freeCount (t c : Byte) : (s.install t c).freeCount = s.freeCount := rfl
@[simp] theorem State.install_pending (t c : Byte) : (s.install t c).pending = s.pending := rfl

/-! ### `State.setReceive` -/

@[simp] theorem State.setReceive_engine (r : ReceiveSide) : (s.setReceive r).engine = s.engine := rfl
@[simp] theorem State.setReceive_before (r : ReceiveSide) : (s.setReceive r).before = s.before := rfl
@[simp] theorem State.setReceive_powerWarning (r : ReceiveSide) : (s.setReceive r).powerWarning = s.powerWarning := rfl
@[simp] theorem State.setReceive_sequence (r : ReceiveSide) : (s.setReceive r).sequence = s.sequence := rfl
@[simp] theorem State.setReceive_active (r : ReceiveSide) : (s.setReceive r).active = s.active := rfl
@[simp] theorem State.setReceive_staged (r : ReceiveSide) : (s.setReceive r).staged = s.staged := rfl
@[simp] theorem State.setReceive_live (r : ReceiveSide) : (s.setReceive r).live = s.live := rfl
@[simp] theorem State.setReceive_ports (r : ReceiveSide) : (s.setReceive r).ports = s.ports := rfl
@[simp] theorem State.setReceive_activation (r : ReceiveSide) : (s.setReceive r).activation = s.activation := rfl
@[simp] theorem State.setReceive_clock (r : ReceiveSide) : (s.setReceive r).clock = s.clock := rfl
@[simp] theorem State.setReceive_books (r : ReceiveSide) : (s.setReceive r).books = s.books := rfl
@[simp] theorem State.setReceive_work (r : ReceiveSide) : (s.setReceive r).work = s.work := rfl
@[simp] theorem State.setReceive_posting (r : ReceiveSide) : (s.setReceive r).posting = s.posting := rfl
@[simp] theorem State.setReceive_memory (r : ReceiveSide) : (s.setReceive r).memory = s.memory := rfl
@[simp] theorem State.setReceive_port (r : ReceiveSide) : (s.setReceive r).port = s.port := rfl
@[simp] theorem State.setReceive_cache (r : ReceiveSide) : (s.setReceive r).cache = s.cache := rfl
@[simp] theorem State.setReceive_link (r : ReceiveSide) : (s.setReceive r).link = { s.link with receive := r } := rfl
@[simp] theorem State.setReceive_attention (r : ReceiveSide) : (s.setReceive r).attention = s.attention := rfl
@[simp] theorem State.setReceive_freeCount (r : ReceiveSide) : (s.setReceive r).freeCount = s.freeCount := rfl
@[simp] theorem State.setReceive_pending (r : ReceiveSide) : (s.setReceive r).pending = s.pending := rfl

/-! ### `State.discard` -/

@[simp] theorem State.discard_engine : (s.discard).engine = s.engine := rfl
@[simp] theorem State.discard_before : (s.discard).before = s.before := rfl
@[simp] theorem State.discard_powerWarning : (s.discard).powerWarning = s.powerWarning := rfl
@[simp] theorem State.discard_sequence : (s.discard).sequence = s.sequence := rfl
@[simp] theorem State.discard_active : (s.discard).active = s.active := rfl
@[simp] theorem State.discard_staged : (s.discard).staged = s.staged := rfl
@[simp] theorem State.discard_live : (s.discard).live = s.live := rfl
@[simp] theorem State.discard_ports : (s.discard).ports = s.ports := rfl
@[simp] theorem State.discard_activation : (s.discard).activation = s.activation := rfl
@[simp] theorem State.discard_clock : (s.discard).clock = s.clock := rfl
@[simp] theorem State.discard_books : (s.discard).books = s.books := rfl
@[simp] theorem State.discard_work : (s.discard).work = s.work := rfl
@[simp] theorem State.discard_posting : (s.discard).posting = s.posting := rfl
@[simp] theorem State.discard_memory : (s.discard).memory = s.memory := rfl
@[simp] theorem State.discard_port : (s.discard).port = s.port := rfl
@[simp] theorem State.discard_cache : (s.discard).cache = s.cache := rfl
@[simp] theorem State.discard_link : (s.discard).link = { s.link with receive := .hunting, discardsSeen := true } := rfl
@[simp] theorem State.discard_attention : (s.discard).attention = s.attention := rfl
@[simp] theorem State.discard_freeCount : (s.discard).freeCount = s.freeCount := rfl
@[simp] theorem State.discard_pending : (s.discard).pending = s.pending := rfl

/-! ### `State.idlePort` -/

@[simp] theorem State.idlePort_engine : (s.idlePort).engine = s.engine := rfl
@[simp] theorem State.idlePort_before : (s.idlePort).before = s.before := rfl
@[simp] theorem State.idlePort_powerWarning : (s.idlePort).powerWarning = s.powerWarning := rfl
@[simp] theorem State.idlePort_sequence : (s.idlePort).sequence = s.sequence := rfl
@[simp] theorem State.idlePort_active : (s.idlePort).active = s.active := rfl
@[simp] theorem State.idlePort_staged : (s.idlePort).staged = s.staged := rfl
@[simp] theorem State.idlePort_live : (s.idlePort).live = s.live := rfl
@[simp] theorem State.idlePort_ports : (s.idlePort).ports = s.ports := rfl
@[simp] theorem State.idlePort_activation : (s.idlePort).activation = s.activation := rfl
@[simp] theorem State.idlePort_clock : (s.idlePort).clock = s.clock := rfl
@[simp] theorem State.idlePort_books : (s.idlePort).books = s.books := rfl
@[simp] theorem State.idlePort_work : (s.idlePort).work = s.work := rfl
@[simp] theorem State.idlePort_posting : (s.idlePort).posting = s.posting := rfl
@[simp] theorem State.idlePort_memory : (s.idlePort).memory = s.memory := rfl
@[simp] theorem State.idlePort_port : (s.idlePort).port = { s.port with inProgress := none } := rfl
@[simp] theorem State.idlePort_cache : (s.idlePort).cache = s.cache := rfl
@[simp] theorem State.idlePort_link : (s.idlePort).link = s.link := rfl
@[simp] theorem State.idlePort_attention : (s.idlePort).attention = s.attention := rfl
@[simp] theorem State.idlePort_freeCount : (s.idlePort).freeCount = s.freeCount := rfl
@[simp] theorem State.idlePort_pending : (s.idlePort).pending = s.pending := rfl

/-! ### `State.setStartup` -/

@[simp] theorem State.setStartup_engine (x : Startup) : (s.setStartup x).engine = s.engine := rfl
@[simp] theorem State.setStartup_before (x : Startup) : (s.setStartup x).before = s.before := rfl
@[simp] theorem State.setStartup_powerWarning (x : Startup) : (s.setStartup x).powerWarning = s.powerWarning := rfl
@[simp] theorem State.setStartup_sequence (x : Startup) : (s.setStartup x).sequence = s.sequence := rfl
@[simp] theorem State.setStartup_active (x : Startup) : (s.setStartup x).active = s.active := rfl
@[simp] theorem State.setStartup_staged (x : Startup) : (s.setStartup x).staged = s.staged := rfl
@[simp] theorem State.setStartup_live (x : Startup) : (s.setStartup x).live = s.live := rfl
@[simp] theorem State.setStartup_ports (x : Startup) : (s.setStartup x).ports = s.ports := rfl
@[simp] theorem State.setStartup_activation (x : Startup) : (s.setStartup x).activation = s.activation := rfl
@[simp] theorem State.setStartup_clock (x : Startup) : (s.setStartup x).clock = s.clock := rfl
@[simp] theorem State.setStartup_books (x : Startup) : (s.setStartup x).books = s.books := rfl
@[simp] theorem State.setStartup_work (x : Startup) : (s.setStartup x).work = s.work := rfl
@[simp] theorem State.setStartup_posting (x : Startup) : (s.setStartup x).posting = s.posting := rfl
@[simp] theorem State.setStartup_memory (x : Startup) : (s.setStartup x).memory = s.memory := rfl
@[simp] theorem State.setStartup_port (x : Startup) : (s.setStartup x).port = { s.port with startup := x } := rfl
@[simp] theorem State.setStartup_cache (x : Startup) : (s.setStartup x).cache = s.cache := rfl
@[simp] theorem State.setStartup_link (x : Startup) : (s.setStartup x).link = s.link := rfl
@[simp] theorem State.setStartup_attention (x : Startup) : (s.setStartup x).attention = s.attention := rfl
@[simp] theorem State.setStartup_freeCount (x : Startup) : (s.setStartup x).freeCount = s.freeCount := rfl
@[simp] theorem State.setStartup_pending (x : Startup) : (s.setStartup x).pending = s.pending := rfl

/-! ### `State.loadHeader` -/

@[simp] theorem State.loadHeader_engine (h : Option Header) : (s.loadHeader h).engine = s.engine := rfl
@[simp] theorem State.loadHeader_before (h : Option Header) : (s.loadHeader h).before = s.before := rfl
@[simp] theorem State.loadHeader_powerWarning (h : Option Header) : (s.loadHeader h).powerWarning = s.powerWarning := rfl
@[simp] theorem State.loadHeader_sequence (h : Option Header) : (s.loadHeader h).sequence = s.sequence := rfl
@[simp] theorem State.loadHeader_active (h : Option Header) : (s.loadHeader h).active = s.active := rfl
@[simp] theorem State.loadHeader_staged (h : Option Header) : (s.loadHeader h).staged = s.staged := rfl
@[simp] theorem State.loadHeader_live (h : Option Header) : (s.loadHeader h).live = s.live := rfl
@[simp] theorem State.loadHeader_ports (h : Option Header) : (s.loadHeader h).ports = s.ports := rfl
@[simp] theorem State.loadHeader_activation (h : Option Header) : (s.loadHeader h).activation = s.activation := rfl
@[simp] theorem State.loadHeader_clock (h : Option Header) : (s.loadHeader h).clock = s.clock := rfl
@[simp] theorem State.loadHeader_books (h : Option Header) : (s.loadHeader h).books = s.books := rfl
@[simp] theorem State.loadHeader_work (h : Option Header) : (s.loadHeader h).work = s.work := rfl
@[simp] theorem State.loadHeader_posting (h : Option Header) : (s.loadHeader h).posting = s.posting := rfl
@[simp] theorem State.loadHeader_memory (h : Option Header) : (s.loadHeader h).memory = s.memory := rfl
@[simp] theorem State.loadHeader_port (h : Option Header) : (s.loadHeader h).port = { s.port with header := h } := rfl
@[simp] theorem State.loadHeader_cache (h : Option Header) : (s.loadHeader h).cache = s.cache := rfl
@[simp] theorem State.loadHeader_link (h : Option Header) : (s.loadHeader h).link = s.link := rfl
@[simp] theorem State.loadHeader_attention (h : Option Header) : (s.loadHeader h).attention = s.attention := rfl
@[simp] theorem State.loadHeader_freeCount (h : Option Header) : (s.loadHeader h).freeCount = s.freeCount := rfl
@[simp] theorem State.loadHeader_pending (h : Option Header) : (s.loadHeader h).pending = s.pending := rfl

/-! ### `State.writeAt` -/

@[simp] theorem State.writeAt_engine (p : Nat) (b : List Byte) : (s.writeAt p b).engine = s.engine := rfl
@[simp] theorem State.writeAt_before (p : Nat) (b : List Byte) : (s.writeAt p b).before = s.before := rfl
@[simp] theorem State.writeAt_powerWarning (p : Nat) (b : List Byte) : (s.writeAt p b).powerWarning = s.powerWarning := rfl
@[simp] theorem State.writeAt_sequence (p : Nat) (b : List Byte) : (s.writeAt p b).sequence = s.sequence := rfl
@[simp] theorem State.writeAt_active (p : Nat) (b : List Byte) : (s.writeAt p b).active = s.active := rfl
@[simp] theorem State.writeAt_staged (p : Nat) (b : List Byte) : (s.writeAt p b).staged = s.staged := rfl
@[simp] theorem State.writeAt_live (p : Nat) (b : List Byte) : (s.writeAt p b).live = s.live := rfl
@[simp] theorem State.writeAt_ports (p : Nat) (b : List Byte) : (s.writeAt p b).ports = s.ports := rfl
@[simp] theorem State.writeAt_activation (p : Nat) (b : List Byte) : (s.writeAt p b).activation = s.activation := rfl
@[simp] theorem State.writeAt_clock (p : Nat) (b : List Byte) : (s.writeAt p b).clock = s.clock := rfl
@[simp] theorem State.writeAt_books (p : Nat) (b : List Byte) : (s.writeAt p b).books = s.books := rfl
@[simp] theorem State.writeAt_work (p : Nat) (b : List Byte) : (s.writeAt p b).work = s.work := rfl
@[simp] theorem State.writeAt_posting (p : Nat) (b : List Byte) : (s.writeAt p b).posting = s.posting := rfl
@[simp] theorem State.writeAt_memory (p : Nat) (b : List Byte) : (s.writeAt p b).memory = writeUnit s.memory p b := rfl
@[simp] theorem State.writeAt_port (p : Nat) (b : List Byte) : (s.writeAt p b).port = s.port := rfl
@[simp] theorem State.writeAt_cache (p : Nat) (b : List Byte) : (s.writeAt p b).cache = s.cache := rfl
@[simp] theorem State.writeAt_link (p : Nat) (b : List Byte) : (s.writeAt p b).link = s.link := rfl
@[simp] theorem State.writeAt_attention (p : Nat) (b : List Byte) : (s.writeAt p b).attention = s.attention := rfl
@[simp] theorem State.writeAt_freeCount (p : Nat) (b : List Byte) : (s.writeAt p b).freeCount = s.freeCount := rfl
@[simp] theorem State.writeAt_pending (p : Nat) (b : List Byte) : (s.writeAt p b).pending = s.pending := rfl

/-! ### `State.writeRecord` -/

@[simp] theorem State.writeRecord_engine (a : Nat) (r : AccountRecord) : (s.writeRecord a r).engine = s.engine := rfl
@[simp] theorem State.writeRecord_before (a : Nat) (r : AccountRecord) : (s.writeRecord a r).before = s.before := rfl
@[simp] theorem State.writeRecord_powerWarning (a : Nat) (r : AccountRecord) : (s.writeRecord a r).powerWarning = s.powerWarning := rfl
@[simp] theorem State.writeRecord_sequence (a : Nat) (r : AccountRecord) : (s.writeRecord a r).sequence = s.sequence := rfl
@[simp] theorem State.writeRecord_active (a : Nat) (r : AccountRecord) : (s.writeRecord a r).active = s.active := rfl
@[simp] theorem State.writeRecord_staged (a : Nat) (r : AccountRecord) : (s.writeRecord a r).staged = s.staged := rfl
@[simp] theorem State.writeRecord_live (a : Nat) (r : AccountRecord) : (s.writeRecord a r).live = s.live := rfl
@[simp] theorem State.writeRecord_ports (a : Nat) (r : AccountRecord) : (s.writeRecord a r).ports = s.ports := rfl
@[simp] theorem State.writeRecord_activation (a : Nat) (r : AccountRecord) : (s.writeRecord a r).activation = s.activation := rfl
@[simp] theorem State.writeRecord_clock (a : Nat) (r : AccountRecord) : (s.writeRecord a r).clock = s.clock := rfl
@[simp] theorem State.writeRecord_books (a : Nat) (r : AccountRecord) : (s.writeRecord a r).books = s.books := rfl
@[simp] theorem State.writeRecord_work (a : Nat) (r : AccountRecord) : (s.writeRecord a r).work = s.work := rfl
@[simp] theorem State.writeRecord_posting (a : Nat) (r : AccountRecord) : (s.writeRecord a r).posting = s.posting := rfl
@[simp] theorem State.writeRecord_memory (a : Nat) (r : AccountRecord) :
    (s.writeRecord a r).memory = writeUnit s.memory (Config.recordPlace a) (recordBytes a r) := by
  rw [State.writeRecord, State.writeAt_memory]
@[simp] theorem State.writeRecord_port (a : Nat) (r : AccountRecord) : (s.writeRecord a r).port = s.port := rfl
@[simp] theorem State.writeRecord_cache (a : Nat) (r : AccountRecord) : (s.writeRecord a r).cache = s.cache := rfl
@[simp] theorem State.writeRecord_link (a : Nat) (r : AccountRecord) : (s.writeRecord a r).link = s.link := rfl
@[simp] theorem State.writeRecord_attention (a : Nat) (r : AccountRecord) : (s.writeRecord a r).attention = s.attention := rfl
@[simp] theorem State.writeRecord_freeCount (a : Nat) (r : AccountRecord) : (s.writeRecord a r).freeCount = s.freeCount := rfl
@[simp] theorem State.writeRecord_pending (a : Nat) (r : AccountRecord) : (s.writeRecord a r).pending = s.pending := rfl

/-! ### `State.writeHeaderAs` -/

@[simp] theorem State.writeHeaderAs_engine (m : Nat) (h : Header) : (s.writeHeaderAs m h).engine = s.engine := rfl
@[simp] theorem State.writeHeaderAs_before (m : Nat) (h : Header) : (s.writeHeaderAs m h).before = s.before := rfl
@[simp] theorem State.writeHeaderAs_powerWarning (m : Nat) (h : Header) : (s.writeHeaderAs m h).powerWarning = s.powerWarning := rfl
@[simp] theorem State.writeHeaderAs_sequence (m : Nat) (h : Header) : (s.writeHeaderAs m h).sequence = s.sequence := rfl
@[simp] theorem State.writeHeaderAs_active (m : Nat) (h : Header) : (s.writeHeaderAs m h).active = s.active := rfl
@[simp] theorem State.writeHeaderAs_staged (m : Nat) (h : Header) : (s.writeHeaderAs m h).staged = s.staged := rfl
@[simp] theorem State.writeHeaderAs_live (m : Nat) (h : Header) : (s.writeHeaderAs m h).live = s.live := rfl
@[simp] theorem State.writeHeaderAs_ports (m : Nat) (h : Header) : (s.writeHeaderAs m h).ports = s.ports := rfl
@[simp] theorem State.writeHeaderAs_activation (m : Nat) (h : Header) : (s.writeHeaderAs m h).activation = s.activation := rfl
@[simp] theorem State.writeHeaderAs_clock (m : Nat) (h : Header) : (s.writeHeaderAs m h).clock = s.clock := rfl
@[simp] theorem State.writeHeaderAs_books (m : Nat) (h : Header) : (s.writeHeaderAs m h).books = s.books := rfl
@[simp] theorem State.writeHeaderAs_work (m : Nat) (h : Header) : (s.writeHeaderAs m h).work = s.work := rfl
@[simp] theorem State.writeHeaderAs_posting (m : Nat) (h : Header) : (s.writeHeaderAs m h).posting = s.posting := rfl
@[simp] theorem State.writeHeaderAs_memory (m : Nat) (h : Header) :
    (s.writeHeaderAs m h).memory = writeUnit s.memory Config.headerPlace (headerBytes m h) := by
  rw [State.writeHeaderAs, State.writeAt_memory]
@[simp] theorem State.writeHeaderAs_port (m : Nat) (h : Header) : (s.writeHeaderAs m h).port = { s.port with header := some h } := rfl
@[simp] theorem State.writeHeaderAs_cache (m : Nat) (h : Header) : (s.writeHeaderAs m h).cache = s.cache := rfl
@[simp] theorem State.writeHeaderAs_link (m : Nat) (h : Header) : (s.writeHeaderAs m h).link = s.link := rfl
@[simp] theorem State.writeHeaderAs_attention (m : Nat) (h : Header) : (s.writeHeaderAs m h).attention = s.attention := rfl
@[simp] theorem State.writeHeaderAs_freeCount (m : Nat) (h : Header) : (s.writeHeaderAs m h).freeCount = s.freeCount := rfl
@[simp] theorem State.writeHeaderAs_pending (m : Nat) (h : Header) : (s.writeHeaderAs m h).pending = s.pending := rfl

/-! ### `State.writeHeader` -/

@[simp] theorem State.writeHeader_engine (h : Header) : (s.writeHeader h).engine = s.engine := rfl
@[simp] theorem State.writeHeader_before (h : Header) : (s.writeHeader h).before = s.before := rfl
@[simp] theorem State.writeHeader_powerWarning (h : Header) : (s.writeHeader h).powerWarning = s.powerWarning := rfl
@[simp] theorem State.writeHeader_sequence (h : Header) : (s.writeHeader h).sequence = s.sequence := rfl
@[simp] theorem State.writeHeader_active (h : Header) : (s.writeHeader h).active = s.active := rfl
@[simp] theorem State.writeHeader_staged (h : Header) : (s.writeHeader h).staged = s.staged := rfl
@[simp] theorem State.writeHeader_live (h : Header) : (s.writeHeader h).live = s.live := rfl
@[simp] theorem State.writeHeader_ports (h : Header) : (s.writeHeader h).ports = s.ports := rfl
@[simp] theorem State.writeHeader_activation (h : Header) : (s.writeHeader h).activation = s.activation := rfl
@[simp] theorem State.writeHeader_clock (h : Header) : (s.writeHeader h).clock = s.clock := rfl
@[simp] theorem State.writeHeader_books (h : Header) : (s.writeHeader h).books = s.books := rfl
@[simp] theorem State.writeHeader_work (h : Header) : (s.writeHeader h).work = s.work := rfl
@[simp] theorem State.writeHeader_posting (h : Header) : (s.writeHeader h).posting = s.posting := rfl
@[simp] theorem State.writeHeader_memory (h : Header) :
    (s.writeHeader h).memory = writeUnit s.memory Config.headerPlace (headerBytes Config.marker h) := by
  rw [State.writeHeader, State.writeHeaderAs_memory]
@[simp] theorem State.writeHeader_port (h : Header) : (s.writeHeader h).port = { s.port with header := some h } := rfl
@[simp] theorem State.writeHeader_cache (h : Header) : (s.writeHeader h).cache = s.cache := rfl
@[simp] theorem State.writeHeader_link (h : Header) : (s.writeHeader h).link = s.link := rfl
@[simp] theorem State.writeHeader_attention (h : Header) : (s.writeHeader h).attention = s.attention := rfl
@[simp] theorem State.writeHeader_freeCount (h : Header) : (s.writeHeader h).freeCount = s.freeCount := rfl
@[simp] theorem State.writeHeader_pending (h : Header) : (s.writeHeader h).pending = s.pending := rfl

/-! ### Answers -/

theorem State.answer_link (o : OutcomeClass) (d : Nat) (fl : List Byte) :
    (s.answer o d fl).link = (s.setRun (.result (builtResult s.code o d fl))).link := rfl

theorem State.refuse_eq (d : Nat) : s.refuse d = s.answer .refused d [] := rfl

theorem State.finish_eq (d : Nat) (fl : List Byte) : s.finish d fl = s.answer .done d fl := rfl

@[simp] theorem State.install_code (t c : Byte) : (s.install t c).code = c := rfl

end Sys2Proof.Machine
end

