-- ==== Sys2Proof/Laws/Drive.lean ====
section
/-! SUPPORT. What `State.drive` and `State.grant` can do: the follow-on work of an event, once for all; and what they do
when every unit but the Command Unit is at rest. -/

namespace Sys2Proof.Machine

/-! ### Turns one by one -/

/-- With nothing to do, the port is granted. -/
theorem driveFor_of_none {n : Nat} {s : State} (h : s.turn = none) : driveFor n s = s.grant := by
  cases n with
  | zero => rfl
  | succ n => simp only [driveFor, h]

/-- One turn, and the turns after it. -/
theorem driveFor_of_some {n : Nat} {s t : State} (h : s.turn = some t) : driveFor (n + 1) s = driveFor n t := by
  simp only [driveFor, h]

/-- With nothing to do, an event's follow-on work is the grant. -/
theorem State.drive_of_none {s : State} (h : s.turn = none) : s.drive = s.grant := driveFor_of_none h

/-- After one turn there is nothing left but the grant. -/
theorem State.drive_of_one {s t : State} (h : s.turn = some t) (h' : t.turn = none) : s.drive = t.grant := by
  rw [State.drive, Config.turns, driveFor_of_some h, driveFor_of_none h']

/-- After two turns there is nothing left but the grant. -/
theorem State.drive_of_two {s t u : State} (h : s.turn = some t) (h' : t.turn = some u) (h'' : u.turn = none) :
    s.drive = u.grant := by
  rw [State.drive, Config.turns, driveFor_of_some h, driveFor_of_some h', driveFor_of_none h'']

/-- What every turn and every grant keeps, an event's follow-on work keeps. -/
theorem State.drive_keeps {P : State → Prop} (turn : ∀ s t : State, P s → s.turn = some t → P t)
    (grant : ∀ s : State, P s → P s.grant) {s : State} (h : P s) : P s.drive := by
  have key : ∀ (n : Nat) (s : State), P s → P (driveFor n s) := by
    intro n
    induction n with
    | zero => exact fun s h => grant s h
    | succ n ih =>
      intro s h
      rcases ht : s.turn with _ | t
      · rw [driveFor_of_none ht]; exact grant s h
      · rw [driveFor_of_some ht]; exact ih t (turn s t h ht)
  exact key _ _ h

/-! ### The grant -/

/-- A port in use grants nothing. -/
theorem State.grant_of_busy {s : State} {o : PortOp} (h : s.port.inProgress = some o) : s.grant = s := by
  simp only [State.grant, h, Option.isSome_some, if_true]

/-- A free port with nothing asked grants nothing. -/
theorem State.grant_of_none {s : State} (h : s.want = none) : s.grant = s := by
  simp only [State.grant, h]
  split <;> rfl

/-- A free port grants an operation that waits. -/
theorem State.grant_of_op {s : State} {o : PortOp} (hp : s.port.inProgress = none) (h : s.want = some (.op o)) :
    s.grant = s.beginOp o := by
  simp only [State.grant, hp, h, Option.isSome_none, Bool.false_eq_true, if_false]

/-- A free port grants a read that waits. -/
theorem State.grant_of_read {s : State} {r : Reader} {a : Nat} (hp : s.port.inProgress = none)
    (h : s.want = some (.read r a)) : s.grant = s.beginFill r a := by
  simp only [State.grant, hp, h, Option.isSome_none, Bool.false_eq_true, if_false]

/-- A fill begun with a victim line. -/
theorem State.beginFill_of_victim {s : State} {r : Reader} {a line : Nat} (h : s.cache.victim none = some line) :
    s.beginFill r a =
      ({ s with cache := s.cache.drop line } : State).onPort (.fill r a line (dirtyRecord (s.cache.line line))) := by
  simp only [State.beginFill, h]
  rfl

/-- Everything a grant can do: nothing, an operation begun, or a fill begun with its victim gone from its line. -/
theorem State.grant_cases (s : State) :
    s.grant = s ∨ (∃ o, s.want = some (.op o) ∧ s.grant = s.beginOp o) ∨
    (∃ r a line, s.want = some (.read r a) ∧ s.cache.victim none = some line ∧
      s.grant = ({ s with cache := s.cache.drop line } : State).onPort
        (.fill r a line (dirtyRecord (s.cache.line line)))) := by
  by_cases hp : s.port.inProgress.isSome = true
  · left; simp only [State.grant, hp, if_true]
  · have hp' : s.port.inProgress = none := by simpa using hp
    rcases hw : s.want with _ | w
    · exact Or.inl (State.grant_of_none hw)
    · cases w with
      | op o => exact Or.inr (Or.inl ⟨o, rfl, State.grant_of_op hp' hw⟩)
      | read r a =>
        rw [State.grant_of_read hp' hw]
        rcases hv : s.cache.victim none with _ | line
        · left; simp only [State.beginFill, hv]
        · exact Or.inr (Or.inr ⟨r, a, line, rfl, rfl, State.beginFill_of_victim hv⟩)

/-! ### Units at rest -/

/-- A Notice Builder without a waiting request has no turn. -/
theorem State.noticeTurn_of_none {s : State} (h : ∀ f : Feeder, s.ports[f].prefetch.isWaiting = false) :
    s.noticeTurn = none := by
  simp only [State.noticeTurn, List.findSome?_eq_none_iff]
  intro f _
  have hf := h f
  cases hp : s.ports[f].prefetch with
  | none => rfl
  | arrived t part => rfl
  | waiting t => rw [hp] at hf; exact absurd hf (by simp [Prefetch.isWaiting])

/-- A Notice Builder without a waiting request asks for nothing. -/
theorem State.noticeWant_of_none {s : State} (h : ∀ f : Feeder, s.ports[f].prefetch.isWaiting = false) :
    s.noticeWant = none := by
  simp only [State.noticeWant, List.findSome?_eq_none_iff]
  intro f _
  have hf := h f
  cases hp : s.ports[f].prefetch with
  | none => rfl
  | arrived t part => rfl
  | waiting t => rw [hp] at hf; exact absurd hf (by simp [Prefetch.isWaiting])

/-- No book is WAITING: none can enter SETTLING. -/
theorem State.admissible_of_none {s : State} (h : ∀ b ∈ s.books, b.state ≠ .waiting) : s.admissible = none := by
  simp only [State.admissible]
  cases hf : s.oldestOpen with
  | none => rfl
  | some b => simp [h b (List.mem_of_find?_eq_some hf)]

/-- At rest the only turn is the executing command's. -/
theorem State.turn_of_resting {s : State} (h : s.resting) : s.turn = s.commandTurn := by
  obtain ⟨hq, hs, hw, hp, _, _, ha, hc, hm, hb, hn⟩ := h
  have hadm : s.admissible = none := State.admissible_of_none fun b hb' => (hb b hb').1
  have hcm : s.commitMoment = false := by
    simp only [State.commitMoment, Bool.and_eq_false_iff]
    left; left; left; left
    cases hph : s.activation.phase <;> simp_all
  have h1 : s.settleTurn = none := by simp only [State.settleTurn, hw]
  have h2 : s.postTurn = none := by simp only [State.postTurn, hp]
  have h3 : s.checkTurn = none := by
    simp only [State.checkTurn]
    cases hph : s.activation.phase <;> simp_all
  have h4 : s.markTurn = none := by
    simp only [State.markTurn, hm]
    split <;> rfl
  have h5 : s.commandOrBookTurn = s.commandTurn := by
    simp only [State.commandOrBookTurn, hadm]
    rcases s.commandTurn with _ | c <;> rfl
  have h6 : s.commitTurn = none := by simp [State.commitTurn, hcm]
  simp only [State.turn, hq, hs, h1, h2, h3, h4, h5, h6, State.noticeTurn_of_none hn]
  rcases s.commandTurn with _ | c <;> rfl

/-- At rest the only request is the executing command's. -/
theorem State.want_of_resting {s : State} (h : s.resting) : s.want = s.commandWant := by
  obtain ⟨hq, hs, hw, hp, _, hu, ha, hc, hm, hb, hn⟩ := h
  have h1 : s.unitWant = none := by
    have hpw : s.postWant = none := by simp only [State.postWant, hp]
    have haw : s.activationWant = none := by
      simp only [State.activationWant, hm]
      cases hph : s.activation.phase <;> simp_all
    simp only [State.unitWant, State.settleWant, hw, hpw, haw]
    split <;> rfl
  have h2 : s.port.startupWant = none := by simp only [MemoryPort.startupWant, hu]
  simp only [State.want, hq, hs, h1, h2, State.noticeWant_of_none hn]
  rcases s.commandWant with _ | c <;> simp

/-- A command that is not in its execution phase has no turn. -/
theorem State.commandTurn_of_done {s : State} (h : s.commandDone = true) : s.commandTurn = none := by
  simp only [State.commandDone] at h
  rcases hr : s.run with _ | r
  · simp only [State.commandTurn, hr]
  · cases r <;> simp_all [State.commandTurn]

/-- A command that is not in its execution phase asks for nothing. -/
theorem State.commandWant_of_done {s : State} (h : s.commandDone = true) : s.commandWant = none := by
  simp only [State.commandDone] at h
  rcases hr : s.run with _ | r
  · simp only [State.commandWant, hr]
  · cases r <;> simp_all [State.commandWant]

/-- At rest, with no command in its execution phase, an event has no follow-on work. -/
theorem State.drive_of_resting {s : State} (h : s.resting) (hd : s.commandDone = true) : s.drive = s := by
  rw [State.drive_of_none ((State.turn_of_resting h).trans (State.commandTurn_of_done hd)),
    State.grant_of_none ((State.want_of_resting h).trans (State.commandWant_of_done hd))]

/-- At rest a command with no turn that asks for a read is granted a fill. -/
theorem State.drive_of_resting_read {s : State} {r : Reader} {a line : Nat} (h : s.resting) (ht : s.commandTurn = none)
    (hw : s.commandWant = some (.read r a)) (hv : s.cache.victim none = some line) :
    s.drive = ({ s with cache := s.cache.drop line } : State).onPort (.fill r a line (dirtyRecord (s.cache.line line))) := by
  rw [State.drive_of_none ((State.turn_of_resting h).trans ht),
    State.grant_of_read h.2.2.2.2.1 ((State.want_of_resting h).trans hw), State.beginFill_of_victim hv]

/-- At rest a command with no turn that asks for an operation is granted it. -/
theorem State.drive_of_resting_op {s : State} {o : PortOp} (h : s.resting) (ht : s.commandTurn = none)
    (hw : s.commandWant = some (.op o)) : s.drive = s.beginOp o := by
  rw [State.drive_of_none ((State.turn_of_resting h).trans ht),
    State.grant_of_op h.2.2.2.2.1 ((State.want_of_resting h).trans hw)]

/-- At rest a command whose turn leaves it with neither a turn nor a request is done with the event. -/
theorem State.drive_of_command {s t : State} (h : s.resting) (h' : t.resting) (hs : s.commandTurn = some t)
    (ht : t.commandTurn = none) (hw : t.commandWant = none) : s.drive = t := by
  rw [State.drive_of_one ((State.turn_of_resting h).trans hs) ((State.turn_of_resting h').trans ht),
    State.grant_of_none ((State.want_of_resting h').trans hw)]

/-- At rest a command whose turn ends its execution phase is done with the event. -/
theorem State.drive_of_ending {s t : State} (h : s.resting) (h' : t.resting) (hs : s.commandTurn = some t)
    (ht : t.commandDone = true) : s.drive = t :=
  State.drive_of_command h h' hs (State.commandTurn_of_done ht) (State.commandWant_of_done ht)

end Sys2Proof.Machine
end

