-- ==== Sys2Proof/Laws/Encoding.lean ====
section
/-! SUPPORT. The laws of the coding of fields, check codes and frames (chapter 12): what is written is read back. -/

namespace Sys2Proof.Machine

/-! ### Fields -/

/-- A field has its number of bytes. -/
@[simp] theorem be_length (n v : Nat) : (be n v).length = n := by
  induction n with
  | zero => rfl
  | succ n ih => simp [be, ih]

/-- A signed field has its number of bytes. -/
@[simp] theorem signedBe_length (n : Nat) (v : Int) : (signedBe n v).length = n := be_length _ _

/-- Bytes read after others. -/
theorem foldl_bytes (bytes : List Byte) (a : Nat) :
    bytes.foldl (fun v b => v * 256 + b.toNat) a = a * 256 ^ bytes.length + fromBe bytes := by
  induction bytes generalizing a with
  | nil => simp [fromBe]
  | cons b rest ih =>
    rw [fromBe, List.foldl_cons, List.foldl_cons, ih, ih (0 * 256 + b.toNat), List.length_cons]
    ring

/-- One byte before others. -/
theorem fromBe_cons (b : Byte) (rest : List Byte) : fromBe (b :: rest) = b.toNat * 256 ^ rest.length + fromBe rest := by
  have := foldl_bytes rest (0 * 256 + b.toNat)
  rw [Nat.zero_mul, Nat.zero_add] at this
  simpa [fromBe] using this

/-- A field reads as its value, modulo its width. -/
theorem fromBe_be_mod (n v : Nat) : fromBe (be n v) = v % 256 ^ n := by
  induction n with
  | zero => simp [be, fromBe, Nat.mod_one]
  | succ n ih =>
    rw [be, fromBe_cons, be_length, ih, BitVec.toNat_ofNat, Nat.pow_succ (n := 256), Nat.mod_mul,
      show (2 : Nat) ^ 8 = 256 by rfl, Nat.mul_comm, Nat.add_comm]

/-- A field reads as its value. -/
theorem fromBe_be {n v : Nat} (h : v < 256 ^ n) : fromBe (be n v) = v := by
  rw [fromBe_be_mod, Nat.mod_eq_of_lt h]

/-- A signed field reads as its value. -/
theorem fromSignedBe_signedBe {n : Nat} {v : Int} (h : -(256 ^ n : Nat) ≤ 2 * v) (h' : 2 * v < (256 ^ n : Nat)) :
    fromSignedBe (signedBe n v) = v := by
  have hpos : (0 : Int) < (256 ^ n : Nat) := by positivity
  have hnn := Int.emod_nonneg v hpos.ne'
  have hlt := Int.emod_lt_of_pos v hpos
  have hu : fromBe (signedBe n v) = (v % (256 ^ n : Nat)).toNat := fromBe_be (by omega)
  rw [fromSignedBe, hu, signedBe_length]
  rcases lt_or_ge v 0 with hv | hv
  · have : v % (256 ^ n : Nat) = v + (256 ^ n : Nat) := by
      rw [← Int.add_emod_right]
      exact Int.emod_eq_of_lt (by omega) (by omega)
    rw [if_neg (by omega)]
    omega
  · have : v % (256 ^ n : Nat) = v := Int.emod_eq_of_lt hv (by omega)
    rw [if_pos (by omega)]
    omega

/-- A slice that ends before more bytes. -/
theorem slice_append_left {a b : List Byte} {offset n : Nat} (h : offset + n ≤ a.length) :
    slice (a ++ b) offset n = slice a offset n := by
  simp only [slice]
  rw [List.drop_append_of_le_length (by omega), List.take_append_of_le_length (by rw [List.length_drop]; omega)]

/-- A slice that begins after some bytes. -/
theorem slice_append_right {a b : List Byte} {offset n : Nat} (h : a.length ≤ offset) :
    slice (a ++ b) offset n = slice b (offset - a.length) n := by
  obtain ⟨k, rfl⟩ := Nat.exists_eq_add_of_le h
  simp only [slice, List.drop_append, Nat.add_sub_cancel_left]
  rw [List.drop_of_length_le (by omega), List.nil_append]

/-- A whole run of bytes. -/
theorem slice_all (a : List Byte) : slice a 0 a.length = a := by simp [slice]

/-- A flag reads as it was written. -/
theorem flagOf_flagByte (b : Bool) : flagOf (fromBe [flagByte b]) = some b := by cases b <;> rfl

/-! ### The check code (R189) -/

/-- Bytes with their check code are good. -/
theorem checkGood_withCheck (bytes : List Byte) : checkGood (withCheck bytes) = true := by
  simp [checkGood, withCheck]

/-- Bytes with another check code are not. -/
theorem checkGood_other {bytes check : List Byte} (hl : check.length = 2) (h : check ≠ be 2 (checkCode bytes).toNat) :
    checkGood (bytes ++ check) = false := by
  simp [checkGood, withCheck, hl, h]

/-! ### Frames (R162 to R165) -/

/-- Bytes received while ASSEMBLING that do not yet make the frame whole. -/
theorem State.receive_assembling {s : State} {held more : List Byte} (h : s.link.receive = .assembling held)
    (hn : ∀ k, 1 ≤ k → k ≤ more.length → (held ++ more.take k).length ≠ frameLength (held ++ more.take k)) :
    more.foldl State.receiveByte s = s.setReceive (.assembling (held ++ more)) := by
  induction more generalizing s held with
  | nil =>
    rw [List.append_nil, List.foldl_nil, ← h]
    rfl
  | cons b rest ih =>
    have h1 := hn 1 (Nat.le_refl 1) (by simp)
    simp only [List.take_succ_cons, List.take_zero] at h1
    have hb : s.receiveByte b = s.setReceive (.assembling (held ++ [b])) := by
      simp only [State.receiveByte, h]
      rw [if_neg h1]
    rw [List.foldl_cons, hb, ih rfl ?_]
    · simp [State.setReceive]
    · intro k hk hk'
      have := hn (k + 1) (by omega) (by simpa using hk')
      simpa [List.take_succ_cons] using this

/-- The bytes of a frame of a stated length, received from HUNTING, are judged as a whole. -/
theorem State.receive_frame {s : State} (h : s.link.receive = .hunting) {n : Nat} (hn : n ≤ 255) {rest : List Byte}
    (hl : rest.length = n + 4) :
    (Config.startByte :: (be 1 n ++ rest)).foldl State.receiveByte s = s.judgeFrame (be 1 n ++ rest) := by
  have hf : ∀ tail : List Byte, frameLength (be 1 n ++ tail) = n + 5 := by
    intro tail
    rw [frameLength, field, slice_append_left (by simp)]
    have : slice (be 1 n) 0 1 = be 1 n := slice_all (be 1 n)
    rw [this, fromBe_be (by omega)]
  have hs : s.receiveByte Config.startByte = s.setReceive (.assembling []) := by
    simp only [State.receiveByte, h, if_true]
  obtain ⟨last, b, rfl⟩ := List.eq_nil_or_concat rest |>.resolve_left (by rintro rfl; simp at hl)
  rw [List.foldl_cons, hs]
  rw [List.concat_eq_append] at hl ⊢
  have split : be 1 n ++ (last ++ [b]) = (be 1 n ++ last) ++ [b] := by simp
  rw [split, List.foldl_append, State.receive_assembling (s := s.setReceive (.assembling [])) (held := []) rfl]
  · simp only [List.nil_append, List.foldl_cons, List.foldl_nil]
    have hlen : ((be 1 n ++ last) ++ [b]).length = frameLength ((be 1 n ++ last) ++ [b]) := by
      rw [← split, hf]
      simp at hl ⊢
      omega
    simp only [State.receiveByte, State.setReceive]
    rw [if_pos hlen]
    rfl
  · intro k hk hk'
    have e : ([] : List Byte) ++ (be 1 n ++ last).take k = be 1 n ++ last.take (k - 1) := by
      obtain ⟨j, rfl⟩ := Nat.exists_eq_add_of_le hk
      simp [be, List.take_succ_cons, Nat.add_comm 1 j]
    rw [e, hf]
    simp at hl ⊢
    omega

end Sys2Proof.Machine
end

