-- ==== Sys2Proof/Laws/Link.lean ====
section
/-! SUPPORT. How a good COMMAND frame is taken (R164, R166): once for all commands, so that a command's own lemma starts
from its rule. -/

namespace Sys2Proof.Machine

/-- A command whose parameters lie in range. -/
theorem Request.ofCommand_inRange {c : Command} (h : commandInRange c = true) : Request.ofCommand c = .command c := by
  simp only [Request.ofCommand, h, if_true]

/-- A command with a parameter out of range. -/
theorem Request.ofCommand_outOfRange {c : Command} (h : commandInRange c = false) :
    Request.ofCommand c = .faulty (BitVec.ofNat 8 (commandCode c)) := by
  simp only [Request.ofCommand, h, Bool.false_eq_true, if_false]

/-- A command's row is the arrival of its frame. -/
theorem exec_row (c : Command) (tag : Byte) (s : State) :
    exec (c.row tag) s = .next (s.arrive { tag := tag, request := Request.ofCommand c }) := by
  cases c <;> rfl

/-- A frame that no command and no RESTART holds up becomes the executing command. -/
theorem State.arrive_free {s : State} (h : s.link.executing = none) (h' : s.commandsHeld = false) (b : Buffered) :
    s.arrive b = s.begin b := by
  simp [State.arrive, h, h']

/-- A command in range is started. -/
theorem State.begin_command {s : State} (h : s.isQuiesced = false) (tag : Byte) (c : Command) :
    s.begin { tag := tag, request := .command c } =
      (s.install tag (BitVec.ofNat 8 (commandCode c))).startCommand c := by
  have h' : (s.install tag (BitVec.ofNat 8 (commandCode c))).isQuiesced = false := h
  simp only [State.begin, h', Bool.false_eq_true, if_false]

/-- A command in range that is accepted is started. -/
theorem exec_accepts {s : State} (h : s.accepts) {c : Command} (hc : commandInRange c = true) (tag : Byte) :
    exec (c.row tag) s = .next ((s.install tag (BitVec.ofNat 8 (commandCode c))).startCommand c) := by
  rw [exec_row, Request.ofCommand_inRange hc, State.arrive_free h.1 h.2.1, State.begin_command h.2.2]

/-- A started command that is answered. -/
theorem State.install_answer (s : State) (tag code : Byte) (outcome : OutcomeClass) (detail : Nat) (fields : List Byte) :
    (s.install tag code).answer outcome detail fields = s.answered tag code outcome detail fields := rfl

/-- A started command that goes on. -/
theorem State.install_setRun (s : State) (tag code : Byte) (run : Run) :
    (s.install tag code).setRun run = s.executing tag code run := rfl

/-- A feeder's number names it. -/
theorem feederOf_val (f : Feeder) : feederOf f.val = some f := by
  simp [feederOf, f.isLt]

end Sys2Proof.Machine
end

