-- ==== Sys2Proof/Laws/Memory.lean ====
section
/-! SUPPORT. The laws of account memory: a read after a write, and the canonical form that every write keeps. -/

namespace Sys2Proof.Machine

/-! ### The canonical form -/

/-- Being canonical above a bound, unfolded for a listed cell. -/
theorem memoryWfAbove_cons (bound : Option Nat) (k : Nat) (v : Byte) (rest : List Host.Cell) :
    memoryWfAbove bound ((k, v) :: rest) = true ↔
      (∀ b, bound = some b → b < k) ∧ v ≠ Config.unwritten ∧ memoryWfAbove (some k) rest = true := by
  cases bound <;> simp [memoryWfAbove, and_assoc]

/-- A lower bound may be lowered. -/
theorem memoryWfAbove_mono {m : List Host.Cell} {a b : Nat} (hab : a ≤ b) (h : memoryWfAbove (some b) m = true) :
    memoryWfAbove (some a) m = true := by
  cases m with
  | nil => rfl
  | cons c rest =>
    obtain ⟨k, v⟩ := c
    rw [memoryWfAbove_cons] at h ⊢
    refine ⟨fun x hx => ?_, h.2⟩
    have := h.1 b rfl
    simp only [Option.some.injEq] at hx
    omega

/-- A bound may be dropped. -/
theorem Memory.wf_of_above {m : List Host.Cell} {b : Nat} (h : memoryWfAbove (some b) m = true) : Memory.wf m = true := by
  cases m with
  | nil => rfl
  | cons c rest =>
    obtain ⟨k, v⟩ := c
    rw [memoryWfAbove_cons] at h
    rw [Memory.wf, memoryWfAbove_cons]
    exact ⟨by simp, h.2⟩

/-- An address at or below every listed one reads as unwritten. -/
theorem readByte_of_above {m : List Host.Cell} {b a : Nat} (h : memoryWfAbove (some b) m = true) (ha : a ≤ b) :
    readByte m a = Config.unwritten := by
  cases m with
  | nil => rfl
  | cons c rest =>
    obtain ⟨k, v⟩ := c
    have hk := ((memoryWfAbove_cons _ _ _ _).1 h).1 b rfl
    simp only [readByte]
    rw [if_neg (by omega), if_pos (by omega)]

/-- A written byte keeps the form above any bound below its address. -/
theorem writeByte_wfAbove {m : List Host.Cell} {bound : Option Nat} {a : Nat} (v : Byte)
    (hb : ∀ b, bound = some b → b < a) (h : memoryWfAbove bound m = true) :
    memoryWfAbove bound (writeByte m a v) = true := by
  induction m generalizing bound with
  | nil =>
    simp only [writeByte]
    split
    · exact h
    · rename_i hv
      rw [memoryWfAbove_cons]
      exact ⟨hb, hv, rfl⟩
  | cons c rest ih =>
    obtain ⟨k, w⟩ := c
    have h' := (memoryWfAbove_cons _ _ _ _).1 h
    simp only [writeByte]
    split
    · rename_i hak
      split
      · exact h
      · rename_i hv
        rw [memoryWfAbove_cons, memoryWfAbove_cons]
        exact ⟨hb, hv, ⟨fun b hb' => by simp at hb'; omega, h'.2⟩⟩
    · split
      · rename_i hak
        split
        · cases bound with
          | none => exact Memory.wf_of_above h'.2.2
          | some b => exact memoryWfAbove_mono (Nat.le_of_lt (h'.1 b rfl)) h'.2.2
        · rename_i hv
          rw [memoryWfAbove_cons]
          exact ⟨hb, hv, by rw [hak]; exact h'.2.2⟩
      · rw [memoryWfAbove_cons]
        exact ⟨h'.1, h'.2.1, ih (fun b hb' => by simp at hb'; omega) h'.2.2⟩

/-- A written byte keeps the canonical form. -/
theorem Memory.wf_writeByte {m : List Host.Cell} (a : Nat) (v : Byte) (h : Memory.wf m = true) :
    Memory.wf (writeByte m a v) = true := writeByte_wfAbove v (by simp) h

/-- Written bytes keep the canonical form. -/
theorem Memory.wf_writeBytes {m : List Host.Cell} (a : Nat) (bytes : List Byte) (h : Memory.wf m = true) :
    Memory.wf (writeBytes m a bytes) = true := by
  induction bytes generalizing m a with
  | nil => exact h
  | cons b rest ih => exact ih _ (Memory.wf_writeByte a b h)

/-- A written unit keeps the canonical form. -/
theorem Memory.wf_writeUnit {m : List Host.Cell} (place : Nat) (bytes : List Byte) (h : Memory.wf m = true) :
    Memory.wf (writeUnit m place bytes) = true := Memory.wf_writeBytes _ _ h

/-! ### A read after a write -/

/-- What a byte reads as after a byte has been written, above any bound. -/
theorem readByte_writeByte_above {m : List Host.Cell} {bound : Option Nat} (a b : Nat) (v : Byte)
    (h : memoryWfAbove bound m = true) : readByte (writeByte m a v) b = if b = a then v else readByte m b := by
  induction m generalizing bound with
  | nil =>
    simp only [writeByte]
    split
    · rename_i hv
      split
      · rw [hv]; rfl
      · rfl
    · simp only [readByte]
      split <;> simp
  | cons c rest ih =>
    obtain ⟨k, w⟩ := c
    have h' := (memoryWfAbove_cons _ _ _ _).1 h
    simp only [writeByte]
    split
    · rename_i hak
      split
      · rename_i hv
        by_cases hba : b = a
        · rw [if_pos hba, hv]
          simp only [readByte]
          rw [if_neg (by omega), if_pos (by omega)]
        · rw [if_neg hba]
      · simp only [readByte]
        by_cases hba : b = a
        · simp [hba]
        · rw [if_neg hba, if_neg hba]
          split
          · rw [if_neg (by omega), if_pos (by omega)]
          · rfl
    · split
      · rename_i hak
        subst hak
        split
        · rename_i hv
          by_cases hba : b = a
          · rw [if_pos hba, hv, hba]
            exact readByte_of_above h'.2.2 (Nat.le_refl a)
          · rw [if_neg hba]
            simp only [readByte]
            rw [if_neg hba]
            split
            · exact readByte_of_above h'.2.2 (by omega)
            · rfl
        · simp only [readByte]
          by_cases hba : b = a
          · simp [hba]
          · simp [hba]
      · simp only [readByte]
        rw [ih h'.2.2]
        split
        · rename_i hbk
          rw [if_neg (by omega)]
        · split
          · rename_i hbk
            rw [if_neg (by omega)]
          · rfl

/-- What a byte reads as after a byte has been written. -/
theorem readByte_writeByte {m : List Host.Cell} (a b : Nat) (v : Byte) (h : Memory.wf m = true) :
    readByte (writeByte m a v) b = if b = a then v else readByte m b := readByte_writeByte_above a b v h

/-- A byte outside the bytes written reads as before. -/
theorem readByte_writeBytes_outside {m : List Host.Cell} {a b : Nat} {bytes : List Byte} (h : Memory.wf m = true)
    (hb : b < a ∨ a + bytes.length ≤ b) : readByte (writeBytes m a bytes) b = readByte m b := by
  induction bytes generalizing m a with
  | nil => rfl
  | cons x rest ih =>
    simp only [List.length_cons] at hb
    rw [writeBytes, ih (Memory.wf_writeByte a x h) (by omega), readByte_writeByte a b x h, if_neg (by omega)]

/-- The bytes written are read back. -/
theorem readBytes_writeBytes {m : List Host.Cell} (a : Nat) (bytes : List Byte) (h : Memory.wf m = true) :
    readBytes (writeBytes m a bytes) a bytes.length = bytes := by
  induction bytes generalizing m a with
  | nil => rfl
  | cons x rest ih =>
    have hw := Memory.wf_writeByte a x h
    rw [writeBytes, List.length_cons, readBytes, ih (a + 1) hw, readByte_writeBytes_outside hw (by omega),
      readByte_writeByte a a x h, if_pos rfl]

/-- Bytes read before the first of a longer run are its beginning. -/
theorem readBytes_take (m : List Host.Cell) (a n k : Nat) (h : n ≤ k) : readBytes m a n = (readBytes m a k).take n := by
  induction n generalizing a k with
  | zero => rfl
  | succ n ih =>
    cases k with
    | zero => omega
    | succ k => rw [readBytes, readBytes, List.take_succ_cons, ih (a + 1) k (by omega)]

/-- A place holds 32 bytes. -/
theorem placeBytes_length {bytes : List Byte} (h : bytes.length ≤ Config.placeSize) :
    (placeBytes bytes).length = Config.placeSize := by
  simp only [placeBytes, List.length_append, List.length_replicate]
  omega

/-- A unit written is read back whole. -/
theorem readBytes_writeUnit {m : List Host.Cell} (place : Nat) {bytes : List Byte} (h : Memory.wf m = true) :
    readBytes (writeUnit m place bytes) place bytes.length = bytes := by
  have hp := readBytes_writeBytes place (placeBytes bytes) h
  rw [writeUnit, readBytes_take _ _ _ (placeBytes bytes).length (by simp [placeBytes]), hp, placeBytes,
    List.take_left]

/-- A byte outside a unit's place reads as before. -/
theorem readByte_writeUnit_outside {m : List Host.Cell} {place b : Nat} {bytes : List Byte} (h : Memory.wf m = true)
    (hl : bytes.length ≤ Config.placeSize) (hb : b < place ∨ place + Config.placeSize ≤ b) :
    readByte (writeUnit m place bytes) b = readByte m b :=
  readByte_writeBytes_outside h (by rw [placeBytes_length hl]; exact hb)

end Sys2Proof.Machine
end

