-- ==== Sys2Proof/Laws/Ports.lean ====
section
/-! SUPPORT. A feeder port replaced twice and read back, and what a feeder that goes OFF and an enrolment that ends leave
(R13, R19); what a completed fill does for the prefetches that wait (R136, R158). -/

namespace Sys2Proof.Machine

/-- A port replaced is read back. -/
@[simp] theorem State.setPort_self (s : State) (f : Feeder) (p : FeederPort) : (s.setPort f p).ports[f] = p := by
  simp [State.setPort]

/-- The other ports stay. -/
theorem State.setPort_other (s : State) {f g : Feeder} (h : f ≠ g) (p : FeederPort) :
    (s.setPort f p).ports[g] = s.ports[g] := by
  have : f.val ≠ g.val := fun e => h (Fin.ext e)
  simp [State.setPort, this]

/-- A port replaced twice holds the later one. -/
@[simp] theorem State.setPort_setPort (s : State) (f : Feeder) (p q : FeederPort) :
    (s.setPort f p).setPort f q = s.setPort f q := by
  simp [State.setPort]

/-- A port changed twice. -/
@[simp] theorem State.modifyPort_modifyPort (s : State) (f : Feeder) (g h : FeederPort → FeederPort) :
    (s.modifyPort f g).modifyPort f h = s.modifyPort f fun p => h (g p) := by
  simp only [State.modifyPort, State.setPort_self, State.setPort_setPort]

/-- A port changed is a port replaced. -/
theorem State.modifyPort_eq (s : State) (f : Feeder) (g : FeederPort → FeederPort) :
    s.modifyPort f g = s.setPort f (g s.ports[f]) := rfl

/-- A port replaced and then changed. -/
@[simp] theorem State.modifyPort_setPort (s : State) (f : Feeder) (p : FeederPort) (g : FeederPort → FeederPort) :
    (s.setPort f p).modifyPort f g = s.setPort f (g p) := by
  simp only [State.modifyPort, State.setPort_self, State.setPort_setPort]

/-- A port replaced by itself. -/
@[simp] theorem State.setPort_same (s : State) (f : Feeder) : s.setPort f s.ports[f] = s := by
  simp [State.setPort]

/-- What an enrolment's end leaves (R19). -/
theorem State.endEnrolment_eq (s : State) (f : Feeder) (ending : EnrolEnding) :
    s.endEnrolment f ending =
      ({ s with attention := s.attention.raise (.enrolDone f.val ending s.ports[f].enrolment.others
          s.ports[f].enrolment.counted) } : State).setPort f
        { s.ports[f] with enrolment :=
            if s.attention.drops (.enrolDone f.val ending s.ports[f].enrolment.others s.ports[f].enrolment.counted) then
              .free
            else { s.ports[f].enrolment with condition := .ended ending, counting := false } } := rfl

/-- What a feeder that goes OFF leaves (R13, R19). -/
theorem State.feederOff_eq (s : State) (f : Feeder) :
    s.feederOff f =
      (let item : Attention := .enrolDone f.val .notHeard s.ports[f].enrolment.others s.ports[f].enrolment.counted
       if s.ports[f].enrolment.condition = .listening then
         ({ s with attention := s.attention.raise item } : State).setPort f
           { s.ports[f].stop .off with
             enrolment := if s.attention.drops item then .free
                          else { s.ports[f].enrolment with condition := .ended .notHeard, counting := false } }
       else s.setPort f (s.ports[f].stop .off)) := by
  simp only [State.feederOff, State.modifyPort, State.setPort_self, State.endEnrolment_eq]
  have h : (s.ports[f].stop .off).enrolment = s.ports[f].enrolment := rfl
  simp only [h]
  split
  · simp only [State.setPort, Vector.set_set]; rfl
  · rfl

/-! ### Prefetches served by a fill (R136, R158) -/

/-- Serving one prefetch leaves the other ports as they are. -/
theorem State.servePrefetch_other (s : State) {f g : Feeder} (h : f ≠ g) (a : Nat) :
    (s.servePrefetch f a).ports[g] = s.ports[g] := by
  unfold State.servePrefetch
  split <;> exact State.setPort_other _ h _

/-- A fill whose account no prefetch waits for serves none. -/
theorem State.fillArrived_none (s : State) (a : Nat) (h : ∀ f : Feeder, s.ports[f].prefetch ≠ .waiting a) :
    s.fillArrived a = s := by
  have all (fs : List Feeder) :
      fs.foldl (fun s f => if s.ports[f].prefetch = .waiting a then s.servePrefetch f a else s) s = s := by
    induction fs with
    | nil => rfl
    | cons f fs ih => rw [List.foldl_cons, if_neg (h f), ih]
  exact all _

/-- A fill whose account one prefetch alone waits for serves that one. -/
theorem State.fillArrived_one (s : State) (a : Nat) (f : Feeder) (waits : s.ports[f].prefetch = .waiting a)
    (alone : ∀ g : Feeder, g ≠ f → s.ports[g].prefetch ≠ .waiting a) : s.fillArrived a = s.servePrefetch f a := by
  have others (t : State) (fs : List Feeder) (hf : f ∉ fs) (ht : ∀ g : Feeder, g ≠ f → t.ports[g].prefetch ≠ .waiting a) :
      fs.foldl (fun s f => if s.ports[f].prefetch = .waiting a then s.servePrefetch f a else s) t = t := by
    induction fs with
    | nil => rfl
    | cons g fs ih =>
      have hg : g ≠ f := fun e => hf (e ▸ List.mem_cons_self)
      rw [List.foldl_cons, if_neg (ht g hg), ih fun m => hf (List.mem_cons_of_mem _ m)]
  have served (g : Feeder) (hg : g ≠ f) : (s.servePrefetch f a).ports[g].prefetch ≠ .waiting a := by
    rw [State.servePrefetch_other s hg.symm]
    exact alone g hg
  obtain ⟨front, back, split⟩ := List.append_of_mem (List.mem_finRange f)
  have nodup : (front ++ f :: back).Nodup := split ▸ List.nodup_finRange 4
  have apart := List.nodup_append.1 nodup
  unfold State.fillArrived
  rw [split, List.foldl_append, List.foldl_cons,
    others s front (fun m => apart.2.2 f m f List.mem_cons_self rfl) alone, if_pos waits,
    others _ back (List.nodup_cons.1 apart.2.1).1 served]

end Sys2Proof.Machine
end

