-- ==== Sys2Proof/Laws/Settlement.lean ====
section
/-! SUPPORT. What one turn of the Settlement Unit can do, and what a step of a redirect walk reads and keeps. -/

namespace Sys2Proof.Machine

/-- A use moves no line: every account is found as before. -/
@[simp] theorem Cache.lookup_touch (c : Cache) (i account : Nat) : (c.touch i).lookup account = c.lookup account := rfl

/-- A read of a good line finds its record. -/
theorem State.found_of_good {s : State} {a line : Nat} {r : AccountRecord} (h : s.cache.lookup a = .good line r) :
    s.found a = some (line, some r) := by simp only [State.found, h]

/-- A read of a DAMAGED line finds the mark. -/
theorem State.found_of_damaged {s : State} {a line : Nat} (h : s.cache.lookup a = .damaged line) :
    s.found a = some (line, none) := by simp only [State.found, h]

/-- A read finds nothing exactly where the cache misses. -/
theorem State.found_eq_none {s : State} {a : Nat} : s.found a = none ↔ s.cache.lookup a = .miss := by
  simp only [State.found]
  cases s.cache.lookup a <;> simp

/-- A whole copy stays as read (R91). -/
theorem Work.copiesWith_of_good {w : Work} {a : Nat} {x : AccountRecord} (r : Option AccountRecord)
    (h : goodCopy w.copies a = some x) : w.copiesWith a r = w.copies := by
  simp only [Work.copiesWith, h, Option.isSome_some, if_true]

/-- Without a whole copy, what the walk read is copied. -/
theorem Work.copiesWith_of_none {w : Work} {a : Nat} (r : Option AccountRecord) (h : goodCopy w.copies a = none) :
    w.copiesWith a r = (a, r) :: w.copies := by
  simp only [Work.copiesWith, h, Option.isSome_none, Bool.false_eq_true, if_false]

/-- Everything a turn of the Settlement Unit can do: a record of R91 read, the stages computed, a step of a walk, or the
end of SETTLING. -/
theorem State.settleTurn_cases {s t : State} (h : s.settleTurn = some t) :
    ∃ w b, s.work = some w ∧ s.book w.book = some b ∧ b.state = .settling ∧
      ((w.stage = .reading ∧
          ((∃ a rest line r, w.toRead = a :: rest ∧ s.found a = some (line, r) ∧ t = s.copyRecord w a line r) ∨
           (w.toRead = [] ∧ t = s.computeStages w b))) ∨
       (w.stage = .walking ∧
          ((∃ a rest line r, w.aims = a :: rest ∧ s.found a.reached = some (line, r) ∧ t = s.walkStep w a rest line r) ∨
           (w.aims = [] ∧ t = s.finishSettling w b)))) := by
  rcases hw : s.work with _ | w
  · simp [State.settleTurn, hw] at h
  rcases hb : s.book w.book with _ | b
  · simp [State.settleTurn, hw, hb] at h
  by_cases hs : b.state = .settling
  · refine ⟨w, b, rfl, hb, hs, ?_⟩
    simp only [State.settleTurn, hw, hb, hs, bne_self_eq_false, Bool.false_eq_true, if_false] at h
    rcases hst : w.stage <;> simp only [hst] at h
    · left
      rcases hr : w.toRead with _ | ⟨a, rest⟩ <;> simp only [hr] at h
      · exact ⟨rfl, .inr ⟨rfl, (Option.some.inj h).symm⟩⟩
      · obtain ⟨x, hx, rfl⟩ := Option.map_eq_some_iff.mp h
        exact ⟨rfl, .inl ⟨a, rest, x.1, x.2, rfl, hx, rfl⟩⟩
    · right
      rcases hr : w.aims with _ | ⟨a, rest⟩ <;> simp only [hr] at h
      · exact ⟨rfl, .inr ⟨rfl, (Option.some.inj h).symm⟩⟩
      · obtain ⟨x, hx, rfl⟩ := Option.map_eq_some_iff.mp h
        exact ⟨rfl, .inl ⟨a, rest, x.1, x.2, rfl, hx, rfl⟩⟩
    · exact absurd h (by simp)
  · simp [State.settleTurn, hw, hb, hs] at h

end Sys2Proof.Machine
end

