-- ==== Sys2Proof/Machine/Bus.lean ====
section
/-! DEFINITION. What the operation in progress puts on the account memory's serial port (section 12.4): the transactions
of an operation, with the bytes the engine sends in each. It is output alone: the operation's completion is its row of the
opcode table. -/

namespace Sys2Proof.Machine

/-- A transaction on the port, from select to release. -/
inductive BusTransaction where
  | read (address size : Nat)
  | writeEnable
  | write (address : Nat) (data : List Byte)
  | readStatus
  deriving DecidableEq, Repr

/-- The bytes the engine sends: command byte, 16-bit byte address, and the data of a write. -/
def BusTransaction.sent : BusTransaction → List Byte
  | .read address _ => [0x03] ++ be 2 address
  | .writeEnable => [0x06]
  | .write address data => [0x02] ++ be 2 address ++ data
  | .readStatus => [0x05]

/-- The bytes a transaction takes back: a unit's, or a status byte. -/
def BusTransaction.taken : BusTransaction → Nat
  | .read _ size => size
  | .readStatus => 1
  | .writeEnable | .write _ _ => 0

/-- Whether a status byte ends the status reads: bit 0 is 0. -/
def statusReady (status : Byte) : Bool := !status.getLsbD 0

/-- The three steps of a write of a unit; its status reads repeat until a status byte is ready. -/
def writeTransactions (place : Nat) (bytes : List Byte) (statusReads : Nat) : List BusTransaction :=
  [.writeEnable, .write place (placeBytes bytes)] ++ List.replicate statusReads .readStatus

/-- The transactions of an operation, each write with as many status reads as its write cycle takes. -/
def State.transactions (s : State) (o : PortOp) (statusReads : Nat) : List BusTransaction :=
  let record (account : Nat) (r : AccountRecord) : List BusTransaction :=
    writeTransactions (Config.recordPlace account) (recordBytes account r) statusReads
  let header (marker : Nat) (h : Header) : List BusTransaction :=
    writeTransactions Config.headerPlace (headerBytes marker h) statusReads
  match o with
  | .fill _ account _ victim =>
    (match victim with | some v => record v.1 v.2 | none => []) ++ [.read (Config.recordPlace account) Config.recordSize]
  | .writeBack _ line account =>
    match s.cache.line line with
    | some { tag := t, record := some r, .. } => if t = account then record account r else []
    | _ => []
  | .journalEntry _ place image =>
    writeTransactions (Config.journalPlace place) (recordBytes image.account image.record) statusReads
  | .journalHeader _ h | .journalClear _ h | .startupHeaderWrite h => header Config.marker h
  | .repairRecord account r | .replayRecord account r => record account r
  | .startupHeaderRead | .initReadback => [.read Config.headerPlace Config.headerSize]
  | .journalVerifyRead place => [.read (Config.journalPlace place) Config.recordSize]
  | .initHeader final => header (if final then Config.marker else 0) freshHeader
  | .initRecord account => record account freshRecord

/-- What the port sends for the operation in progress. -/
def State.busBytes (s : State) (statusReads : Nat) : List (List Byte) :=
  match s.port.inProgress with
  | some o => (s.transactions o statusReads).map BusTransaction.sent
  | none => []

end Sys2Proof.Machine
end

