-- ==== Sys2Proof/WellFormed.lean ====
section
/-! DEFINITION. Which commands and events a sender can form: a station command whose parameters lie in range (R166,
R191), bytes and bodies that fit their frame, units of their size, characters in the order in which a line carries
them. The machine has a meaning for the others too. -/

namespace Sys2Proof

/-- A body fits a frame (section 10.1). -/
def bodyFits (body : List Byte) : Bool := body.length ≤ 255

/-- A body that names no command (R166). -/
def namesNoCommand (body : List Byte) : Bool :=
  match Machine.requestOf body with
  | .unknown _ => true
  | _ => false

/-- What the memory returns for a unit has the unit's size (section 12.4). -/
def unitFits (size : Nat) (returned : Option (List Byte)) : Bool :=
  match returned with
  | some bytes => bytes.length == size
  | none => true

/-- Characters one after another, from a time on: none ends before it begins or begins before the one before it ends. -/
def inOrder : Nat → List LineChar → Bool
  | _, [] => true
  | t, c :: rest => t ≤ c.start && c.start ≤ c.stop && inOrder c.stop rest

/-- The characters of one receive window: in order, and all begun within it (R3). -/
def windowHears (heard : List LineChar) : Bool := inOrder 0 heard && heard.all (fun c => c.start < Config.window)

/-- Samples of a whole number of characters (R4). -/
def wholeCharacters (readback : List Sample) : Bool := readback.length % 10 == 0

/-- Whether a row's operands are well formed. -/
def Instr.wellFormed : Instr → Bool
  | .hardwareReset left => unitFits 32 left
  | .powerWarningAsserted => true
  | .powerWarningReleased => true
  | .frameReceived _ => true
  | .frameGapTimeout _ => true
  | .unknownCommand _ body => bodyFits body && namesNoCommand body
  | .resultQueued => true
  | .blockQueued => true
  | .statement => true
  | .frameSent => true
  | .readAccount _ a => Machine.commandInRange (.readAccount a)
  | .readParticipant _ i c => Machine.commandInRange (.readParticipant i c)
  | .readFeeder _ f c => Machine.commandInRange (.readFeeder f c)
  | .readBand _ p c => Machine.commandInRange (.readBand p c)
  | .readBook _ b p => Machine.commandInRange (.readBook b p)
  | .readRoundStatus _ f => Machine.commandInRange (.readRoundStatus f)
  | .readClock _ => true
  | .readEngine _ => true
  | .sweepAccounts _ o => Machine.commandInRange (.sweepAccounts o)
  | .scanAccounts _ o => Machine.commandInRange (.scanAccounts o)
  | .hold _ f => Machine.commandInRange (.hold f)
  | .resume _ f => Machine.commandInRange (.resume f)
  | .enrol _ f n serial => Machine.commandInRange (.enrol f n serial)
  | .rebase _ i => Machine.commandInRange (.rebase i)
  | .stageParticipant _ i e => Machine.commandInRange (.stageParticipant i e)
  | .stageFeeder _ f e => Machine.commandInRange (.stageFeeder f e)
  | .stageGeneral _ g w => Machine.commandInRange (.stageGeneral g w)
  | .stageBand _ p b => Machine.commandInRange (.stageBand p b)
  | .clearBands _ => true
  | .stageCopy _ => true
  | .activate _ => true
  | .disarm _ => true
  | .setClock _ d t w => Machine.commandInRange (.setClock d t w)
  | .releaseBook _ m => Machine.commandInRange (.releaseBook m)
  | .discardBook _ m => Machine.commandInRange (.discardBook m)
  | .transfer _ o => Machine.commandInRange (.transfer o)
  | .repairAccount _ o => Machine.commandInRange (.repairAccount o)
  | .flush _ => true
  | .initAccountMemory _ => true
  | .senseAttention _ => true
  | .restart _ _ => true
  | .headWindowOpen _ => true
  | .headWindowClose _ readback => wholeCharacters readback
  | .orderWindowOpen _ => true
  | .orderWindowClose _ readback => wholeCharacters readback
  | .meterSlotClose _ heard => windowHears heard
  | .noticeWindowOpen _ => true
  | .noticeWindowClose _ readback => wholeCharacters readback
  | .quietWindowClose _ heard => windowHears heard
  | .clockTick => true
  | .intervalBoundary => true
  | .collectionDeadline => true
  | .cacheFill returned => unitFits Config.recordSize returned
  | .cacheWriteBack => true
  | .journalEntryWrite => true
  | .journalHeaderWrite => true
  | .journalHeaderClear => true
  | .repairRecordWrite => true
  | .startupHeaderRead returned => unitFits Config.headerSize returned
  | .journalVerifyRead returned => unitFits Config.recordSize returned
  | .replayRecordWrite => true
  | .startupHeaderWrite => true
  | .initHeaderWrite => true
  | .initRecordWrite => true
  | .initHeaderReadback returned => unitFits Config.headerSize returned
  | .byteWithoutStopBit => true

end Sys2Proof
end

