-- ==== Sys2Proof/Tests/Slice0.lean ====
section
/-! SUPPORT. The model's own tests: a refused term for each check of well-formedness, worked examples of the spec, bytes
written out from section 12.3 and decoded, and for each statement with hypotheses a state and operands that meet them. -/

namespace Sys2Proof.Tests

set_option Elab.async false

open Sys2Proof Sys2Proof.Machine

/-! ### Well-formedness: a term that each check refuses -/

theorem test_wf_left : (Instr.hardwareReset (some [])).wellFormed = false := by decide
theorem test_wf_unknown_names_none : (Instr.unknownCommand 0 [0x48]).wellFormed = false := by decide +kernel
theorem test_wf_unknown_fits : (Instr.unknownCommand 0 (List.replicate 256 0xFF)).wellFormed = false := by decide +kernel
theorem test_wf_readAccount : (Instr.readAccount 0 196).wellFormed = false := by decide
theorem test_wf_readParticipant : (Instr.readParticipant 0 192 .active).wellFormed = false := by decide
theorem test_wf_readFeeder : (Instr.readFeeder 0 4 .staged).wellFormed = false := by decide
theorem test_wf_readBand : (Instr.readBand 0 12 .active).wellFormed = false := by decide
theorem test_wf_readBook : (Instr.readBook 0 (.startMinute 94371840) .summary).wellFormed = false := by decide
theorem test_wf_readBook_members : (Instr.readBook 0 .newest (.members 192)).wellFormed = false := by decide
theorem test_wf_readRoundStatus : (Instr.readRoundStatus 0 4).wellFormed = false := by decide
theorem test_wf_sweep_order :
    (Instr.sweepAccounts 0 { first := 7, last := 6, step := 1, filter := .all }).wellFormed = false := by decide
theorem test_wf_sweep_step :
    (Instr.sweepAccounts 0 { first := 0, last := 195, step := 17, filter := .all }).wellFormed = false := by decide
theorem test_wf_scan_threshold :
    (Instr.scanAccounts 0 { first := 0, last := 195, step := 1, comparison := .equal, threshold := 140737488355328,
                            skipSuspended := false }).wellFormed = false := by decide
theorem test_wf_hold : (Instr.hold 0 4).wellFormed = false := by decide
theorem test_wf_resume : (Instr.resume 0 4).wellFormed = false := by decide
theorem test_wf_enrol : (Instr.enrol 0 0 0 0).wellFormed = false := by decide
theorem test_wf_rebase : (Instr.rebase 0 192).wellFormed = false := by decide
theorem test_wf_stageParticipant : (Instr.stageParticipant 0 0 { emptyEntry with serial := 0 }).wellFormed = false := by
  decide
theorem test_wf_stageFeeder : (Instr.stageFeeder 0 0 { enabled := true, slotCount := 49 }).wellFormed = false := by decide
theorem test_wf_stageGeneral :
    (Instr.stageGeneral 0 { interval := 20, grace := 60 } (Vector.replicate 7 .work)).wellFormed = false := by decide
theorem test_wf_stageBand :
    (Instr.stageBand 0 0 (some { dayClass := .both, start := 1440, gridPrice := 0, feedPrice := 0, share := 0,
                                 fee := 0 })).wellFormed = false := by decide
theorem test_wf_setClock : (Instr.setClock 0 0 86400 0).wellFormed = false := by decide
theorem test_wf_releaseBook : (Instr.releaseBook 0 94371840).wellFormed = false := by decide
theorem test_wf_discardBook : (Instr.discardBook 0 94371840).wellFormed = false := by decide
theorem test_wf_transfer : (Instr.transfer 0 { payer := 3, payee := 3, amount := 1, mode := .forced }).wellFormed = false := by
  decide
theorem test_wf_repair :
    (Instr.repairAccount 0 { account := 192, balance := 1, baseExport := 0, baseImport := 0, baseMinute := none,
                             standing := .current }).wellFormed = false := by decide
theorem test_wf_readback : (Instr.headWindowClose 0 [⟨true, true, true⟩]).wellFormed = false := by decide
theorem test_wf_order_readback : (Instr.orderWindowClose 0 [⟨true, true, true⟩]).wellFormed = false := by decide
theorem test_wf_notice_readback : (Instr.noticeWindowClose 0 [⟨true, true, true⟩]).wellFormed = false := by decide
theorem test_wf_heard : (Instr.meterSlotClose 0 [⟨5000, 4000, 0x52, true⟩]).wellFormed = false := by decide
theorem test_wf_heard_quiet : (Instr.quietWindowClose 0 [⟨40000, 41000, 0x55, true⟩]).wellFormed = false := by decide
theorem test_wf_fill : (Instr.cacheFill (some [])).wellFormed = false := by decide
theorem test_wf_header : (Instr.startupHeaderRead (some [])).wellFormed = false := by decide
theorem test_wf_entry : (Instr.journalVerifyRead (some [])).wellFormed = false := by decide
theorem test_wf_readback_header : (Instr.initHeaderReadback (some [])).wellFormed = false := by decide

/-! ### Worked examples and bounds of the spec -/

/-- R189: over the characters "123456789" the code is 29B1h. -/
theorem test_check_code : checkCode [0x31, 0x32, 0x33, 0x34, 0x35, 0x36, 0x37, 0x38, 0x39] = 0x29B1#16 := by decide +kernel

/-- Section 6.3.1: four sellers of 400, 400, 400 and 300 Wh share 700 Wh. -/
theorem test_shares :
    ([(10, 400), (11, 400), (12, 400), (13, 300)].map fun g : Nat × Nat =>
      shareOf 700 1500 [(10, 400), (11, 400), (12, 400), (13, 300)] g.1 g.2) = [187, 187, 186, 140] := by decide +kernel

/-- R98: the largest amount, of 16,777,215 Wh at 1,099,998 mc per kWh, is 18,454,902,946 mc. -/
theorem test_largest_amount : amountUp 16777215 1099998 = 18454902946 := by decide

/-- R34: a counter that wrapped. -/
theorem test_raw_delta_wraps : rawDelta 5#32 4294967290#32 = 11 := by decide

/-- R158: whole credits are truncated toward zero and held. -/
theorem test_whole_credits : wholeCredits (-1999) = -1 ∧ wholeCredits 9000000000 = 8388607 := by decide

/-- R75: the close mark wraps from 255 to 0. -/
theorem test_mark_wraps : (255#8 : Mark) + 1 = 0 := by decide

/-- R69: the clock stands at its last second and advances no further. -/
theorem test_clock_stops :
    ({ day := 65535, second := 86399, weekday := 0, isSet := true, mark := 0, openStart := none, boundaryDue := false } :
      DayClock).advance.day = 65535 := by decide

/-! ### Command bodies, written out from the command table of section 12.3 -/

theorem test_decode_hold : requestOf [0x10, 2] = .command (.hold 2) := by decide +kernel
theorem test_decode_sweep :
    requestOf [0x09, 0, 195, 1, 2] = .command (.sweepAccounts { first := 0, last := 195, step := 1, filter := .arrears }) := by
  decide +kernel
theorem test_decode_scan :
    requestOf [0x0A, 0, 191, 1, 1, 0xFF, 0xFF, 0xFF, 0xFF, 0xFF, 0xFF, 1] =
      .command (.scanAccounts { first := 0, last := 191, step := 1, comparison := .atMost, threshold := -1,
                                skipSuspended := true }) := by decide +kernel
theorem test_decode_stage_participant :
    requestOf [0x20, 5, 1, 0, 0, 0, 0x9C, 0xAF, 2, 0, 0, 60, 0xFF, 0xFF, 0xFF, 0xFF, 0xFE, 0x0C, 0x03, 0xE8, 1, 9, 2] =
      .command (.stageParticipant 5
        { kind := .household, status := .active, serial := 40111, feeder := 2, slot := 0, ceiling := 60,
          creditFloor := -500, limit := 1000, redirect := some { target := 9, scope := .all } }) := by decide +kernel
theorem test_decode_stage_general :
    requestOf [0x22, 30, 0, 90, 0, 0, 0, 0, 0, 1, 1] =
      .command (.stageGeneral { interval := 30, grace := 90 } #v[.work, .work, .work, .work, .work, .rest, .rest]) := by
  decide +kernel
theorem test_decode_stage_band_absent :
    requestOf [0x23, 4, 0, 0, 0, 0, 0, 0, 0, 0, 0, 0, 0, 0, 0, 0, 0] = .command (.stageBand 4 none) := by decide +kernel
theorem test_decode_set_clock : requestOf [0x30, 0, 7, 0, 1, 0x51, 0x7F, 6] = .command (.setClock 7 86399 6) := by
  decide +kernel
theorem test_decode_transfer :
    requestOf [0x40, 3, 193, 0, 0, 0, 0, 0x27, 0x10, 1] =
      .command (.transfer { payer := 3, payee := 193, amount := 10000, mode := .forced }) := by decide +kernel
theorem test_decode_repair :
    requestOf [0x41, 8, 0xFF, 0xFF, 0xFF, 0xFF, 0xFF, 0x9C, 0, 0, 0, 1, 0, 0, 0, 2, 1, 0, 0, 5, 0xA0, 1] =
      .command (.repairAccount { account := 8, balance := -100, baseExport := 1, baseImport := 2, baseMinute := some 1440,
                                 standing := .arrears }) := by decide +kernel
/-- R191: a presence byte of 0 asks for zeros behind it. -/
theorem test_decode_absent_not_zero : requestOf [0x23, 4, 0, 1, 0, 0, 0, 0, 0, 0, 0, 0, 0, 0, 0, 0, 0] = .faulty 0x23 := by
  decide +kernel
/-- R166: a body longer than its command requires is a parameter fault. -/
theorem test_decode_too_long : requestOf [0x48, 0] = .faulty 0x48 := by decide +kernel
theorem test_decode_unknown : requestOf [0x4A] = .unknown (some 0x4A) := by decide +kernel


/-! ### States for the witnesses -/

/-- Units at rest in UNCONFIGURED, the memory READY. -/
def ready : State :=
  { State.reset with
    port := { state := .ready, header := some freshHeader, inProgress := none, startup := .idle } }

/-- Units at rest in RUNNING, the memory READY, an interval open. -/
def running : State :=
  { ready with engine := .running, clock := { ready.clock with isSet := true, openStart := some 0 } }

/-- The memory NOT_READY. -/
def unready (s : State) : State := { s with port := { s.port with state := .notReady } }

/-- A record with a balance. -/
def paid (balance : Int) : AccountRecord := { freshRecord with balance := balance }

/-- A line of the cache that holds an account's record, or the mark DAMAGED. -/
def holds (s : State) (line account : Nat) (record : Option AccountRecord) (dirty : Bool) : State :=
  { s with cache := (s.cache.set line (some { tag := account, record := record, dirty := dirty, locked := false })).touch line }

/-- A household at an index of the active table, on feeder 0, slot 0. -/
def household (s : State) (i : Nat) (status : ParticipantStatus) : State :=
  { s with active := { s.active with
      participants := s.active.participants.setIfInBounds i
        { emptyEntry with kind := .household, serial := 40111, status := status, limit := 500 }
      feeders := s.active.feeders.set 0 { enabled := true, slotCount := 2 } } }

/-- Feeder 0's port changed. -/
def feeder0 (s : State) (g : FeederPort → FeederPort) : State := s.modifyPort 0 g

/-- A round with two slots, in a port that runs. -/
def inWindow (s : State) (w : Window) (sending : List Byte) : State :=
  feeder0 s fun p =>
    { p with state := .running, window := w, sending := sending,
             round := some { slotCount := 2, headOk := true, copies := [], outcomes := [], orders := [], notice := .skipped,
                             sentNotice := .plain } }

/-- An entry of a Directed Queue for slot 0. -/
def entry0 (sends : Nat) (sent turned : Bool) : OrderEntry :=
  { slot := 0, participant := 7, kind := .limit, watts := 500, sends := sends, sent := sent, waited := 0, turned := turned,
    sentAtHead := sent }

/-- A book. -/
def aBook (start : Nat) (state : BookState) : Book :=
  { start := start, close := start + 15, mark := 1, deadline := (start + 15) * 60 + 60, state := state, holdReason := none,
    expected := [], members := [], missing := 0, counterFaults := 0, capture := none, figures := none, owed := false }

/-- A book list. -/
def withBooks (s : State) (books : List Book) : State := { s with books := books }

/-- A RESULT built. -/
def aResult (restart : RestartMark) : CommandResult :=
  { code := 0x07, outcome := .done, detail := 0, fields := [], overflow := none, restart := restart }

/-- A frame in the outbound queue. -/
def aFrame (restart : RestartMark) : OutFrame := { kind := 0x81, tag := 1, body := [], restart := restart }

/-- Frames in the outbound queue. -/
def sending (s : State) (frames : List OutFrame) : State := { s with link := { s.link with outbound := frames } }

/-- The receive side put into a condition. -/
def receiving (s : State) (r : ReceiveSide) : State := { s with link := { s.link with receive := r } }

/-- A SWEEP with a BLOCK that waits. -/
def aSweep (last : Nat) (ending : RunEnding) : SweepRun :=
  { order := { first := 0, last := last, step := 1, filter := .all }, inHand := 0, visited := 1, blocks := 0, damaged := 0,
    lastVisited := some 0, block := some [0, 0, 1], ending := ending }

/-- A transfer order. -/
def anOrder (payer payee amount : Nat) : TransferOrder := { payer := payer, payee := payee, amount := amount, mode := .checked }

/-- An image. -/
def anImage (account : Nat) (balance : Int) : Image :=
  { account := account, record := paid balance, changes := true, was := .current }

/-- A REPORT of serial 40111 with mark 1, heard in one message of a character each 1,042 µs. -/
def heardReport (serial : List Byte) : List LineChar :=
  let bytes := withCheck ([0x52] ++ serial ++ [1, 0, 0, 0, 9, 0, 0, 0, 8, 1])
  (List.range 17).zip bytes |>.map fun x => ⟨1000 + 1042 * x.1, 2042 + 1042 * x.1, x.2, true⟩

/-! ### The account memory's serial port (section 12.4) -/

theorem test_bus_read : State.reset.busBytes 0 = [[0x03, 0, 0]] := by decide +kernel
/-- The record of account 195 stands at 32 + 32 × 195 = 6272 = 1880h. -/
theorem test_bus_write :
    ((ready.onPort (.initRecord 195)).busBytes 2).map (fun l => (l.take 4, l.length)) =
      [([0x06], 1), ([0x02, 0x18, 0x80, 195], 35), ([0x05], 1), ([0x05], 1)] := by decide +kernel

/-! ### Witnesses: a state and operands that meet a statement's hypotheses, clause by clause -/

theorem witness_StepTakesTheFrontEvent : State.reset.pending = [] := by decide

theorem witness_HardwareReset :
    (ready.onPort (.repairRecord 5 (paid 1))).memoryCanonical ∧
    (ready.onPort (.repairRecord 5 (paid 1))).port.inProgress = some (.repairRecord 5 (paid 1)) ∧
    (PortOp.repairRecord 5 (paid 1)).place = some 192 ∧ (0 < 192 ∨ 192 + 32 ≤ 0) := by
  refine ⟨?_, ?_, ?_, ?_⟩ <;> first | rfl | decide

/-- The QUIESCED engine of the power-warning statement. -/
def warned (s : State) : State := { s with engine := .quiesced, before := .unconfigured, powerWarning := true }

theorem witness_PowerWarning :
    (ready.powerWarning = false ∧ ready.isQuiesced = false ∧ ready.link.executing = none ∧ ready.link.waiting = [] ∧
      ready.port.inProgress = none ∧ ready.cache.dirtyAccounts = [] ∧
      (holds ready 3 9 (some (paid 1)) true).cache.dirtyAccounts = [9] ∧
      (holds ready 3 9 (some (paid 1)) true).cache.find 9 = some 3) ∧
    ((warned ready).powerWarning = true ∧ (warned ready).isQuiesced = true ∧ (warned ready).link.executing = none ∧
      (warned ready).port.inProgress = none ∧ (warned ready).cache.dirtyAccounts = [] ∧
      (warned ready).before ≠ .quiesced ∧ (warned (holds ready 3 9 (some (paid 1)) true)).cache.dirtyAccounts = [9]) := by
  decide +kernel

/-- A port whose open window will be its last, start-up running on the account memory port. -/
def cutDue (w : Window) : State :=
  feeder0 { inWindow running w [] with
    sequence := .startup false
    port := { state := .notReady, header := none, inProgress := some .startupHeaderRead, startup := .readingHeader } }
    fun p => { p with restartDue := some .cut }

/-- The QUIESCED engine with the flush's write-back in progress. -/
def flushing : State := warned ((holds ready 3 9 (some (paid 1)) true).onPort (.writeBack .powerFlush 3 9))

theorem witness_PowerWarning_release :
    flushing.powerWarning = true ∧ flushing.isQuiesced = true ∧ flushing.link.executing = none ∧
    flushing.port.inProgress ≠ none ∧ (inWindow running (.slot 0) []).ports[(0 : Feeder)].window.isOpen = true ∧
    (inWindow running (.slot 0) []).powerWarning = false ∧ (inWindow running (.slot 0) []).port.inProgress = none := by
  decide +kernel

theorem witness_PowerWarning_cut :
    (cutDue .quiet).ports[(0 : Feeder)].restartDue = some .cut ∧ (cutDue .quiet).ports[(0 : Feeder)].round.isSome = true ∧
    (cutDue .quiet).ports[(0 : Feeder)].window = .quiet ∧ (cutDue (.slot 47)).ports[(0 : Feeder)].window = .slot 47 ∧
    (feeder0 (cutDue (.slot 47)) fun p =>
      { p with window := .shut, round := none, sending := [], driving := false, restartDue := none,
               number := p.number + 1 }).blocked := by decide +kernel

theorem witness_HoldAndResume : ready.accepts ∧ (feeder0 ready fun p => { p with state := .held }).accepts := by
  decide +kernel

theorem witness_Enrol : ready.accepts ∧ 3 < 4 ∧ 1 ≤ 255 ∧ 255 ≤ 255 ∧ 255 < 256 ∧ 4294967295 ≤ 4294967295 := by
  decide +kernel

theorem witness_Staging :
    ready.accepts ∧ ready.isArmed = false ∧ entryInRange { emptyEntry with serial := 4294967295 } = true ∧ 48 ≤ 48 ∧
    60 ∈ [5, 10, 15, 30, 60] ∧ 10 ≤ 600 ∧
    bandInRange { dayClass := .both, start := 1439, gridPrice := 999999, feedPrice := 0, share := 256, fee := 99999 } = true ∧
    ({ ready with activation := { ready.activation with phase := .awaitBoundary } } : State).accepts ∧
    ({ ready with activation := { ready.activation with phase := .awaitBoundary } } : State).isArmed = true ∧
    commandCode (.stageParticipant 192 emptyEntry) ∈ [0x20, 0x21, 0x22, 0x23, 0x24, 0x25] ∧
    commandInRange (.stageParticipant 192 emptyEntry) = false := by decide +kernel

/-- An engine that can commit: a set with a grid-tie meter and a household, bands for both classes. -/
def passing : TableSet :=
  { participants := ((TableSet.empty.participants.set 0 { emptyEntry with kind := .gridTie, serial := 1 }).set 1
      { emptyEntry with kind := .household, serial := 2, slot := 1 })
    feeders := TableSet.empty.feeders.set 0 { enabled := true, slotCount := 2 }
    general := { interval := 15, grace := 60 }
    week := Vector.replicate 7 .work
    bands := TableSet.empty.bands.set 0
      (some { dayClass := .both, start := 0, gridPrice := 30000, feedPrice := 8000, share := 128, fee := 500 }) }

/-- The clock set, a set staged. -/
def staged (t : TableSet) : State := { ready with staged := t, clock := { ready.clock with isSet := true } }

theorem witness_PassingChecks : firstFailure passing true = none := by decide +kernel

/-- A chain of four links, the longest that check 7 passes. -/
def chained : TableSet :=
  let link (i : Nat) : ParticipantEntry :=
    { emptyEntry with kind := .household, serial := 10 + i, slot := 10 + i,
                      redirect := if i = 6 then none else some { target := i + 1, scope := .all } }
  { passing with
    participants := [2, 3, 4, 5, 6].foldl (fun v i => v.setIfInBounds i (link i)) passing.participants
    feeders := passing.feeders.set 0 { enabled := true, slotCount := 48 } }

theorem witness_PassingChecks_chain :
    firstFailure chained true = none ∧ nonVacant (chained.entry 2) = true ∧
    [2, 3, 4, 5].map (fun i => (chained.entry i).redirect.map Redirect.target) = [some 3, some 4, some 5, some 6] ∧
    [2, 3, 4, 5, 6].length ≤ 5 := by decide +kernel

theorem witness_ActivateArms :
    running.accepts ∧ running.engine = .running ∧ running.activation.phase = .idle ∧
    ({ running with activation := { running.activation with phase := .checking } } : State).accepts ∧
    ready.accepts ∧ ready.engine = .unconfigured ∧ (unready ready).accepts ∧ (unready ready).port.state = .notReady ∧
    ready.port.state = .ready ∧ ready.clock.isSet = false ∧
    (staged .empty).accepts ∧ (staged .empty).clock.isSet = true ∧
    firstFailure (staged .empty).staged true = some (2, none) := by decide +kernel

theorem witness_ActivateCommits :
    (staged passing).accepts ∧ (staged passing).resting ∧ (staged passing).engine = .unconfigured ∧
    (staged passing).activation.phase = .idle ∧ (staged passing).port.state = .ready ∧
    (staged passing).clock.isSet = true ∧ (staged passing).cache = .empty ∧
    (∀ f : Feeder, (staged passing).ports[f].state = .off) ∧ firstFailure (staged passing).staged true = none := by
  decide +kernel

theorem witness_Disarm :
    running.accepts ∧ running.activation.phase = .idle ∧
    ({ running with activation := { running.activation with phase := .awaitQuiet } } : State).accepts ∧
    ({ running with activation := { running.activation with phase := .checking, toCheck := [4] } } : State).accepts ∧
    running.resting ∧ running.clock.openStart = some 0 ∧ running.candidate ≤ 0 := by decide +kernel

theorem witness_SetClock :
    ready.accepts ∧ ready.engine = .unconfigured ∧ running.accepts ∧ running.engine = .running ∧ 65535 ≤ 65535 ∧
    86399 ≤ 86399 ∧ 6 ≤ 6 ∧ (-120 ≤ (0 : Int)) ∧ (120 : Int) ≤ 120 ∧ running.resting ∧
    (∀ b ∈ running.books, b.state = .collecting → 120 < b.deadline) ∧ ((0 * 1440 + 120 / 60) / 15 * 15) * 60 ≤ 0 := by
  decide +kernel

/-- A book collecting whose deadline a step may reach, the memory NOT_READY. -/
def stepEnds : State :=
  { unready running with
    books := [{ aBook 0 .collecting with expected := [4, 191], deadline := 1000 }]
    clock := { running.clock with second := 950 } }

/-- Someone to expect, before a boundary at 00:15. -/
def stepTakes : State := { household running 4 .active with clock := { running.clock with second := 850 } }

/-- A deadline before a boundary at 00:30. -/
def stepBoth : State :=
  { unready (household running 4 .active) with
    books := [{ aBook 0 .collecting with expected := [4, 191], deadline := 1795 }]
    clock := { running.clock with second := 1790, openStart := some 15 } }

theorem witness_SetClock_ends :
    stepEnds.accepts ∧ stepEnds.engine = .running ∧ (1000 : Int) - 950 ≤ 120 ∧ stepEnds.resting ∧
    stepEnds.books.find? (fun b => b.state == .collecting) =
      some { aBook 0 .collecting with expected := [4, 191], deadline := 1000 } ∧
    stepEnds.port.state = .notReady ∧ [4, 191].Nodup ∧ (∀ i ∈ [4, 191], i < 192) ∧ 1000 / 60 / 15 * 15 * 60 ≤ 950 := by
  decide +kernel

theorem witness_SetClock_takes :
    stepTakes.accepts ∧ stepTakes.engine = .running ∧ stepTakes.resting ∧ stepTakes.clock.openStart = some 0 ∧
    850 < 900 / 60 / 15 * 15 * 60 ∧ (∀ b ∈ stepTakes.books, b.state ≠ .collecting) ∧ stepTakes.active.expectedSet = [4] ∧
    stepTakes.books.length < 8 := by decide +kernel

theorem witness_SetClock_both :
    stepBoth.accepts ∧ stepBoth.engine = .running ∧ stepBoth.resting ∧ stepBoth.clock.openStart = some 15 ∧
    stepBoth.books.find? (fun b => b.state == .collecting) =
      some { aBook 0 .collecting with expected := [4, 191], deadline := 1795 } ∧ 1795 ≤ 1800 ∧
    (∀ x ∈ stepBoth.books, x.state = .collecting → x = { aBook 0 .collecting with expected := [4, 191], deadline := 1795 }) ∧
    1790 < 1800 / 60 / 15 * 15 * 60 ∧ 15 < 1800 / 60 / 15 * 15 := by decide +kernel

theorem witness_HeldBooks :
    running.accepts ∧ running.book 94371839 = none ∧ (withBooks running [aBook 15 .posted]).book 15 = some (aBook 15 .posted) ∧
    (withBooks (unready running) [aBook 15 .held]).accepts ∧ (withBooks (unready running) [aBook 15 .held]).resting ∧
    (withBooks (unready running) [aBook 15 .held]).book 15 = some (aBook 15 .held) ∧
    (withBooks (unready running) [aBook 15 .held]).port.state = .notReady ∧
    (withBooks running [aBook 0 .posted, aBook 15 .held]).accepts ∧
    (withBooks running [aBook 0 .posted, aBook 15 .held]).resting ∧
    (withBooks running [aBook 0 .posted, aBook 15 .held]).port.state = .ready ∧
    (withBooks running [aBook 0 .posted, aBook 15 .held]).cache = .empty ∧
    (withBooks running [aBook 0 .posted, aBook 15 .held]).book 15 = some (aBook 15 .held) ∧
    (withBooks running [aBook 0 .posted, aBook 15 .held]).books.find? (fun x => x.state != .posted && x.state != .discarded) =
      some (aBook 15 .held) := by decide +kernel

/-- The activation in AWAIT_QUIET, index 7 vacating. -/
def awaiting (s : State) (staged : TableSet) : State :=
  { s with
    staged := staged
    active := { passing with participants := passing.participants.set 7 { emptyEntry with kind := .household, serial := 9 } }
    activation := { s.activation with phase := .awaitQuiet } }

/-- A staged set whose grace is too long. -/
def graceFails : TableSet := { passing with general := { interval := 15, grace := 900 } }

/-- The commit moment that a discard, or a posting's end, is: all older books final, no boundary to take. -/
theorem witness_CommitMoment :
    (withBooks running [aBook 0 .posted, aBook 15 .held]).resting ∧
    (awaiting (withBooks running [aBook 0 .posted, aBook 15 .held]) passing).accepts ∧
    (awaiting (withBooks running [aBook 0 .posted, aBook 15 .held]) passing).book 15 = some (aBook 15 .held) ∧
    (∀ x ∈ [aBook 0 .posted, aBook 15 .held], x.start ≠ 15 → x.state = .posted ∨ x.state = .discarded) ∧
    running.port.state = .ready ∧ running.commandDone = true ∧ running.cache.lookup 7 = .miss ∧
    running.cache.victim none = some 0 ∧ running.clock.openStart = some 0 ∧ running.candidate ≤ 0 := by decide +kernel

/-- The states at a commit moment, but for the phase, are at rest. -/
theorem witness_CommitMoment_resting :
    let s := awaiting (withBooks running [aBook 0 .posted, aBook 15 .held]) passing
    let e := awaiting (withBooks running [{ aBook 0 .posted with owed := true }]) passing
    ({ s with activation := { s.activation with phase := .idle } } : State).resting ∧
    ({ e with activation := { e.activation with phase := .idle } } : State).resting := by decide +kernel

theorem witness_CommitMoment_checks :
    firstFailure passing true = none ∧ firstFailure graceFails true = some (10, none) ∧
    ((List.range 192).filter fun i =>
      ((awaiting running passing).active.entry i).kind != .vacant &&
        ((awaiting running passing).staged.entry i).kind == .vacant) = [7] := by decide +kernel

theorem witness_Reads : ready.accepts ∧ 191 ≤ 191 ∧ 11 ≤ 11 := by decide +kernel

theorem witness_ReadBook :
    (withBooks running [aBook 0 .posted, aBook 15 .held]).accepts ∧ running.accepts ∧ running.books = [] ∧
    94371839 ≤ 94371839 ∧ 191 ≤ 191 ∧ aBook 15 .held ∈ [aBook 0 .posted, aBook 15 .held] ∧
    (∀ x ∈ [aBook 0 .posted, aBook 15 .held], x ≠ aBook 15 .held → x.start < (aBook 15 .held).start) := by decide +kernel

theorem witness_ReadAccount :
    (unready ready).accepts ∧ (unready ready).port.state = .notReady ∧ 195 ≤ 195 ∧ ready.accepts ∧ ready.resting ∧
    (holds ready 0 195 (some (paid 7)) false).cache.lookup 195 = .good 0 (paid 7) ∧
    (holds ready 31 0 none false).cache.lookup 0 = .damaged 31 ∧ ready.cache.lookup 195 = .miss ∧
    ready.cache.victim none = some 0 := by decide +kernel

theorem witness_Sweep :
    ready.accepts ∧ (unready ready).accepts ∧ ready.resting ∧ 0 ≤ 195 ∧ 1 ≤ 16 ∧
    (holds ready 0 0 (some (paid 7)) true).accepts ∧ (holds ready 0 0 (some (paid 7)) true).resting ∧
    (holds ready 0 0 (some (paid 7)) true).cache.lookup 0 = .good 0 (paid 7) ∧
    filterMatches .nonzero (some (paid 7)) = true ∧ filterMatches .arrears (some (paid 7)) = false ∧
    ready.cache.lookup 0 = .miss ∧ ready.cache.victim none = some 0 := by decide +kernel

theorem witness_Scan :
    (unready ready).accepts ∧ (household ready 4 .suspended).accepts ∧ (household ready 4 .suspended).resting ∧
    ((household ready 4 .suspended).active.entry 4).status = .suspended ∧
    nonVacant ((household ready 4 .suspended).active.entry 4) = true ∧ balanceInRange (-140737488355327) = true ∧
    (holds ready 0 195 (some (paid 7)) false).resting ∧
    (holds ready 0 195 (some (paid 7)) false).cache.lookup 195 = .good 0 (paid 7) ∧ (7 : Int) ≤ 7 ∧ ¬(8 : Int) ≤ 7 ∧
    (holds ready 0 195 none false).cache.lookup 195 = .damaged 0 ∧ ready.cache.lookup 0 = .miss := by decide +kernel

theorem witness_Rebase :
    ready.accepts ∧ (ready.active.entry 191).kind = .vacant ∧ (unready (household ready 191 .active)).accepts ∧
    ((unready (household ready 191 .active)).active.entry 191).kind ≠ .vacant ∧
    (holds (household ready 191 .active) 2 191 (some (paid 7)) false).accepts ∧
    (holds (household ready 191 .active) 2 191 (some (paid 7)) false).resting ∧
    (holds (household ready 191 .active) 2 191 (some (paid 7)) false).cache.find 191 = some 2 ∧
    (holds (household ready 191 .active) 2 191 (some (paid 7)) false).cache.line 2 =
      some { tag := 191, record := some (paid 7), dirty := false, locked := false } ∧
    (holds (household ready 191 .active) 2 191 none false).cache.lookup 191 = .damaged 2 := by decide +kernel

/-- Two accounts in the cache, the payer a household with a credit floor of 0. -/
def twoAccounts (payer payee : Int) : State :=
  holds (holds (household running 3 .active) 0 3 (some (paid payer)) false) 1 193 (some (paid payee)) false

theorem witness_RefusedTransfers :
    ready.accepts ∧ ready.engine = .unconfigured ∧ commandInRange (.transfer (anOrder 3 193 5)) = true ∧
    (unready running).accepts ∧ running.engine = .running ∧ (twoAccounts 4 0).accepts ∧ (twoAccounts 4 0).resting ∧
    (twoAccounts 4 0).cache.anyLocked = false ∧ (twoAccounts 4 0).cache.lookup 3 = .good 0 (paid 4) ∧
    (twoAccounts 4 0).cache.lookup 193 = .good 1 (paid 0) ∧ balanceInRange (4 - 5) = true ∧ balanceInRange (0 + 5) = true ∧
    ((twoAccounts 4 0).active.entry 3).kind ≠ .vacant ∧ (4 : Int) - 5 < ((twoAccounts 4 0).active.entry 3).creditFloor ∧
    (holds running 0 3 none false).cache.lookup 3 = .damaged 0 ∧ (holds running 0 3 none false).resting ∧
    balanceInRange (-140737488355327 - 5) = false ∧ balanceInRange (140737488355327 + 5) = false ∧
    (twoAccounts (-140737488355327) 140737488355327).cache.lookup 3 = .good 0 (paid (-140737488355327)) ∧
    (twoAccounts 9 140737488355327).cache.lookup 193 = .good 1 (paid 140737488355327) ∧
    (holds (twoAccounts 4 0) 1 193 none false).cache.lookup 3 = .good 0 (paid 4) ∧
    (holds (twoAccounts 4 0) 1 193 none false).cache.lookup 193 = .damaged 1 ∧
    (holds (twoAccounts 4 0) 1 193 none false).cache.anyLocked = false := by decide +kernel

theorem witness_Transfer :
    (twoAccounts 5 0).accepts ∧ (twoAccounts 5 0).resting ∧ (twoAccounts 5 0).engine = .running ∧
    (twoAccounts 5 0).port.state = .ready ∧ commandInRange (.transfer (anOrder 3 193 5)) = true ∧
    (twoAccounts 5 0).cache.lookup 3 = .good 0 (paid 5) ∧ (twoAccounts 5 0).cache.lookup 193 = .good 1 (paid 0) ∧
    balanceInRange (5 - 5) = true ∧ balanceInRange (0 + 5) = true ∧
    ((twoAccounts 5 0).active.entry 3).creditFloor ≤ 5 - 5 := by decide +kernel

/-- A repair of an account. -/
def aRepair (account : Nat) : RepairOrder :=
  { account := account, balance := -100, baseExport := 4294967295, baseImport := 0, baseMinute := some 94371839,
    standing := .current }

theorem witness_Repair :
    (unready ready).accepts ∧ commandInRange (.repairAccount (aRepair 195)) = true ∧
    (holds ready 0 195 (some (paid 7)) false).accepts ∧ (holds ready 0 195 (some (paid 7)) false).resting ∧
    (holds ready 0 195 (some (paid 7)) false).cache.lookup 195 = .good 0 (paid 7) ∧
    (holds ready 0 195 none false).cache.lookup 195 = .damaged 0 := by decide +kernel

theorem witness_Flush :
    (unready ready).accepts ∧ ready.accepts ∧ ready.resting ∧ ready.cache.dirtyAccounts = [] ∧
    (holds (holds ready 3 9 (some (paid 1)) true) 1 12 (some (paid 1)) true).accepts ∧
    (holds (holds ready 3 9 (some (paid 1)) true) 1 12 (some (paid 1)) true).cache.dirtyAccounts = [9, 12] ∧
    (holds (holds ready 3 9 (some (paid 1)) true) 1 12 (some (paid 1)) true).cache.find 9 = some 3 ∧
    (holds (holds ready 3 9 (some (paid 1)) true) 1 12 (some (paid 1)) true).cache.isDirty 3 = true := by decide +kernel

theorem witness_Init :
    running.accepts ∧ running.engine = .running ∧ ready.accepts ∧ ready.engine = .unconfigured ∧ ready.resting ∧
    State.reset.accepts ∧ State.reset.engine = .unconfigured ∧ State.reset.port.startup ≠ .idle ∧
    State.reset.port.inProgress = some .startupHeaderRead ∧
    ({ State.reset with port := { State.reset.port with startup := .idle, inProgress := none } } : State).resting := by
  decide +kernel

/-- An attention list of one item. -/
def told (s : State) (e : Attention) : State := { s with attention := { items := [{ event := e, repeats := 1 }], overflow := true } }

theorem witness_Sense :
    ready.accepts ∧ ready.attention.items = [] ∧ (told ready (.damaged 4 .command)).accepts ∧
    (told ready (.damaged 4 .command)).attention.items = [{ event := .damaged 4 .command, repeats := 1 }] ∧
    (Attention.damaged 4 .command).kind ≠ 1 ∧
    (told ready (.enrolDone 3 .notHeard 0 5)).attention.items = [{ event := .enrolDone 3 .notHeard 0 5, repeats := 1 }] := by
  decide +kernel

theorem witness_Restart :
    ready.accepts ∧ (ready.executing 1 0x07 (.result (aResult .absent))).resting ∧
    (ready.executing 1 0x07 (.result (aResult .absent))).link.waiting = [] ∧
    (ready.executing 1 0x01 (.readAccount 5)).resting ∧ (ready.executing 1 0x01 (.readAccount 5)).link.waiting = [] ∧
    (ready.executing 1 0x01 (.readAccount 5)).link.executing =
      some { tag := 1, code := 0x01, run := .readAccount 5 } := by decide +kernel

/-- A command at a stage, a notice's fill in progress on the port. -/
def waitsPort (code : Byte) (run : Run) : State :=
  (((feeder0 ready fun p => { p with prefetch := .waiting 4 }).executing 1 code run).onPort (.fill (.notice 0) 4 0 none))

/-- The same once a RESTART waits. -/
def withRestart (s : State) : State :=
  { s with link := { s.link with waiting := [{ tag := 9, request := .command (.restart true) }] } }

/-- A SCAN at account 5. -/
def aScan (last : Nat) (lastVisited : Option Nat) : ScanRun :=
  { order := { first := 0, last := last, step := 1, comparison := .atMost, threshold := -1, skipSuspended := false },
    inHand := 5, tested := true, visited := 3, suspended := 1, damaged := 0, lastVisited := lastVisited, ending := .goingOn }

/-- A book SETTLING at its reads. -/
def settlingAt (toRead : List Nat) (op : PortOp) : State :=
  ({ withBooks (household running 4 .active) [aBook 0 .settling] with
     work := some { book := 0, stage := .reading, copies := [], toRead := toRead, rows := [], totals := none, aims := [],
                    landed := [], changes := [] } } : State).onPort op

theorem witness_Restart_blocked :
    (waitsPort 0x01 (.readAccount 5)).link.waiting = [] ∧ (waitsPort 0x01 (.readAccount 5)).port.servesCommand = false ∧
    ((withRestart (waitsPort 0x01 (.readAccount 5))).answered 1 0x01 .cut 19 []).blocked ∧
    ((withRestart (waitsPort 0x48 (.flush [9] 4))).answered 1 0x48 .cut 19 (be 1 4)).blocked ∧
    (withRestart (waitsPort 0x07 (.result (aResult .absent)))).blocked ∧
    ((withRestart ((settlingAt [192] (.fill .settlement 192 0 none)).executing 1 0x18 (.rebaseWait 4))).answered
      1 0x18 .cut 19 []).blocked := by decide +kernel

theorem witness_Restart_runs :
    (aScan 195 (some 4)).ending = .goingOn ∧ (aScan 195 (some 4)).lastVisited = some 4 ∧
    (aScan 195 none).lastVisited = none ∧
    ((withRestart (waitsPort 0x0A (.scan (aScan 195 (some 4))))).answered 1 0x0A .cut 19 [3, 1, 0, 4]).blocked ∧
    ((withRestart (waitsPort 0x09 (.sweep { aSweep 5 .goingOn with block := none }))).executing 1 0x09
      (.sweep { aSweep 5 (.cut .restart) with block := none })).blocked ∧
    ((ready.executing 1 0x01 (.readAccount 5)).onPort (.fill .command 5 0 none)).port.servesCommand = true ∧
    (withRestart ((ready.executing 1 0x01 (.cutting .restart none)).onPort (.fill .command 5 0 none))).blocked := by
  decide +kernel

/-- A command at a stage, a fill of its own in progress. -/
def servedPort (code : Byte) (run : Run) : State := (ready.executing 1 code run).onPort (.fill .command 5 0 none)

theorem witness_Restart_served :
    (servedPort 0x48 (.flush [9] 4)).port.servesCommand = true ∧ (Run.transferJournal (anOrder 3 193 5) [] 0).plain = true ∧
    Run.initFinal.plain = true ∧
    (withRestart (servedPort 0x48 (.cutting .restart (some 4)))).blocked ∧
    (withRestart (servedPort 0x0A (.scan { aScan 195 none with ending := .cut .restart }))).blocked ∧
    (withRestart (servedPort 0x09 (.sweep { aSweep 5 (.cut .restart) with block := none, inHand := 5 }))).blocked := by
  decide +kernel

theorem witness_PowerWarning_command :
    (servedPort 0x01 (.readAccount 5)).powerWarning = false ∧ (servedPort 0x01 (.readAccount 5)).isQuiesced = false ∧
    (servedPort 0x01 (.readAccount 5)).port.servesCommand = true ∧ (Run.readAccount 5).plain = true ∧
    (waitsPort 0x48 (.flush [9] 4)).port.servesCommand = false ∧ (waitsPort 0x48 (.flush [9] 4)).port.inProgress ≠ none ∧
    (servedPort 0x0A (.scan (aScan 195 none))).cache.lookup (aScan 195 none).inHand = .miss ∧
    (aScan 195 none).tested = true ∧ (aScan 195 (some 4)).lastVisited = some 4 ∧ (aScan 195 none).lastVisited = none ∧
    (aSweep 5 .stopped).block = some [0, 0, 1] ∧ (aSweep 5 .stopped).lastVisited = some 0 ∧
    (servedPort 0x09 (.sweep { aSweep 5 .goingOn with block := none, inHand := 5 })).cache.lookup 5 = .miss ∧
    (aResult .absent).restart = .absent ∧ (withRestart ready).link.executing = none ∧
    (withRestart { ready with sequence := .startup false }).link.restartHold = false := by decide +kernel

theorem witness_Waits :
    ((aBook 0 .settling) ∈ (settlingAt [192] (.fill .settlement 192 0 none)).books) ∧
    (settlingAt [192] (.fill .settlement 192 0 none)).accepts ∧
    ((settlingAt [192] (.fill .settlement 192 0 none)).executing 1 0x18 (.rebaseWait 4)).blocked ∧
    ((settlingAt [192] (.fill .settlement 192 0 none)).active.entry 4).kind ≠ .vacant ∧
    ((settlingAt [192] (.fill .settlement 192 0 none)).executing 1 0x40 (.transferWait (anOrder 3 193 5))).blocked ∧
    ((settlingAt [192] (.fill .settlement 192 0 none)).executing 1 0x41 (.repairWait (aRepair 195))).blocked := by
  decide +kernel

theorem witness_RefusedQuiesced :
    (warned ready).link.executing = none ∧ (warned ready).commandsHeld = false ∧ (warned ready).isQuiesced = true ∧
    ready.link.executing = none ∧ ready.commandsHeld = false ∧ ready.isQuiesced = false ∧
    commandCode (.readAccount 196) ∉ [0x20, 0x21, 0x22, 0x23, 0x24, 0x25] ∧ commandInRange (.readAccount 196) = false := by
  decide +kernel

theorem witness_Buffers :
    commandInRange .readClock = true ∧ (ready.executing 1 0x01 (.readAccount 5)).link.executing ≠ none ∧
    (ready.executing 1 0x01 (.readAccount 5)).link.waiting = [] ∧ (∀ k, Command.readClock ≠ .restart k) ∧
    ({ ready.executing 1 0x01 (.readAccount 5) with
       link := { (ready.executing 1 0x01 (.readAccount 5)).link with
                 waiting := [{ tag := 2, request := .command .readClock }] } } : State).link.waiting =
      [{ tag := 2, request := .command .readClock }] := by decide +kernel

theorem witness_Buffers_held :
    commandInRange (.restart true) = true ∧ ({ ready with sequence := .ports true } : State).link.executing = none ∧
    ({ ready with sequence := .ports true } : State).commandsHeld = true ∧
    (withRestart { ready with sequence := .ports true }).link.waiting.length < 2 ∧
    2 ≤ [({ tag := 1, request := .command .readClock } : Buffered), { tag := 2, request := .command .readClock }].length := by
  decide +kernel

theorem witness_Unknown :
    ready.link.executing = none ∧ ready.commandsHeld = false ∧ (0x4A : Byte).toNat ∉ commandCodes := by decide +kernel

theorem witness_ReceivingAFrame :
    commandInRange (.setClock 65535 86399 6) = true ∧ ready.link.receive = .hunting := by decide +kernel

theorem witness_BadFrames :
    ready.link.receive = .hunting ∧ ([] : List Byte).length ≤ 255 ∧
    ([0, 0] : List Byte) ≠ be 2 (checkCode (be 1 0 ++ [0x01, 0x07] ++ [])).toNat ∧
    (0x03 : Byte) ≠ 0x01 ∧ (0x03 : Byte) ≠ 0x02 ∧ (∀ b ∈ ([0x00, 0xFF] : List Byte), b ≠ 0xA5) ∧
    (receiving ready (.assembling [1, 1])).link.receive = .assembling [1, 1] ∧ (0x00 : Byte) ≠ 0xA5 := by decide +kernel

theorem witness_Stop :
    (ready.executing 1 0x09 (.sweep (aSweep 5 .goingOn))).link.receive = .hunting ∧ ([] : List Byte).length ≤ 255 ∧
    (ready.executing 1 0x09 (.sweep (aSweep 5 .goingOn))).link.executing =
      some { tag := 1, code := 0x09, run := .sweep (aSweep 5 .goingOn) } ∧ (aSweep 5 .goingOn).ending = .goingOn ∧
    ready.link.executing = none ∧ (aSweep 5 .stopped).ending ≠ .goingOn := by decide +kernel

theorem witness_ResultQueued :
    (ready.executing 1 0x07 (.result (aResult .absent))).link.executing =
      some { tag := 1, code := 0x07, run := .result (aResult .absent) } ∧
    4 ≤ (sending ready (List.replicate 4 (aFrame .absent))).link.outbound.length ∧
    (sending ready (List.replicate 3 (aFrame .absent))).link.outbound.length < 4 ∧ (aResult .absent).restart = .absent ∧
    (aResult (.commanded true)).restart = .commanded true ∧ ready.link.waiting = [] ∧ ready.commandsHeld = false ∧
    ({ ready.link with waiting := [{ tag := 2, request := .command .readClock }] } : StationLink).waiting =
      [{ tag := 2, request := .command .readClock }] := by decide +kernel

theorem witness_BlockQueued :
    (ready.executing 1 0x09 (.sweep (aSweep 0 .goingOn))).link.executing =
      some { tag := 1, code := 0x09, run := .sweep (aSweep 0 .goingOn) } ∧ (aSweep 0 .goingOn).block = some [0, 0, 1] ∧
    (aSweep 0 .goingOn).lastVisited = some 0 ∧ ready.link.outbound.length < 4 ∧
    (ready.executing 1 0x09 (.sweep (aSweep 0 .goingOn))).resting ∧ ready.port.state = .ready ∧
    (aSweep 0 .goingOn).order.last < (aSweep 0 .goingOn).inHand + (aSweep 0 .goingOn).order.step ∧
    (aSweep 5 .stopped).ending = .stopped ∧ (aSweep 1 .goingOn).inHand + (aSweep 1 .goingOn).order.step ≤ 1 ∧
    ready.cache.lookup 1 = .miss ∧ ready.cache.victim none = some 0 ∧
    4 ≤ (sending ready (List.replicate 4 (aFrame .absent))).link.outbound.length := by decide +kernel

theorem witness_Statement :
    ready.link.outbound.length < 4 ∧ ready.frameWaiting = false ∧ (∀ f ∈ ready.link.outbound, f.restart = .absent) ∧
    (withBooks ready [{ aBook 15 .posted with owed := true }]).books.find? (fun b => b.owed) =
      some { aBook 15 .posted with owed := true } ∧
    4 ≤ (sending ready (List.replicate 4 (aFrame .absent))).link.outbound.length ∧
    (ready.executing 1 0x07 (.result (aResult .absent))).frameWaiting = true ∧
    aFrame (.commanded true) ∈ (sending ready [aFrame (.commanded true)]).link.outbound ∧
    (∀ b ∈ ready.books, b.owed = false) := by decide +kernel

theorem witness_Statement_body :
    ({ aBook 15 .discarded with capture := some noCapture, figures := some noFigures } : Book).capture = some noCapture ∧
    ({ aBook 15 .discarded with capture := some noCapture, figures := some noFigures } : Book).figures =
      some noFigures := by decide

theorem witness_FrameSent :
    ready.link.outbound = [] ∧ (sending ready [aFrame .absent]).link.outbound = [aFrame .absent] ∧
    (sending ready [aFrame (.commanded true)]).link.outbound = [aFrame (.commanded true)] ∧
    (aFrame (.commanded true)).restart = .commanded true ∧ ready.isQuiesced = false ∧ ready.port.inProgress = none ∧
    ready.cache.dirtyAccounts = [] ∧ (holds ready 3 9 (some (paid 1)) true).cache.dirtyAccounts = [9] ∧
    (holds ready 3 9 (some (paid 1)) true).cache.find 9 = some 3 := by decide +kernel

/-- A RESTART sequence at the end of its start-up: feeder 0 enabled and RUNNING, 1 OFF, 2 HELD, 3 HOLD_PENDING. -/
def atStep7 (w : Window) (waiting : List Buffered) (start : Nat) : State :=
  let s := inWindow (household running 4 .active) w []
  { s with
    sequence := .startup true
    clock := { s.clock with second := 1000, openStart := some start }
    link := { s.link with restartHold := true, waiting := waiting }
    ports := (s.ports.set 2 { s.ports[2] with state := .held }).set 3
      { s.ports[3] with state := .holdPending, window := .headDue }
    port := { state := .notReady, header := none, inProgress := some .startupHeaderRead, startup := .readingHeader } }

/-- The sequence waiting for feeder 0's window to close. -/
def atStep8 (waiting : List Buffered) (start : Nat) : State :=
  let s := feeder0 (atStep7 .quiet waiting start) fun p => { p with restartDue := some (.restart true) }
  { s with sequence := .ports true,
           port := { state := .ready, header := some freshHeader, inProgress := none, startup := .idle } }

theorem witness_FrameSent_step7 :
    (atStep7 .headDue [] 15).isQuiesced = false ∧ (atStep7 .headDue [] 15).work = none ∧
    (atStep7 .headDue [] 15).posting.phase = .idle ∧ (atStep7 .headDue [] 15).books = [] ∧
    (atStep7 .headDue [] 15).activation.phase = .idle ∧ (atStep7 .headDue [] 15).activation.marking = [] ∧
    (atStep7 .headDue [] 15).link.executing = none ∧
    (∀ f : Feeder, (atStep7 .headDue [] 15).ports[f].enrolment.condition ≠ .listening) ∧
    (∀ f : Feeder, (atStep7 .headDue [] 15).ports[f].prefetch.isWaiting = false) ∧
    headerOf (headerBytes 0x3D6A freshHeader) = some freshHeader ∧
    (∀ f : Feeder, (atStep7 .headDue [] 15).ports[f].window.isOpen = false) ∧
    (atStep7 .quiet [] 15).ports[(0 : Feeder)].window.isOpen = true := by decide +kernel

theorem witness_FrameSent_step8 :
    (atStep8 [] 15).sequence = .ports true ∧ (atStep8 [] 15).ports[(0 : Feeder)].window = .quiet ∧
    (atStep8 [] 15).ports[(0 : Feeder)].round.isSome = true ∧
    (atStep8 [] 15).ports[(0 : Feeder)].restartDue = some (.restart true) ∧ (atStep8 [] 15).port.inProgress = none ∧
    (atStep8 [] 15).port.startup = .idle ∧ (∀ g : Feeder, g ≠ 0 → (atStep8 [] 15).ports[g].restartDue = none) ∧
    (atStep8 [] 15).candidate ≤ 15 ∧ 0 < (atStep8 [] 0).candidate ∧ (atStep8 [] 0).active.expectedSet ≠ [] := by
  decide +kernel

theorem witness_HeadOpen :
    (feeder0 running fun p => { p with state := .running, window := .headDue }).ports[(0 : Feeder)].window = .headDue ∧
    (feeder0 running fun p => { p with state := .running, window := .headDue }).ports[(0 : Feeder)].state = .running ∧
    running.isQuiesced = false ∧ ([entry0 0 false false].map OrderEntry.slot).Nodup ∧
    0 ∈ turnedSlots [entry0 0 false false] 1 := by decide +kernel

/-- Character 1 of a message at its start bit and at its stop bit. -/
theorem witness_HeadOpen_driver :
    (feeder0 (inWindow running .head [0x51, 3]) fun p => { p with driving := true }).ports[(0 : Feeder)].driving = true ∧
    1042 * 9600 / 1000000 = 10 * 1 + 0 ∧ 2083 * 9600 / 1000000 = 10 * 1 + 9 ∧ ([0x51, 3] : List Byte)[1]? = some 3 ∧
    (feeder0 (inWindow running .head [0x51, 3]) fun p => { p with driving := true }).ports[(0 : Feeder)].drivesAt 2083 =
      true ∧
    (feeder0 (inWindow running .head [0x51, 3]) fun p => { p with driving := true }).ports[(0 : Feeder)].drivesAt 2084 =
      false := by decide +kernel

theorem witness_HeadClose :
    (inWindow running .head [0x51]).ports[(0 : Feeder)].window = .head ∧
    (inWindow running .head [0x51]).ports[(0 : Feeder)].restartDue = none ∧
    verified [0x51] [] = false ∧ verified [0x51] (cleanReadback [0x51]) = true ∧ (inWindow running .head [0x51]).resting ∧
    (inWindow running .head [0x51]).commandDone = true ∧ running.port.state = .ready ∧
    (inWindow running .head [0x51]).active.cursorParticipant 0 0 = none ∧
    (household running 4 .active).active.cursorParticipant 0 0 = some 4 ∧
    (holds running 0 4 (some (paid 7)) false).cache.lookup 4 = .good 0 (paid 7) ∧ running.cache.lookup 4 = .miss ∧
    running.cache.victim none = some 0 := by decide +kernel

/-- An order copy for slot 0. -/
def copy0 : OrderCopy := { slot := 0, serial := 40111, kind := .limit, watts := 500 }

theorem witness_Order :
    (inWindow running (.orderDue 0) []).ports[(0 : Feeder)].window = .orderDue 0 ∧
    [copy0].find? (fun c => c.slot == 0) = some copy0 ∧
    (inWindow running (.order 0) [0x53]).ports[(0 : Feeder)].window = .order 0 ∧
    (inWindow running (.order 0) [0x53]).ports[(0 : Feeder)].restartDue = none ∧ running.isQuiesced = false ∧
    ([] : List OrderEntry).find? (fun e => e.slot == 0 && e.turned) = none ∧
    [entry0 2 false true].find? (fun e => e.slot == 0 && e.turned) = some (entry0 2 false true) ∧
    verified [0x53] (cleanReadback [0x53]) = true ∧ (entry0 1 false true).sends < 2 ∧ verified [0x53] [] = false ∧
    2 ≤ (entry0 2 false true).sends := by decide +kernel

theorem witness_MeterSlot :
    (inWindow running (.slot 0) []).ports[(0 : Feeder)].window = .slot 0 ∧
    (inWindow running (.slot 0) []).ports[(0 : Feeder)].restartDue = none ∧ (inWindow running (.slot 0) []).resting ∧
    (inWindow running (.slot 0) []).commandDone = true ∧
    (∀ b ∈ (inWindow running (.slot 0) []).books, b.state ≠ .collecting) ∧ 10000 < 10001 ∧
    judge 0x52 17 (heardReport [0, 0, 0x9C, 0xAF]) =
      .message (withCheck ([0x52] ++ [0, 0, 0x9C, 0xAF] ++ [1, 0, 0, 0, 9, 0, 0, 0, 8, 1])) ∧
    (reportOf (withCheck ([0x52] ++ [0, 0, 0x9C, 0xAF] ++ [1, 0, 0, 0, 9, 0, 0, 0, 8, 1]))).serial = 40111 ∧
    running.active.slotParticipant 0 0 = none ∧ (household running 4 .active).active.slotParticipant 0 0 = some 4 ∧
    ((household running 4 .active).active.entry 4).serial = 40111 := by decide +kernel

/-- A message of two characters at the edges of the times of R8, nothing after it. -/
theorem witness_MeterSlot_judge :
    let message : List LineChar := [⟨10000, 35999, 0x52, true⟩, ⟨37999, 37999, 1, true⟩]
    message.head? = some ⟨10000, 35999, 0x52, true⟩ ∧ message.getLast? = some ⟨37999, 37999, 1, true⟩ ∧
    37999 ≤ 35999 + 2000 ∧ 10000 ≤ 10000 ∧ 37999 < 38000 ∧ (∀ c ∈ message, c.framed = true) ∧
    message.map LineChar.byte = [] ++ [0x52, 1] ∧ ([] : List LineChar).head? = none ∧
    ([⟨39999 + 1, 41000, 0, true⟩] : List LineChar).head? = some ⟨40000, 41000, 0, true⟩ ∧ 37999 + 2000 < 40000 := by
  decide

/-- A REPORT's bytes, with their check code. -/
def reportBytes (mark flags : Byte) : List Byte :=
  withCheck ([0x52] ++ [0, 0, 0x9C, 0xAF] ++ [mark, 0, 0, 0, 9, 0, 0, 0, 8, flags])

/-- A household's slot, a book collecting with mark 1, the memory NOT_READY. -/
def slotOf (expected : List Nat) (taken : Option Snapshot) : State :=
  let s := inWindow (unready (household running 4 .active)) (.slot 0) []
  { s with books := [aBook 30 .posted, { aBook 0 .collecting with expected := expected }],
           live := s.live.set 4 { s.live[4] with taken := taken, absence := 3 } }

theorem witness_MeterSlot_collecting :
    (slotOf [4, 9] none).resting ∧ (slotOf [4, 9] none).commandDone = true ∧
    (slotOf [4, 9] none).books.find? (fun b => b.state == .collecting) =
      some { aBook 0 .collecting with expected := [4, 9] } ∧
    (reportOf (reportBytes 2 1)).mark ≠ (aBook 0 .collecting).mark ∧
    (reportOf (reportBytes 1 1)).mark = (aBook 0 .collecting).mark ∧ (slotOf [4, 9] none).live[(4 : Fin 192)].taken = none ∧
    ((slotOf [4, 9] none).liveOf 9).taken = none ∧ (∀ k ∈ [4], k ≠ 4 → ((slotOf [4] none).liveOf k).taken ≠ none) ∧
    (slotOf [4] none).port.state = .notReady ∧
    (reportOf (reportBytes 1 1)).exported = 9 ∧ (reportOf (reportBytes 1 1)).imported = 8 ∧
    judge 0x52 17 (heardReport [0, 0, 0x9C, 0xAF]) = .message (reportBytes 1 1) ∧
    judge 0x52 17 ((heardReport [0, 0, 0x9C, 0xAF]).map fun c => { c with byte := 0x52 }) = .checkFail ∧
    judge 0x52 17 ((heardReport [0, 0, 0x9C, 0xAF]).map fun c => { c with byte := 0 }) = .garbled := by decide +kernel

theorem witness_Notice :
    (inWindow running .noticeDue []).ports[(0 : Feeder)].window = .noticeDue ∧ running.isQuiesced = false ∧
    running.clock.openStart = some 0 ∧
    passing.bandFor 0 0 =
      some (0, { dayClass := .both, start := 0, gridPrice := 30000, feedPrice := 8000, share := 128, fee := 500 }) ∧
    (feeder0 (household running 4 .active) fun p =>
      { p with prefetch := .arrived 4 (some (householdPart 4 (paid 7))) }).ports[(0 : Feeder)].prefetch =
        .arrived 4 (some (householdPart 4 (paid 7))) ∧
    (household running 4 .active).active.cursorParticipant 0 0 = some 4 ∧
    running.active.cursorParticipant 0 0 ≠ some 4 ∧ running.ports[(0 : Feeder)].prefetch = .none ∧
    (Prefetch.waiting 4).isWaiting = true ∧
    (inWindow running .notice [0x54]).ports[(0 : Feeder)].window = .notice ∧
    (inWindow running .notice [0x54]).ports[(0 : Feeder)].restartDue = none ∧
    verified [0x54] (cleanReadback [0x54]) = true ∧ verified [0x54] [] = false := by decide +kernel

theorem witness_Quiet :
    (inWindow running .quiet []).ports[(0 : Feeder)].window = .quiet ∧ running.isQuiesced = false ∧
    (inWindow running .quiet []).ports[(0 : Feeder)].restartDue = none ∧
    (inWindow running .quiet []).ports[(0 : Feeder)].enrolment.condition ≠ .listening ∧
    (household running 4 .active).active.feeder 0 = { enabled := true, slotCount := 2 } := by decide +kernel

/-- A register that listens, at a QUIET close of a feeder that is enabled. -/
def listens (expected remaining : Nat) (counting : Bool) : State :=
  feeder0 (inWindow (household running 4 .active) .quiet []) fun p =>
    { p with
      queue := [{ entry0 3 true false with waited := 3 }, { entry0 2 true false with slot := 1, waited := 3 }]
      enrolment := { condition := .listening, expected := expected, remaining := remaining, others := 1, counted := 2,
                     counting := counting } }

/-- An ANNOUNCE of serial 40111. -/
def announced : List LineChar :=
  (List.range 7).zip (withCheck [0x55, 0, 0, 0x9C, 0xAF]) |>.map fun x => ⟨1000 + 1042 * x.1, 2042 + 1042 * x.1, x.2, true⟩

theorem witness_Quiet_listening :
    (listens 0 1 false).ports[(0 : Feeder)].enrolment.condition = .listening ∧
    (listens 0 1 false).ports[(0 : Feeder)].enrolment.counting = false ∧
    ((listens 0 1 true).active.feeder 0).enabled = true ∧ (listens 0 1 true).ports[(0 : Feeder)].state = .running ∧
    judge 0x55 7 announced = .message (withCheck [0x55, 0, 0, 0x9C, 0xAF]) ∧
    field (withCheck [0x55, 0, 0, 0x9C, 0xAF]) 1 4 = 40111 ∧ (judge 0x55 7 []) = .nothing ∧ 40112 ≠ 40111 ∧
    (listens 0 1 true).isQuiesced = false ∧ (running.active.feeder 0).enabled = false := by decide +kernel

theorem witness_Quiet_orders :
    (listens 0 1 true).ports[(0 : Feeder)].round.map Round.headOk = some true ∧
    ((listens 0 1 true).ports[(0 : Feeder)].queue.filter fun e =>
      e.sent && e.sentAtHead && decide (3 ≤ e.waited ∧ 3 ≤ e.sends)) = [{ entry0 3 true false with waited := 3 }] := by
  decide +kernel

theorem witness_Tick :
    running.clock.boundaryDue = false ∧
    (∀ b ∈ (withBooks running [aBook 0 .collecting]).books, b.state = .collecting → running.clock.time < b.deadline) ∧
    running.clock.second < 86399 ∧
    ({ running.clock with day := 65535, second := 86399 } : DayClock).day = 65535 ∧
    ({ running.clock with day := 65534, second := 86399 } : DayClock).day ≠ 65535 := by decide +kernel

/-- A clock at a boundary at 00:15. -/
def atBoundary (s : State) : State := { s with clock := { s.clock with second := 900, boundaryDue := true } }

/-- Checks in progress, the read of an account on the port. -/
def checkingAt (toCheck : List Nat) (op : PortOp) : State :=
  (({ running with activation := { running.activation with phase := .checking, toCheck := toCheck } } : State)).onPort op

theorem witness_Boundary_checking :
    (atBoundary (checkingAt [4] (.fill .activation 4 0 none))).clock.boundaryDue = true ∧
    (atBoundary (checkingAt [4] (.fill .activation 4 0 none))).activation.phase = .checking ∧
    ({ atBoundary (checkingAt [4] (.fill .activation 4 0 none)) with
       clock := { running.clock with second := 900, boundaryDue := false } } : State).blocked := by decide +kernel

theorem witness_Disarm_checking :
    (checkingAt [4] (.fill .activation 4 0 none)).accepts ∧
    ((({ checkingAt [4] (.fill .activation 4 0 none) with activation := running.activation } : State)).answered 1 0x27
      .done 0 []).blocked ∧ (checkingAt [4] (.fill .activation 4 0 none)).candidate ≤ 0 := by decide +kernel

theorem witness_ActivateCommits_running :
    (checkingAt [4] (.fill .activation 4 31 (some (9, paid 1)))).activation.toCheck = [4] ∧
    (checkingAt [4] (.fill .activation 4 31 none)).activation.marking = [] ∧ 31 < 32 ∧ running.cache.find 4 = none ∧
    ({ checkingAt [4] (.fill .activation 4 31 none) with
       port := ready.port, activation := running.activation } : State).resting ∧
    recordOf 4 (recordBytes 4 (paid 0)) = some (paid 0) ∧ running.clock.openStart = some 0 ∧
    running.clock.minute / 15 * 15 ≤ 0 ∧ (∀ f : Feeder, running.ports[f].state = .off) ∧
    markingList .empty passing = [0, 1] ∧ (running.cache.fill 31 4 (some (paid 0))).lookup 0 = .miss ∧
    (running.cache.fill 31 4 (some (paid 0))).victim none = some 0 := by decide +kernel

/-- A boundary at 00:15 that finds the book of 00:00 still COLLECTING. -/
theorem witness_Boundary_collecting :
    let s := withBooks (unready (atBoundary (household running 4 .active)))
      [aBook 30 .posted, { aBook 0 .collecting with expected := [4, 191] }]
    s.clock.boundaryDue = true ∧ s.clock.openStart = some 0 ∧ s.resting ∧ s.commandDone = true ∧ s.engine = .running ∧
    s.port.state = .notReady ∧
    s.books.find? (fun b => b.state == .collecting) = some { aBook 0 .collecting with expected := [4, 191] } ∧
    (∀ x ∈ s.books, x.state = .collecting → x = { aBook 0 .collecting with expected := [4, 191] }) ∧
    [4, 191].Nodup ∧ (∀ i ∈ [4, 191], i < 192) ∧ s.books.length < 8 ∧
    0 < (0 * 1440 + 900 / 60) / s.active.general.interval * s.active.general.interval ∧ s.active.expectedSet ≠ [] := by
  decide +kernel

theorem witness_Boundary :
    (atBoundary (household running 4 .active)).clock.boundaryDue = true ∧
    (atBoundary (household running 4 .active)).clock.openStart = some 0 ∧
    (atBoundary (household running 4 .active)).resting ∧ (atBoundary (household running 4 .active)).commandDone = true ∧
    (atBoundary (household running 4 .active)).engine = .running ∧
    0 < (0 * 1440 + 900 / 60) / (atBoundary (household running 4 .active)).active.general.interval *
      (atBoundary (household running 4 .active)).active.general.interval ∧
    (List.range 192).filter (fun i => nonVacant ((atBoundary (household running 4 .active)).active.entry i) &&
      ((household running 4 .active).active.feeder ((household running 4 .active).active.entry i).feeder).enabled) ≠ [] ∧
    (∀ b ∈ (withBooks running (List.replicate 8 (aBook 0 .posted))).books, b.state ≠ .collecting) ∧
    8 ≤ (withBooks running (List.replicate 8 (aBook 0 .posted))).books.length ∧ (aBook 0 .posted).replaceable = true ∧
    List.replicate 8 (aBook 0 .posted) = [] ++ aBook 0 .posted :: List.replicate 7 (aBook 0 .posted) ∧
    (∀ b ∈ List.replicate 8 (aBook 0 .held), b.replaceable = false) ∧
    (withBooks (atBoundary running) (List.replicate 8 (aBook 0 .held))).resting := by decide +kernel

/-- A collecting book that expects participant 4, the clock at its deadline. -/
def collecting : State :=
  { unready running with
    books := [{ aBook 0 .collecting with expected := [4], deadline := 960 }]
    clock := { running.clock with second := 960 } }

theorem witness_Deadline :
    (∀ b ∈ running.books, b.state = .collecting → running.clock.time < b.deadline) ∧
    collecting.books.find? (fun b => b.state == .collecting) =
      some { aBook 0 .collecting with expected := [4], deadline := 960 } ∧
    960 ≤ collecting.clock.time ∧ collecting.resting ∧ collecting.commandDone = true ∧ collecting.port.state = .notReady ∧
    [4].Nodup ∧ (∀ i ∈ [4], i < 192) := by decide +kernel

theorem witness_Deadline_ready :
    ({ collecting with port := ready.port } : State).resting ∧ ready.port.state = .ready ∧ collecting.cache = .empty ∧
    collecting.books.find? (fun x => x.state != .posted && x.state != .discarded) =
      some { aBook 0 .collecting with expected := [4], deadline := 960 } ∧
    (∀ x ∈ collecting.books, x.start = 0 → x = { aBook 0 .collecting with expected := [4], deadline := 960 }) := by
  decide +kernel

/-- A READ ACCOUNT whose fill is in progress, with a dirty victim's record. -/
def filling : State := (ready.executing 1 0x01 (.readAccount 5)).onPort (.fill .command 5 31 (some (9, paid 1)))

theorem witness_Fill :
    filling.link.executing = some { tag := 1, code := 0x01, run := .readAccount 5 } ∧
    filling.port.inProgress = some (.fill .command 5 31 (some (9, paid 1))) ∧ 31 < 32 ∧ filling.cache.find 5 = none ∧
    ({ filling with port := { filling.port with inProgress := none } } : State).resting ∧
    recordOf 5 (recordBytes 5 (paid 7)) = some (paid 7) ∧ recordOf 5 (recordBytes 6 (paid 7)) = none := by decide +kernel

/-- A fill of account 5 into line 0 in progress. -/
def fillFor (s : State) (reader : Reader) : State := s.onPort (.fill reader 5 0 none)

theorem witness_Fill_commands :
    (running.executing 1 0x09 (.sweep { aSweep 7 .goingOn with block := none, inHand := 5 })).resting ∧
    filterMatches (aSweep 7 .goingOn).order.filter none = true ∧ (running.executing 1 0x0A (.scan (aScan 5 none))).resting ∧
    (aScan 5 none).tested = true ∧ (aScan 5 none).order.last < 5 + (aScan 5 none).order.step ∧
    recordOf 5 (recordBytes 5 (paid (-1))) = some (paid (-1)) ∧ (-1 : Int) ≤ (aScan 5 none).order.threshold := by
  decide +kernel

theorem witness_Fill_settlement :
    (settlingAt [5, 195] (.fill .settlement 5 0 none)).commandDone = true ∧
    (settlingAt [5, 195] (.fill .settlement 5 0 none)).books.find? (fun x => x.start == 0) = some (aBook 0 .settling) ∧
    (settlingAt [5, 195] (.fill .settlement 5 0 none)).books.find? (fun x => x.state != .posted && x.state != .discarded) =
      some (aBook 0 .settling) ∧
    ({ household running 4 .active with work := none, books := [] } : State).resting ∧
    (running.cache.fill 0 5 none).lookup 195 = .miss ∧ (running.cache.fill 0 5 none).victim none = some 1 := by
  decide +kernel

theorem witness_Fill_activation :
    (checkingAt [5, 9] (.fill .activation 5 0 none)).activation.phase = .checking ∧
    (checkingAt [5, 9] (.fill .activation 5 0 none)).commandDone = true ∧ running.resting ∧ running.engine = .running ∧
    (running.cache.fill 0 5 (some (paid 0))).lookup 9 = .miss ∧ (paid 0).balance = 0 ∧ (paid 1).balance ≠ 0 ∧
    running.clock.openStart = some 0 ∧ running.candidate ≤ 0 ∧
    (fillFor { running with activation := { running.activation with marking := [5] } } .activation).activation.marking =
      [5] := by decide +kernel

theorem witness_Fill_notice :
    (fillFor (feeder0 running fun p => { p with prefetch := .waiting 5 }) (.notice 0)).ports[(0 : Feeder)].prefetch =
      .waiting 5 ∧
    (feeder0 running fun p => { p with prefetch := .arrived 5 none }).resting ∧
    (fillFor (feeder0 { running with sequence := .flush true } fun p => { p with prefetch := .waiting 5 })
      (.notice 0)).sequence = .flush true ∧
    (running.cache.fill 0 5 none).dirtyAccounts = [] := by decide +kernel

/-- A REBASE, a REPAIR ACCOUNT and a TRANSFER that wait for the fill of account 5. -/
theorem witness_Fill_rebase_repair :
    (running.executing 1 0x18 (.rebaseRead 5)).resting ∧
    (aRepair 5).account = 5 ∧ (running.executing 1 0x41 (.repairRead (aRepair 5))).resting ∧
    (anOrder 5 193 3).payer ≠ (anOrder 5 193 3).payee := by decide +kernel

theorem witness_Fill_transfer :
    (running.executing 1 0x40 (.transferPayer (anOrder 5 193 3))).resting ∧
    (running.cache.fill 0 5 (some (paid 3))).lookup 193 = .miss ∧
    ((running.cache.fill 0 5 (some (paid 3))).setLock 0 true).victim none = some 1 ∧
    ((holds running 1 193 none false).cache.fill 0 5 (some (paid 3))).lookup 193 = .damaged 1 ∧
    ((holds running 1 193 (some (paid 9)) false).cache.fill 0 5 (some (paid 3))).lookup 193 = .good 1 (paid 9) ∧
    (running.executing 1 0x40 (.transferPayee (anOrder 193 5 3))).resting ∧
    balanceInRange (3 - 3) = true ∧ balanceInRange (140737488355327 + 3) = false := by decide +kernel

/-- A prefetch that waits for the account another reader's fill brings in; a cut command whose fill completes. -/
theorem witness_Fill_others :
    (fillFor (feeder0 { running with sequence := .flush true } fun p => { p with prefetch := .waiting 5 })
      .settlement).port.inProgress = some (.fill .settlement 5 0 none) ∧
    (∀ g : Feeder, g ≠ 0 → (feeder0 running fun p => { p with prefetch := .waiting 5 }).ports[g].prefetch ≠ .waiting 5) ∧
    (fillFor (withRestart (running.executing 1 0x01 (.cutting .restart none))) .command).link.executing =
      some { tag := 1, code := 0x01, run := .cutting .restart none } ∧
    (withRestart (running.executing 1 0x01 (.cutting .restart none))).resting := by decide +kernel

/-- A posting at a phase, its work record held. -/
def postAt (phase : PostingPhase) (cursor : Nat) (images : List Image) (durable : Bool) (s : State) : State :=
  { withBooks s [aBook 0 .posting] with
    work := some { book := 0, stage := .done, copies := [], toRead := [], rows := [], totals := none, aims := [],
                   landed := [], changes := [] }
    posting := { phase := phase, book := some 0, cursor := cursor, images := images, durable := durable, recheck := [] } }

theorem witness_WriteBack_posting :
    ((postAt .writeBack 0 [anImage 3 5, anImage 193 2] true (holds running 0 3 (some (paid 1)) true)).onPort
      (.writeBack .postingWriteBack 0 3)).port.inProgress = some (.writeBack .postingWriteBack 0 3) ∧
    (postAt .writeBack 0 [anImage 3 5] true running).commandDone = true ∧ running.port.header = some freshHeader ∧
    running.port.state = .ready ∧
    (postAt .writeBack 0 [] true running).books.find? (fun x => x.state != .posted && x.state != .discarded) =
      some (aBook 0 .posting) ∧ (aBook 0 .posting).state = .posting ∧
    ({ postAt .idle 0 [] true running with work := none, books := [] } : State).resting ∧
    (holds running 1 193 (some (paid 1)) true).cache.find 193 = some 1 ∧
    (holds running 1 193 (some (paid 1)) true).cache.isDirty 1 = true := by decide +kernel

/-- A FLUSH whose list goes on past a line that is clean and one that is gone, and the flush of a RESTART sequence. -/
theorem witness_WriteBack_flushes :
    let s := holds (holds running 1 7 (some (paid 1)) false) 2 9 (some (paid 4)) true
    (s.executing 1 0x48 (.flush [3, 5, 7, 9] 4)).resting ∧ [5, 7, 9] = [5, 7] ++ 9 :: [] ∧ s.cache.find 5 = none ∧
    s.cache.find 7 = some 1 ∧ s.cache.isDirty 1 = false ∧ s.cache.find 9 = some 2 ∧ s.cache.isDirty 2 = true ∧
    ({ s with sequence := .flush true } : State).sequence = .flush true ∧ s.isQuiesced = false ∧
    s.link.executing = none ∧ s.cache.dirtyAccounts = [9] ∧ running.cache.dirtyAccounts = [] := by decide +kernel

theorem witness_WriteBack :
    ((holds ready 3 9 (some (paid 1)) true).onPort (.writeBack .powerFlush 3 9)).cache.line 3 =
      some { tag := 9, record := some (paid 1), dirty := true, locked := false } ∧
    (warned ready).isQuiesced = true ∧ (warned ready).powerWarning = true ∧ (warned ready).link.executing = none ∧
    ((holds ready 3 9 (some (paid 1)) true).cache.set 3
      (some { tag := 9, record := some (paid 1), dirty := false, locked := false })).dirtyAccounts = [] ∧
    (holds ready 1 12 (some (paid 1)) true).cache.dirtyAccounts = [12] ∧
    (holds ready 1 12 (some (paid 1)) true).cache.find 12 = some 1 ∧
    ((holds ready 3 9 (some (paid 1)) true).executing 1 0x48 (.flush [9] 4)).resting ∧ Memory.wf [] = true ∧ 195 ≤ 195 ∧
    balanceInRange 140737488355327 = true := by decide +kernel

/-- A TRANSFER at a stage, both accounts in the cache. -/
def transferring (run : Run) (o : PortOp) : State := ((twoAccounts 5 0).executing 1 0x40 run).onPort o

theorem witness_TransferJournal :
    (transferring (.transferJournal (anOrder 3 193 5) [anImage 3 0, anImage 193 5] 0)
      (.journalEntry .transfer 0 (anImage 3 0))).port.header = some freshHeader ∧
    ({ twoAccounts 5 0 with port := { (twoAccounts 5 0).port with inProgress := none } } : State).resting ∧
    (transferring (.transferJournal (anOrder 3 193 5) [anImage 3 0, anImage 193 5] 1)
      (.journalEntry .transfer 1 (anImage 193 5))).port.inProgress = some (.journalEntry .transfer 1 (anImage 193 5)) ∧
    (transferring (.transferHeader (anOrder 3 193 5) [anImage 3 0, anImage 193 5])
      (.journalHeader .transfer freshHeader)).link.executing =
        some { tag := 1, code := 0x40, run := .transferHeader (anOrder 3 193 5) [anImage 3 0, anImage 193 5] } ∧
    (twoAccounts 5 0).cache.find 3 = some 0 ∧ (twoAccounts 5 0).cache.find 193 = some 1 ∧ 3 ≠ 193 := by decide +kernel

theorem witness_WriteBack_transfer :
    (transferring (.transferWriteBack (anOrder 3 193 5) [anImage 3 0, anImage 193 5] 0)
      (.writeBack .transfer 0 3)).link.executing =
        some { tag := 1, code := 0x40, run := .transferWriteBack (anOrder 3 193 5) [anImage 3 0, anImage 193 5] 0 } ∧
    (twoAccounts 5 0).cache.find 3 = some 0 ∧ (twoAccounts 5 0).port.header = some freshHeader ∧
    (holds (twoAccounts 5 0) 1 193 (some (paid 5)) true).cache.isDirty 1 = true ∧
    (holds (twoAccounts 5 0) 1 193 (some (paid 5)) true).cache.find 193 = some 1 ∧
    ((twoAccounts 5 0).executing 1 0x40
      (.transferWriteBack (anOrder 3 193 5) [anImage 3 0, anImage 193 5] 1)).resting ∧
    ((twoAccounts 5 0).executing 1 0x48 (.cutting .restart (some 4))).resting := by decide +kernel

theorem witness_PostingJournal :
    ((postAt .journal 0 [anImage 3 5, anImage 193 2] false running).onPort
      (.journalEntry .posting 0 (anImage 3 5))).posting.images[0 + 1]? = some (anImage 193 2) ∧
    (postAt .journal 1 [anImage 3 5, anImage 193 2] false running).posting.images[1 + 1]? = none ∧
    ((postAt .apply 0 [anImage 3 5] false running).onPort (.journalHeader .posting freshHeader)).posting.phase = .apply ∧
    (twoAccounts 5 0).cache.find 3 = some 0 ∧ (twoAccounts 5 0).cache.find 193 = some 1 ∧
    (postAt .journal 0 [] false running).commandDone = true := by decide +kernel

/-- Every line taken and dirty. -/
def allDirty : State :=
  { running with
    cache := { lines := Vector.ofFn fun i : Fin 32 =>
                 some { tag := 20 + i.val, record := some (paid 7), dirty := true, locked := false }
               order := List.range 32 } }

theorem witness_PostingJournal_victim :
    allDirty.cache.find 3 = none ∧ (∃ i, allDirty.cache.victim none = some i ∧ (allDirty.cache.line i).isSome = true) ∧
    allDirty.cache.isDirty 0 = true ∧
    ((postAt .apply 0 [anImage 3 0] true allDirty).onPort (.writeBack (.postingVictim (anImage 3 0)) 0 20)).posting.durable =
      true ∧
    allDirty.cache.line 0 = some { tag := 20, record := some (paid 7), dirty := true, locked := false } := by
  refine ⟨?_, ⟨_, rfl, ?_⟩, ?_, ?_, ?_⟩ <;> decide +kernel

/-- A posting at its header clear. -/
def clearing : State :=
  ({ withBooks running [aBook 0 .posting] with
     posting := { phase := .clear, book := some 0, cursor := 0, images := [anImage 3 0], durable := true,
                  recheck := [] } } : State).onPort (.journalClear .posting freshHeader)

theorem witness_Clear :
    (transferring (.transferClear (anOrder 3 193 5) [anImage 3 0, anImage 193 5])
      (.journalClear .transfer freshHeader)).port.inProgress = some (.journalClear .transfer freshHeader) ∧
    (twoAccounts 5 0).resting ∧ clearing.posting.phase = .clear ∧ clearing.posting.book = some 0 ∧
    clearing.port.inProgress = some (.journalClear .posting freshHeader) ∧
    (withBooks running [{ aBook 0 .posted with owed := true }]).resting ∧ running.commandDone = true ∧
    ((ready.executing 1 0x41 (.repairWrite (aRepair 195))).onPort (.repairRecord 195 (paid (-100)))).port.inProgress =
      some (.repairRecord 195 (paid (-100))) ∧
    (holds ready 0 195 none false).cache.find 195 = some 0 ∧
    ((holds ready 0 195 none false).executing 1 0x41 (.repairWrite (aRepair 195))).resting := by decide +kernel

/-- A command that waited for the posting. -/
theorem witness_Clear_waiting :
    ((withBooks running [{ aBook 0 .posted with owed := true }]).executing 1 0x18 (.rebaseWait 3)).resting ∧
    (twoAccounts 5 0).cache.find 3 = some 0 ∧
    (twoAccounts 5 0).cache.line 0 = some { tag := 3, record := some (paid 5), dirty := false, locked := false } ∧
    running.cache.lookup (anOrder 3 193 5).payer = .miss ∧ running.cache.victim none = some 0 ∧
    (holds running 0 195 none false).cache.lookup (aRepair 195).account = .damaged 0 := by decide +kernel

theorem witness_Reconcile :
    running.posting.recheck = [] ∧ 192 ≤ 192 ∧ (running.active.entry 191).kind = .vacant ∧
    ((household running 4 .active).active.entry 4).kind ≠ .vacant ∧
    ((household running 4 .active).active.entry 4).feeder = (0 : Feeder).val ∧
    0 < ((household running 4 .active).active.entry 4).limit ∧
    [entry0 0 false false].find? (fun x => x.slot == 0) = some (entry0 0 false false) ∧
    (running.live[(4 : Fin 192)]).limitActive = false ∧ ([] : List OrderEntry).length < 16 ∧
    16 ≤ (List.replicate 16 { entry0 0 false false with slot := 9 }).length ∧
    (List.replicate 16 { entry0 0 false false with slot := 9 }).find? (fun x => x.slot == 0) = none := by decide +kernel

/-- A recheck list of three. -/
def rechecking : State :=
  { household running 4 .active with
    posting := { running.posting with recheck := [(4, .arrears), (15, .current), (191, .arrears)] } }

theorem witness_Reconcile_recheck :
    (rechecking.posting.recheck.map Prod.fst).Pairwise (fun a b => a < b) ∧ (∀ r ∈ rechecking.posting.recheck, r.1 < 192) ∧
    (rechecking.active.entry 15).kind = .vacant ∧ (rechecking.active.entry 4).kind ≠ .vacant ∧
    rechecking.posting.recheck.lookup 191 = some .arrears := by decide +kernel

/-- R121: the list's participant 4 asks for LIMIT and leaves the list, the VACANT indices leave it without a request. -/
theorem test_recheck_served :
    (rechecking.reconcile []).posting.recheck = [] ∧
    ((rechecking.reconcile []).ports[(0 : Feeder)].queue.map fun e => (e.slot, e.kind, e.watts)) = [(0, .limit, 500)] := by
  decide +kernel

/-- A start-up at a stage. -/
def starting (op : PortOp) (startup : Startup) : State :=
  { ready with port := { state := .notReady, header := none, inProgress := some op, startup := startup } }

/-- A header with a TRANSFER's journal. -/
def journalled (count : Nat) : Header := { lastPosted := some 0, journal := .bookReady, book := some 15, count := count }

theorem witness_StartupReads :
    State.reset.commandDone = true ∧
    ({ State.reset with port := { State.reset.port with inProgress := none, startup := .idle } } : State).resting ∧
    State.reset.port.inProgress = some .startupHeaderRead ∧ State.reset.port.startup = .readingHeader ∧
    headerOf (List.replicate 16 0) = none ∧ headerOf (headerBytes 0x3D6A freshHeader) = some freshHeader ∧
    headerOf (headerBytes 0x3D6A (journalled 0)) = some (journalled 0) ∧
    headerOf (headerBytes 0x3D6A (journalled 196)) = some (journalled 196) ∧
    (starting (.journalVerifyRead 0) (.verifying (journalled 2) [])).port.startup = .verifying (journalled 2) [] ∧
    entryOf (List.replicate 28 0) = none ∧ entryOf (recordBytes 192 (paid 0)) = some (192, paid 0) ∧
    entryOf (recordBytes 3 (paid 1)) = some (3, paid 1) ∧ 3 ∈ [(3, paid 1)].map Prod.fst ∧ 3 ≠ 192 ∧
    3 ∉ ([] : List (Nat × AccountRecord)).map Prod.fst ∧ 0 + 1 < (journalled 2).count ∧ (journalled 1).count ≤ 0 + 1 ∧
    ([] : List (Nat × AccountRecord)) ++ [(3, paid 1)] = (3, paid 1) :: [] := by decide +kernel

theorem witness_StartupWrites :
    (starting (.replayRecord 3 (paid 1)) (.writing (journalled 1) [(3, paid 1)])).commandDone = true ∧
    (starting (.replayRecord 3 (paid 1)) (.writing (journalled 1) [(3, paid 1)])).port.inProgress =
      some (.replayRecord 3 (paid 1)) ∧
    (starting (.replayRecord 3 (paid 1)) (.writing (journalled 2) [(3, paid 1), (4, paid 2)])).port.startup =
      .writing (journalled 2) ((3, paid 1) :: [(4, paid 2)]) ∧
    (starting (.startupHeaderWrite freshHeader) (.closing (journalled 1) (.lost 0))).port.startup =
      .closing (journalled 1) (.lost 0) ∧
    ({ ready with port := { ready.port with state := .notReady, header := none } } : State).resting := by decide +kernel

theorem witness_InitWrites :
    ((unready ready).executing 1 0x49 .initHeader).resting ∧
    ((unready ready).executing 1 0x49 (.initRecords 195)).link.executing =
      some { tag := 1, code := 0x49, run := .initRecords 195 } ∧
    (((unready ready).executing 1 0x49 .initFinal).onPort (.initHeader true)).port.inProgress = some (.initHeader true) ∧
    (((unready ready).executing 1 0x49 .initReadback).onPort .initReadback).port.inProgress = some .initReadback ∧
    headerOf (headerBytes 0x3D6A freshHeader) = some freshHeader ∧ headerOf (List.replicate 16 0) = none ∧
    0 < 195 := by decide +kernel

theorem witness_MemoryCanonical :
    filling.memoryCanonical ∧ (∃ t, step { filling with pending := [.cacheFill none] } = .next t) :=
  ⟨rfl, _, rfl⟩

theorem witness_OnlyTheOperationWrites :
    filling.memoryCanonical ∧ (∃ t, exec (.cacheFill none) filling = .next t) ∧
    filling.port.inProgress = some (.fill .command 5 31 (some (9, paid 1))) ∧
    (PortOp.fill .command 5 31 (some (9, paid 1))).place = some 320 ∧ (319 < 320 ∨ 320 + 32 ≤ 319) :=
  ⟨rfl, ⟨_, rfl⟩, rfl, rfl, by decide⟩

theorem witness_AttentionSound :
    (told filling (.damaged 5 .command)).attention.sound ∧
    (∃ t, step { told filling (.damaged 5 .command) with pending := [.cacheFill none] } = .next t) ∧
    (told ready (.damaged 5 .command)).attention.items = [] ++ { event := .damaged 5 .command, repeats := 1 } :: [] ∧
    (Attention.damaged 5 .settlement).kind = (Attention.damaged 5 .command).kind ∧
    (∀ x ∈ ready.attention.items, ¬(x.event.kind = 14 ∧ x.event.object = 5)) ∧ ready.attention.items.length < 16 ∧
    16 ≤ (List.replicate 16 ({ event := .damaged 6 .command, repeats := 1 } : AttentionItem)).length := by
  refine ⟨?_, ⟨_, rfl⟩, rfl, rfl, ?_, ?_, ?_⟩
  · exact ⟨by decide, by simp, trivial⟩
  all_goals decide

/-- A buffer that waits behind an executing command is kept within the capacities. -/
theorem witness_Bounded :
    ({ filling with link := { filling.link with waiting := [{ tag := 2, request := .command .readClock }] },
                    pending := [.cacheFill none] } : State).bounded ∧
    (∃ t, step { filling with link := { filling.link with waiting := [{ tag := 2, request := .command .readClock }] },
                              pending := [.cacheFill none] } = .next t) :=
  ⟨by unfold State.bounded State.outboundBounded State.buffersBounded State.booksBounded State.queuesBounded
      decide +kernel, _, rfl⟩

theorem witness_LocalPrice :
    8000 ≤ 30000 ∧ 256 ≤ 256 ∧
    bandInRange { dayClass := .both, start := 0, gridPrice := 999999, feedPrice := 999999, share := 256, fee := 99999 } = true ∧
    ({ running with active := passing } : State).active.bandFor 0 (aBook 0 .waiting).start =
      some (0, { dayClass := .both, start := 0, gridPrice := 30000, feedPrice := 8000, share := 128, fee := 500 }) := by
  decide +kernel

theorem witness_Shares :
    ([(10, 400), (11, 400), (12, 400), (13, 300)].map Prod.fst).Nodup ∧
    (∀ g ∈ [(10, 400), (11, 400), (12, 400), (13, 300)], 0 < g.2) ∧
    [(10, 400), (11, 400), (12, 400), (13, 300)] ≠ [] ∧
    700 ≤ ([(10, 400), (11, 400), (12, 400), (13, 300)].map Prod.snd).sum := by decide

theorem witness_LocalEnergy :
    ([{ index := 4, snapshot := none }, { index := 9, snapshot := none }] : List Member).map Member.index = [4, 9] ∧
    [4, 9].Nodup := by decide

/-- A member in each treatment that reads a record, and the first grid-tie row. -/
theorem witness_LocalEnergy_rows :
    ([(4, some (paid 1))] : Copies).lookup 4 = some (some (paid 1)) ∧ (paid 1).baseMinute = none ∧
    (([(4, none)] : Copies).lookup 4 = some none) ∧
    ({ paid 1 with baseMinute := some 15, rebasePending := true } : AccountRecord).baseMinute = some 15 ∧
    (memberRow passing (aBook 0 .settling) [(0, some { paid 1 with baseMinute := some 0 })]
      { index := 0, snapshot := some { exported := 9, imported := 8, counterFault := false } }).treatment = .settled ∧
    (memberRow passing (aBook 0 .settling) [] { index := 0, snapshot := none }).kind = .gridTie := by decide +kernel

theorem witness_MoneyTotals :
    (withBooks running [aBook 0 .settling]).book (aBook 0 .settling).start = some (aBook 0 .settling) ∧
    (∀ l ∈ ([(4, -5), (195, 3)] : List (Nat × Int)), l.1 ≠ 193 ∧ l.1 ≠ 194) := by decide +kernel

/-- A work record whose stage 7 may end: all four system accounts read, two landings. -/
def landedWork (clearing : Option AccountRecord) (balance : Int) : Work :=
  { book := 0, stage := .walking,
    copies := [(192, clearing), (193, some (paid 0)), (194, some (paid 0)), (195, some (paid 0)), (4, some (paid balance))],
    toRead := [], rows := [], totals := some (totalsOf []), aims := [], landed := [(4, -5), (195, 5)], changes := [] }

theorem witness_MoneyTotals_ending :
    (landedWork none 0).copies.lookup 192 = some none ∧ (landedWork (some (paid 0)) 0).copies.lookup 195 = some (some (paid 0)) ∧
    outOfRange (changeList (landedWork (some (paid 0)) (-140737488355327)).copies [] [(4, -5), (195, 5)]) = some 4 ∧
    (changeList (landedWork (some (paid 0)) 0).copies [] [(4, -5), (195, 5)]).map ChangeItem.account = [4, 195] ∧
    (landedWork (some (paid 0)) 0).totals = some (totalsOf []) ∧ ([] : List MemberRow).map MemberRow.index = [] := by
  decide +kernel

/-- A book SETTLING whose last read, of account 9, is in progress. -/
def lastRead (stage : WorkStage) (aims : List Aim) : State :=
  ({ withBooks running
      [aBook 30 .posted,
       { aBook 0 .settling with
         members := [{ index := 9, snapshot := some { exported := 9, imported := 1, counterFault := false } }]
         capture := some { band := 0, gridPrice := 30000, feedPrice := 8000, share := 128, fee := 500, localPrice := 19000 } }] with
     work := some { landedWork (some (paid 0)) 0 with
                    stage := stage, toRead := if stage = .reading then [9] else [], aims := aims, totals := none,
                    landed := [] } } : State).onPort (.fill .settlement 9 0 none)

theorem witness_MoneyTotals_lastRead :
    (lastRead .reading []).cache.find 9 = none ∧ (lastRead .reading []).commandDone = true ∧
    (lastRead .reading []).port.state = .ready ∧
    (lastRead .reading []).work.map (fun w => (w.stage, w.toRead)) = some (.reading, [9]) ∧
    ((lastRead .reading []).book 0).map Book.state = some .settling ∧
    ({ lastRead .reading [] with work := none, books := [], port := ready.port } : State).resting ∧
    (lastRead .reading []).port.header = some freshHeader ∧
    (lastRead .walking []).work.map (fun w => w.stage) = some .walking := by decide +kernel

/-- The ends of a walk: at the account where it stands, in the cache, at a link to another, at a record that is DAMAGED, at
its start by the whole copy of a line now DAMAGED, and at an account that the cache does not hold. -/
theorem witness_MoneyTotals_ends :
    let cache := ((running.cache.fill 1 2 (some (paid 1))).fill 2 4 none).fill 0 9 (some (paid 1))
    cache.lookup 9 = .good 0 (paid 1) ∧ (running.active.entry 9).redirect = none ∧ cache.lookup 2 = .good 1 (paid 1) ∧
    ([] ++ [9] : List Nat).head? = some 9 ∧ ([2] ++ [3] : List Nat).head? = some 2 ∧
    (chained.entry 2).redirect.map Redirect.target = some 3 ∧ cache.lookup 4 = .damaged 2 ∧
    (landedWork (some (paid 0)) 0).copies.lookup 4 = some (some (paid 0)) ∧ cache.lookup 3 = .miss ∧
    cache.victim none = some 3 := by decide +kernel

/-- R112, step 1: a walk reads its start through the cache again, so a line evicted since is asked for. -/
theorem test_walk_reads_again :
    let aim : Aim := { participant := 4, direction := .debit, amount := 5, reached := 4 }
    let s := { lastRead .walking [aim] with port := ready.port }
    s.settleTurn = none ∧ s.settleWant = some 4 ∧
    ({ s with cache := s.cache.fill 0 4 none } : State).settleTurn.bind (fun t => t.work.map Work.landed) =
      some [(4, -5)] := by decide +kernel

/-- A walk at a participant whose link covers debits alone. -/
theorem witness_MoneyTotals_walk :
    (chained.entry 2).redirect = some { target := 3, scope := .all } ∧ (passing.entry 1).redirect = none ∧ 2 < 192 := by
  decide +kernel

end Sys2Proof.Tests
end

section
/-! ## The hardware reset (O2, O3) -/

namespace Sys2Proof.Machine

/-- After a hardware reset every live-state record is in its initial condition (R24). -/
theorem State.afterHardwareReset_live (m : List Host.Cell) (w : Bool) (n : Nat) (p : List Instr) (i : Fin 192) :
    (State.afterHardwareReset m w n p).live[i] = .initial := by
  simp [State.afterHardwareReset]

/-- After a hardware reset every port stands as R22, R156 and R161 have it. -/
theorem State.afterHardwareReset_ports (m : List Host.Cell) (w : Bool) (n : Nat) (p : List Instr) (f : Feeder) :
    (State.afterHardwareReset m w n p).ports[f] = .afterReset := by
  simp [State.afterHardwareReset]

/-- The capacities hold after a hardware reset: every list is empty. -/
theorem State.reset_bounded : State.reset.bounded := by
  refine ⟨Nat.zero_le _, ⟨Nat.zero_le _, fun _ _ => rfl⟩, Nat.zero_le _, fun f => ?_⟩
  rw [State.reset, State.afterHardwareReset_ports]
  exact Nat.zero_le _

/-- Settles O2: the reset state is a literal but for its two vectors of equal elements. -/
theorem resetHoldsTheHardwareResetValues : Obligations.ResetHoldsTheHardwareResetValues := by
  have live := State.afterHardwareReset_live [] false 0 []
  have port (f : Feeder) : State.reset.ports[f] = .afterReset := State.afterHardwareReset_ports [] false 0 [] f
  refine ⟨rfl, rfl, rfl, rfl, live, fun f => ?ports, rfl, rfl, rfl, rfl, rfl, rfl, rfl, rfl, rfl, rfl, rfl, rfl, rfl, rfl,
    rfl, rfl, rfl, rfl, rfl, rfl, rfl, rfl, rfl, rfl, rfl, rfl, rfl, ⟨Nat.zero_le _, trivial⟩, State.reset_bounded⟩
  case ports =>
    rw [port f]
    exact ⟨rfl, rfl, rfl, rfl, rfl, rfl, rfl, rfl, rfl, rfl⟩

/-- A hardware reset that cuts off a write leaves every byte outside the written place (R128, R129). -/
theorem State.leftMemory_outside {s : State} (left : Option (List Byte)) {a : Nat} (hm : s.memoryCanonical)
    (outside : ∀ o place, s.port.inProgress = some o → o.place = some place → a < place ∨ place + 32 ≤ a) :
    readByte (s.leftMemory left) a = readByte s.memory a := by
  rcases left with _ | bytes
  · rfl
  rcases hp : s.port.inProgress.bind PortOp.place with _ | place
  · simp only [State.leftMemory, hp]
  obtain ⟨o, ho, hplace⟩ := Option.bind_eq_some_iff.1 hp
  have short : (bytes.take Config.placeSize).length ≤ 32 := by
    rw [List.length_take]; exact Nat.min_le_left _ _
  simp only [State.leftMemory, hp]
  exact readByte_writeBytes_outside hm (by have := outside o place ho hplace; omega)

/-- Settles O3: the reset state differs from `State.reset` in what the power-warning input decides and in what stays. -/
theorem hardwareResetEmptiesTheEngineAndKeepsMemory : Obligations.HardwareResetEmptiesTheEngineAndKeepsMemory := by
  intro s left hm
  refine ⟨s.hardwareReset left, rfl, ?values, fun a outside => State.leftMemory_outside left hm outside⟩
  unfold State.hardwareReset
  cases s.powerWarning <;> rfl

end Sys2Proof.Machine
end

section
/-! ## HOLD, RESUME, ENROL and SENSE ATTENTION (O5, O6, O25) -/

namespace Sys2Proof.Machine

/-- A feeder's number lies in range. -/
theorem feeder_inRange (f : Feeder) : decide (f.val ≤ 3) = true := decide_eq_true (Nat.le_of_lt_succ f.isLt)

/-- HOLD's rule, by the state of the feeder (R14). -/
theorem State.startHold_of_feeder (s : State) (f : Feeder) :
    s.startHold f.val =
      match s.ports[f].state with
      | .running => (s.modifyPort f fun p => { p with state := .holdPending }).finish 0 []
      | .holdPending => s.finish 0 []
      | .held => s.finish 0 []
      | .off => s.refuse notRunningCode := by
  simp only [State.startHold, feederOf_val] <;> rfl

/-- RESUME's rule, by the state of the feeder (R16). -/
theorem State.startResume_of_feeder (s : State) (f : Feeder) :
    s.startResume f.val =
      match s.ports[f].state with
      | .running => s.finish 0 []
      | .holdPending => (s.modifyPort f fun p => { p with state := .running }).finish 0 []
      | .held => (if s.enabled f then s.modifyPort f FeederPort.newRound else s.feederOff f).finish 0 []
      | .off => s.refuse notRunningCode := by
  simp only [State.startResume, feederOf_val] <;> rfl

/-- A command decided on a disabled HELD feeder that goes OFF (R13, R19). -/
theorem State.install_feederOff (s : State) (tag code : Byte) (f : Feeder) :
    (s.install tag code).feederOff f = (s.feederOff f).install tag code := by
  simp only [State.feederOff_eq]
  change (if s.ports[f].enrolment.condition = .listening then _ else _) = State.install (if _ then _ else _) tag code
  split <;> rfl

/-- Settles O5: each command's rule, one case for each state of the feeder. -/
theorem holdAndResumeFollowTheFeederState : Obligations.HoldAndResumeFollowTheFeederState := by
  intro s tag f h
  have hold := exec_accepts h (c := .hold f.val) (feeder_inRange f) tag
  have resume := exec_accepts h (c := .resume f.val) (feeder_inRange f) tag
  simp only [State.startCommand, State.startHold_of_feeder] at hold
  simp only [State.startCommand, State.startResume_of_feeder, State.install_feederOff] at resume
  simp only [State.feederOff_eq] at resume
  constructor
  · refine hold.trans (congrArg Host.Outcome.next ?_)
    change (match s.ports[f].state with | .running => _ | .holdPending => _ | .held => _ | .off => _) = _
    cases s.ports[f].state <;> rfl
  · refine resume.trans (congrArg Host.Outcome.next ?_)
    change (match s.ports[f].state with | .running => _ | .holdPending => _ | .held => _ | .off => _) = _
    cases s.ports[f].state
    case held =>
      change State.finish (if (s.active.feeder f.val).enabled = true then _ else _) 0 [] = _
      cases (s.active.feeder f.val).enabled <;> rfl
    all_goals rfl

/-- ENROL's rule on a feeder (R17). -/
theorem State.startEnrol_of_feeder (s : State) (f : Feeder) (rounds serial : Nat) :
    s.startEnrol f.val rounds serial =
      if s.ports[f].state = .off || s.ports[f].state = .held then s.refuse notRunningCode
      else if s.ports[f].enrolment.condition != .free then s.refuse busyCode
      else (s.modifyPort f fun p => { p with enrolment := Enrolment.start rounds serial }).finish 1 [] := by
  simp only [State.startEnrol, feederOf_val]

/-- A command with a parameter out of range that is not a staging command is REFUSED BAD_PARAMETER (R166). -/
theorem exec_outOfRange {s : State} (h : s.accepts) {c : Command} (hc : commandInRange c = false)
    (hs : stagingCodes.contains (BitVec.ofNat 8 (commandCode c)).toNat = false) (tag : Byte) :
    exec (c.row tag) s =
      .next (s.answered tag (BitVec.ofNat 8 (commandCode c)) .refused badParameterCode []) := by
  have hq : (s.install tag (BitVec.ofNat 8 (commandCode c))).isQuiesced = false := h.2.2
  rw [exec_row, Request.ofCommand_outOfRange hc, State.arrive_free h.1 h.2.1]
  simp only [State.begin, State.decideFaulty, hq, hs, Bool.false_and, Bool.false_eq_true, if_false]
  rfl

/-- Settles O6: the parameters' range, then the two refusals and the start. -/
theorem enrolStartsTheRegisterOrIsRefused : Obligations.EnrolStartsTheRegisterOrIsRefused := by
  constructor
  · intro s tag feeder rounds serial h out
    have hc : commandInRange (.enrol feeder rounds serial) = false := by
      simp only [commandInRange, Bool.and_eq_false_iff, decide_eq_false_iff_not]
      omega
    exact exec_outOfRange h hc rfl tag
  · intro s tag f rounds serial h low high hserial
    have hc : commandInRange (.enrol f.val rounds serial) = true := by
      simp only [commandInRange, Bool.and_eq_true, decide_eq_true_eq]
      omega
    refine (exec_accepts h hc tag).trans (congrArg Host.Outcome.next ?_)
    rw [State.startCommand, State.startEnrol_of_feeder]
    change (if (s.ports[f].state = .off || s.ports[f].state = .held : Bool) then _
      else if (s.ports[f].enrolment.condition != .free) then _ else _) = _
    simp only [Bool.or_eq_true, decide_eq_true_eq, bne_iff_ne]
    split
    · rfl
    · split <;> rfl

/-- An item of another kind than ENROL_DONE frees no register (R173). -/
theorem State.freeRegister_of_kind (s : State) {e : Attention} (h : e.kind ≠ 1) : s.freeRegister e = s := by
  cases e
  case enrolDone => exact absurd rfl h
  all_goals rfl

/-- An ENROL_DONE item frees its feeder's register (R19, R173). -/
theorem State.freeRegister_enrolDone (s : State) (f : Feeder) (ending : EnrolEnding) (others counted : Nat) :
    s.freeRegister (.enrolDone f.val ending others counted) =
      s.setPort f { s.ports[f] with enrolment := .free } := by
  simp only [State.freeRegister, feederOf_val]
  rfl

/-- SENSE ATTENTION's rule on an empty list (R173). -/
theorem State.startSense_nil {s : State} (h : s.attention.items = []) :
    s.startSense =
      ({ s with attention := { items := [], overflow := false } } : State).senseAnswer s.attention.overflow 1 [] := by
  simp only [State.startSense, h]

/-- SENSE ATTENTION's rule on a list with an oldest item (R173). -/
theorem State.startSense_cons {s : State} {i : AttentionItem} {rest : List AttentionItem}
    (h : s.attention.items = i :: rest) :
    s.startSense =
      (({ s with attention := { items := rest, overflow := false } } : State).freeRegister i.event).senseAnswer
        s.attention.overflow 0 (itemFields i) := by
  simp only [State.startSense, h]

/-- Settles O25: the answer by the oldest item, and each event's codes by its definition, a coded field by its cases. -/
theorem senseAttentionTakesTheOldestItem : Obligations.SenseAttentionTakesTheOldestItem := by
  refine ⟨fun s tag h => ?_, ?_⟩
  · have sense := exec_accepts h (c := .senseAttention) rfl tag
    rw [State.startCommand] at sense
    refine ⟨fun empty => ?_, fun i rest items kind => ?_, fun f ending others counted repeats rest items => ?_⟩
    · exact sense.trans (congrArg _ (State.startSense_nil empty))
    · rw [State.startSense_cons (s := s.install tag _) items, State.freeRegister_of_kind _ kind] at sense
      exact sense
    · rw [State.startSense_cons (s := s.install tag _) items, State.freeRegister_enrolDone] at sense
      exact sense
  · refine ⟨fun f ending others counted => ?_, fun marked state => ?_, fun check object => ?_,
      fun m reason account => ?_, fun candidate start => ⟨rfl, rfl, rfl⟩, fun p run => ⟨rfl, rfl, rfl⟩,
      fun p x e i round => ⟨rfl, rfl, rfl⟩, fun p e i allowed => ⟨rfl, rfl, rfl⟩,
      fun f j serial round => ⟨rfl, rfl, rfl⟩, fun p f j round => ⟨rfl, rfl, rfl⟩,
      fun a balance creditFloor => ⟨rfl, rfl, rfl⟩, fun p f j k watts sends => ?_, fun f j k => ?_,
      fun a reader => ?_, fun p book account d => ?_, fun j book count => ?_, fun j book count place => ?_⟩
    · cases ending <;> exact ⟨rfl, rfl, rfl⟩
    · cases state <;> exact ⟨rfl, rfl, rfl⟩
    · cases object <;> exact ⟨rfl, rfl, rfl⟩
    · cases reason <;> exact ⟨rfl, rfl, rfl⟩
    · cases k <;> exact ⟨rfl, rfl, rfl⟩
    · cases k <;> exact ⟨rfl, rfl, rfl⟩
    · cases reader <;> exact ⟨rfl, rfl, rfl⟩
    · cases d <;> exact ⟨rfl, rfl, rfl⟩
    · cases j <;> cases book <;> exact ⟨rfl, rfl, rfl⟩
    · cases j <;> cases book <;> exact ⟨rfl, rfl, rfl⟩

end Sys2Proof.Machine
end

section
/-! ## Lists in order, the turned list, and what a line carries -/

namespace Sys2Proof.Machine

/-! ### Lists in ascending order -/

/-- The model's insertion is the library's. -/
theorem insertAscending_eq (n : Nat) (l : List Nat) : insertAscending n l = l.orderedInsert (· ≤ ·) n := by
  induction l with
  | nil => rfl
  | cons m rest ih => simp only [insertAscending, List.orderedInsert_cons, ih]

/-- The model's sort is the library's insertion sort. -/
theorem ascending_eq (l : List Nat) : ascending l = l.insertionSort (· ≤ ·) := by
  induction l with
  | nil => rfl
  | cons n rest ih =>
    rw [List.insertionSort_cons, ← ih, ← insertAscending_eq]
    rfl

/-- Sorting moves the numbers about and no more. -/
theorem ascending_perm (l : List Nat) : (ascending l).Perm l := by
  rw [ascending_eq]
  exact List.perm_insertionSort _ l

/-- What is sorted is in ascending order. -/
theorem ascending_pairwise (l : List Nat) : (ascending l).Pairwise (· ≤ ·) := by
  rw [ascending_eq]
  exact List.pairwise_insertionSort _ l

/-- What is sorted and holds no number twice is in strictly ascending order. -/
theorem ascending_pairwise_lt {l : List Nat} (h : l.Nodup) : (ascending l).Pairwise (· < ·) := by
  have nodup : (ascending l).Nodup := (ascending_perm l).nodup_iff.2 h
  exact ((ascending_pairwise l).and nodup).imp fun ⟨le, ne⟩ => Nat.lt_of_le_of_ne le ne

/-! ### The turned list (R5, R152) -/

/-- The slots of the first READY entries that lie below the slot count, in queue order. -/
def readySlots (q : List OrderEntry) (n : Nat) : List Nat :=
  (((q.filter fun e => !e.sent).take 4).map OrderEntry.slot).filter fun j => decide (j < n)

/-- The turned list is the ready slots in ascending order. -/
theorem turnedSlots_eq (q : List OrderEntry) (n : Nat) : turnedSlots q n = ascending (readySlots q n) := rfl

theorem readySlots_length (q : List OrderEntry) (n : Nat) : (readySlots q n).length ≤ 4 := by
  calc (readySlots q n).length
      ≤ (((q.filter fun e => !e.sent).take 4).map OrderEntry.slot).length := List.length_filter_le _ _
    _ = ((q.filter fun e => !e.sent).take 4).length := List.length_map _
    _ ≤ 4 := List.length_take_le _ _

theorem mem_readySlots {q : List OrderEntry} {n j : Nat} (h : j ∈ readySlots q n) :
    j < n ∧ ∃ e ∈ q, e.slot = j ∧ e.sent = false := by
  obtain ⟨hmap, hlt⟩ := List.mem_filter.1 h
  obtain ⟨e, he, hslot⟩ := List.mem_map.1 hmap
  obtain ⟨hq, hsent⟩ := List.mem_filter.1 (List.mem_of_mem_take he)
  exact ⟨by simpa using hlt, e, hq, hslot, by simpa using hsent⟩

/-- One entry for a slot makes the ready slots distinct. -/
theorem readySlots_nodup {q : List OrderEntry} (n : Nat) (h : (q.map OrderEntry.slot).Nodup) : (readySlots q n).Nodup :=
  (h.sublist (((List.take_sublist _ _).trans List.filter_sublist).map _)).filter _

/-! ### The bits of a message (R3, R4, section 12.2) -/

/-- Bit `k` of a byte's character: the start bit, the data bits least significant first, the stop bit. -/
def charBit (b : Byte) (k : Nat) : Bool := if k = 0 then false else if k = 9 then true else b.getLsbD (k - 1)

theorem charBits_getElem? (b : Byte) {k : Nat} (h : k < 10) : (charBits b)[k]? = some (charBit b k) := by
  interval_cases k <;> rfl

theorem charBits_length (b : Byte) : (charBits b).length = 10 := rfl

theorem lineBits_cons (b : Byte) (rest : List Byte) : lineBits (b :: rest) = charBits b ++ lineBits rest := rfl

/-- A message has ten bits for a byte. -/
theorem lineBits_length (message : List Byte) : (lineBits message).length = 10 * message.length := by
  induction message with
  | nil => rfl
  | cons b rest ih => rw [lineBits_cons, List.length_append, charBits_length, ih, List.length_cons]; ring

/-- The bits of a message, byte by byte. -/
theorem lineBits_getElem? {message : List Byte} {n k : Nat} {b : Byte} (hb : message[n]? = some b) (hk : k < 10) :
    (lineBits message)[10 * n + k]? = some (charBit b k) := by
  induction message generalizing n with
  | nil => simp at hb
  | cons c rest ih =>
    rw [lineBits_cons]
    cases n with
    | zero =>
      obtain rfl : c = b := by simpa using hb
      rw [Nat.mul_zero, Nat.zero_add, List.getElem?_append_left (by rw [charBits_length]; exact hk), charBits_getElem? c hk]
    | succ n =>
      have e : 10 * (n + 1) + k = (charBits c).length + (10 * n + k) := by rw [charBits_length]; ring
      rw [e, List.getElem?_append_right (Nat.le_add_right _ _), Nat.add_sub_cancel_left]
      exact ih (by simpa using hb)

/-- The line driver is raised exactly while a send window's message lasts (R3). -/
theorem FeederPort.drivesAt_iff (p : FeederPort) (time : Nat) :
    p.drivesAt time = true ↔ p.driving = true ∧ time * 9600 < 10 * p.sending.length * 1000000 := by
  unfold FeederPort.drivesAt FeederPort.lineBit bitAt Config.loopRate
  cases p.driving with
  | false => simp
  | true =>
    simp only [if_true, true_and, Option.isSome_iff_ne_none, ne_eq, List.getElem?_eq_none_iff, Nat.not_le, lineBits_length]
    exact Nat.div_lt_iff_lt_mul (show 0 < 1000000 by decide)

/-- The bit on the line within a character (R3). -/
theorem FeederPort.lineBit_of_char {p : FeederPort} {time n k : Nat} {b : Byte} (hd : p.driving = true)
    (ht : time * 9600 / 1000000 = 10 * n + k) (hk : k < 10) (hb : p.sending[n]? = some b) :
    p.lineBit time = some (charBit b k) := by
  simp only [FeederPort.lineBit, hd, if_true, bitAt, Config.loopRate, ht, lineBits_getElem? hb hk]

/-- The value two of three samples agree on (R4). -/
theorem sampleBit_eq (x : Sample) :
    sampleBit x = if x.first = x.second ∨ x.first = x.third then x.first else x.second := by
  obtain ⟨a, b, c⟩ := x
  cases a <;> cases b <;> cases c <;> rfl

/-- A readback verifies when it has the message's number of bits and each is the bit sent (R4). -/
theorem verified_iff (message : List Byte) (readback : List Sample) :
    verified message readback = true ↔
      readback.length = 10 * message.length ∧
      ∀ n k (b : Byte) (x : Sample), message[n]? = some b → k < 10 → readback[10 * n + k]? = some x →
        sampleBit x = charBit b k := by
  rw [verified, beq_iff_eq]
  constructor
  · intro h
    refine ⟨by rw [← lineBits_length, ← h, List.length_map], fun n k b x hb hk hx => ?_⟩
    have bit := lineBits_getElem? hb hk
    rw [← h, List.getElem?_map, hx] at bit
    simpa using bit
  · rintro ⟨length, bits⟩
    refine List.ext_getElem (by rw [List.length_map, lineBits_length, length]) fun i hi hi' => ?_
    rw [List.length_map] at hi
    have hn : i / 10 < message.length := by rw [length] at hi; omega
    have e : 10 * (i / 10) + i % 10 = i := Nat.div_add_mod i 10
    have hk : i % 10 < 10 := Nat.mod_lt _ (by decide)
    have hb : message[i / 10]? = some message[i / 10] := List.getElem?_eq_getElem hn
    have hx : readback[10 * (i / 10) + i % 10]? = some readback[i] := by rw [e]; exact List.getElem?_eq_getElem hi
    have bit := lineBits_getElem? hb hk
    rw [e, List.getElem?_eq_getElem hi', Option.some.injEq] at bit
    rw [List.getElem_map, bits _ _ _ _ hb hk hx, bit]

end Sys2Proof.Machine
end

section
/-! ## The HEAD window opens (O37) -/

namespace Sys2Proof.Machine

/-- The HEAD window of a running feeder opens (R1, R5, R152). -/
theorem State.openHead_of_due {s : State} {f : Feeder} (due : s.ports[f].window = .headDue)
    (runs : s.ports[f].state = .running ∨ s.ports[f].state = .holdPending) (hq : s.isQuiesced = false) :
    s.openHead f =
      s.setPort f
        { s.ports[f].sendIn .head (headMessage f s.ports[f].number s.clock.mark
            (turnedSlots s.ports[f].queue (s.active.feeder f.val).slotCount)) with
          round := some (freshRound (s.active.feeder f.val).slotCount
            (s.orderCopies f (turnedSlots s.ports[f].queue (s.active.feeder f.val).slotCount)))
          queue := markHead s.ports[f].queue (turnedSlots s.ports[f].queue (s.active.feeder f.val).slotCount) } := by
  refine if_pos ?_
  simp only [Bool.and_eq_true, Bool.or_eq_true, decide_eq_true_eq, Bool.not_eq_true']
  exact ⟨⟨due, runs⟩, hq⟩

/-- Settles O37. -/
theorem headWindowOpensTheRound : Obligations.HeadWindowOpensTheRound := by
  refine ⟨fun q n => ⟨?length, ?members, ?strict, ascending_pairwise _, ascending_perm _⟩,
    fun p time => ⟨p.drivesAt_iff time, fun n k b hd ht hk hb => FeederPort.lineBit_of_char hd ht hk hb⟩,
    fun s f due runs hq => congrArg _ (State.openHead_of_due due runs hq)⟩
  case length => exact (ascending_perm (readySlots q n)).length_eq ▸ readySlots_length q n
  case members => exact fun j hj => mem_readySlots ((ascending_perm (readySlots q n)).mem_iff.1 hj)
  case strict => exact fun h => ascending_pairwise_lt (readySlots_nodup n h)

end Sys2Proof.Machine
end

section
/-! ## Follow-on work beside a waiting prefetch or a waiting book -/

namespace Sys2Proof.Machine

/-- `State.resting` without its clauses on the port and on the Notice Builders, and with its clause on the books weakened
to what keeps the Settlement Unit still: no book can enter SETTLING. -/
structure State.unitsRest (s : State) : Prop where
  notQuiesced : s.isQuiesced = false
  noSequence : s.sequence = .none
  noWork : s.work = none
  noPosting : s.posting.phase = .idle
  noStartup : s.port.startup = .idle
  notAwaiting : s.activation.phase ≠ .awaitQuiet
  notChecking : s.activation.phase ≠ .checking
  noMarking : s.activation.marking = []
  noAdmission : s.admissible = none

/-- Units at rest have neither work of their own nor a book to take in. -/
theorem State.resting.unitsRest {s : State} (h : s.resting) : s.unitsRest := by
  obtain ⟨hq, hs, hw, hp, _, hu, ha, hc, hm, hb, _⟩ := h
  exact ⟨hq, hs, hw, hp, hu, ha, hc, hm, State.admissible_of_none fun b hb' => (hb b hb').1⟩

/-- At rest the port is free. -/
theorem State.resting.freePort {s : State} (h : s.resting) : s.port.inProgress = none := by
  obtain ⟨_, _, _, _, free, _⟩ := h
  exact free

/-- At rest no Notice Builder's request waits. -/
theorem State.resting.noNotice {s : State} (h : s.resting) (f : Feeder) : s.ports[f].prefetch.isWaiting = false := by
  obtain ⟨_, _, _, _, _, _, _, _, _, _, still⟩ := h
  exact still f

/-- Units at rest stay so when a port takes a value whose request does not wait. -/
theorem State.resting_setPort {s : State} (h : s.resting) (f : Feeder) {p : FeederPort}
    (hp : p.prefetch.isWaiting = false) : (s.setPort f p).resting := by
  obtain ⟨hq, hs, hw, hpost, hport, hu, ha, hc, hm, hb, hn⟩ := h
  refine ⟨hq, hs, hw, hpost, hport, hu, ha, hc, hm, hb, fun g => ?_⟩
  by_cases hg : f = g
  · subst hg; rw [State.setPort_self]; exact hp
  · rw [State.setPort_other s hg]; exact hn g

namespace State.unitsRest

variable {s : State}

/-- No port is among the units that rest. -/
theorem setPort (h : s.unitsRest) (f : Feeder) (p : FeederPort) : (s.setPort f p).unitsRest :=
  ⟨h.notQuiesced, h.noSequence, h.noWork, h.noPosting, h.noStartup, h.notAwaiting, h.notChecking, h.noMarking,
    h.noAdmission⟩

/-- The Settlement Unit, the Posting Unit, the Activation Unit and the Command Unit have no turn. -/
theorem turn_eq (h : s.unitsRest) (hd : s.commandDone = true) : s.turn = s.noticeTurn := by
  have hsettle : s.settleTurn = none := by simp only [State.settleTurn, h.noWork]
  have hpost : s.postTurn = none := by simp only [State.postTurn, h.noPosting]
  have hcheck : s.checkTurn = none := by
    simp only [State.checkTurn, bne_iff_ne, ne_eq, h.notChecking, not_false_eq_true, if_true]
  have hmark : s.markTurn = none := by
    simp only [State.markTurn, h.noMarking, ite_self]
  have hcommand : s.commandOrBookTurn = none := by
    simp only [State.commandOrBookTurn, h.noAdmission, State.commandTurn_of_done hd]
  have hcommit : s.commitTurn = none := by
    simp [State.commitTurn, State.commitMoment, h.notAwaiting]
  simp only [State.turn, h.notQuiesced, h.noSequence, hsettle, hpost, hcheck, hmark, hcommand, hcommit, Bool.false_eq_true,
    if_false]
  rfl

/-- Only a Notice Builder can ask for the port. -/
theorem want_eq (h : s.unitsRest) (hd : s.commandDone = true) :
    s.want = if s.memoryReady then s.noticeWant.map (fun w => .read (.notice w.1) w.2) else none := by
  have hunit : s.unitWant = none := by
    have hpost : s.postWant = none := by simp only [State.postWant, h.noPosting]
    have hact : s.activationWant = none := by
      simp only [State.activationWant, h.notChecking, h.noMarking, if_false, ite_self]
    simp only [State.unitWant, State.settleWant, h.noWork, hpost, hact]
    split <;> rfl
  have hstart : s.port.startupWant = none := by simp only [MemoryPort.startupWant, h.noStartup]
  simp only [State.want, h.notQuiesced, h.noSequence, hunit, hstart, State.commandWant_of_done hd, Bool.false_eq_true,
    if_false]
  rfl

/-- No follow-on work while the memory is NOT_READY and no Notice Builder waits. -/
theorem drive_of_notReady (h : s.unitsRest) (hd : s.commandDone = true) (hm : s.memoryReady = false)
    (hn : ∀ f : Feeder, s.ports[f].prefetch.isWaiting = false) : s.drive = s := by
  rw [State.drive_of_none ((h.turn_eq hd).trans (State.noticeTurn_of_none hn)), State.grant_of_none]
  rw [h.want_eq hd, hm]
  rfl

end State.unitsRest

/-- A waiting prefetch whose account the cache does not hold has no turn, beside ones that do not wait. -/
theorem State.noticeTurn_of_miss {s : State} {f : Feeder} {i : Nat} (hf : s.ports[f].prefetch = .waiting i)
    (hi : s.cache.lookup i = .miss) (alone : ∀ g : Feeder, g ≠ f → s.ports[g].prefetch.isWaiting = false) :
    s.noticeTurn = none := by
  simp only [State.noticeTurn, List.findSome?_eq_none_iff]
  intro g _
  by_cases hg : g = f
  · subst hg
    simp only [hf, hi, if_true]
  · have still := alone g hg
    cases hp : s.ports[g].prefetch with
    | none => rfl
    | arrived t part => rfl
    | waiting t => rw [hp] at still; exact absurd still (by simp [Prefetch.isWaiting])

/-- The one prefetch that waits is the one asked for. -/
theorem State.noticeWant_of_one {s : State} {f : Feeder} {i : Nat} (hf : s.ports[f].prefetch = .waiting i)
    (alone : ∀ g : Feeder, g ≠ f → s.ports[g].prefetch.isWaiting = false) : s.noticeWant = some (f, i) := by
  rcases hw : s.noticeWant with _ | w
  · simp only [State.noticeWant, List.findSome?_eq_none_iff] at hw
    have := hw f (List.mem_finRange f)
    rw [hf] at this
    cases this
  · obtain ⟨g, _, hg⟩ := List.exists_of_findSome?_eq_some hw
    rcases hp : s.ports[g].prefetch with _ | t | ⟨t, part⟩ <;> rw [hp] at hg <;> try cases hg
    by_cases same : g = f
    · subst same
      rw [hf, Prefetch.waiting.injEq] at hp
      rw [hp]
    · have still := alone g same
      rw [hp] at still
      cases still

/-- At rest but for one prefetch, which waits for an account the cache does not hold: its fill is granted (R142, R158). -/
theorem State.drive_of_prefetch {s : State} {f : Feeder} {i line : Nat} (h : s.unitsRest) (hd : s.commandDone = true)
    (hm : s.memoryReady = true) (hport : s.port.inProgress = none) (hf : s.ports[f].prefetch = .waiting i)
    (hi : s.cache.lookup i = .miss) (alone : ∀ g : Feeder, g ≠ f → s.ports[g].prefetch.isWaiting = false)
    (hv : s.cache.victim none = some line) :
    s.drive =
      ({ s with cache := s.cache.drop line } : State).onPort
        (.fill (.notice f) i line (dirtyRecord (s.cache.line line))) := by
  have want : s.want = some (.read (.notice f) i) := by
    rw [h.want_eq hd, hm, State.noticeWant_of_one hf alone]
    rfl
  rw [State.drive_of_none ((h.turn_eq hd).trans (State.noticeTurn_of_miss hf hi alone)),
    State.grant_of_read hport want, State.beginFill_of_victim hv]

end Sys2Proof.Machine
end

section
/-! ## The windows of a round: HEAD, ORDER and NOTICE (O38, O39, O41) -/

namespace Sys2Proof.Machine

/-! ### From one window to the next -/

/-- A round that nothing cuts short goes on to the next window (R1). -/
theorem State.setPort_nextWindow {s : State} (f : Feeder) {p : FeederPort} (w : Window) (hq : s.isQuiesced = false)
    (hr : p.restartDue = none) : (s.setPort f p).nextWindow f w = s.setPort f (p.atWindow w) := by
  have hq' : (s.setPort f p).isQuiesced = false := hq
  simp only [State.nextWindow, hq', Bool.false_eq_true, if_false, State.setPort_self, hr, State.modifyPort_setPort]

/-- A slot's window, or the NOTICE, is no QUIET window. -/
theorem Round.windowAt_ne_quiet (r : Round) (j : Nat) : r.windowAt j ≠ .quiet := by
  unfold Round.windowAt
  split
  · simp
  · split <;> simp

/-- A port put at a window other than QUIET keeps its enrolment register. -/
theorem FeederPort.atWindow_of_ne (p : FeederPort) {w : Window} (h : w ≠ .quiet) :
    p.atWindow w = { p with window := w, sending := [], driving := false } := by
  simp only [FeederPort.atWindow, if_neg h]

/-- A port put at its QUIET window: a LISTENING register counts it (R18). -/
theorem FeederPort.atWindow_quiet (p : FeederPort) :
    p.atWindow .quiet =
      { p with window := .quiet, sending := [], driving := false,
               enrolment := { p.enrolment with counting := p.enrolment.condition == .listening } } := rfl

theorem State.setRound_eq (s : State) (f : Feeder) (r : Round) :
    s.setRound f r = s.setPort f { s.ports[f] with round := some r } := rfl

/-! ### The HEAD closes -/

/-- A HEAD that fails verification abandons the round to its QUIET window (R5). -/
theorem State.closeHead_of_failed {s : State} {f : Feeder} {r : Round} {readback : List Sample}
    (hw : s.ports[f].window = .head) (hround : s.ports[f].round = some r)
    (hv : verified s.ports[f].sending readback = false) :
    s.closeHead f readback = (s.setRound f { r with headOk := false, notice := .skipped }).nextWindow f .quiet := by
  simp only [State.closeHead, hw, hround, hv, Bool.false_eq_true, if_false]

/-- The port once its HEAD has verified. -/
def FeederPort.headVerified (p : FeederPort) (r : Round) : FeederPort := { p with round := some { r with headOk := true } }

/-- A HEAD that verifies starts the prefetch and goes on to the first slot (R5, R158). -/
theorem State.closeHead_of_verified {s : State} {f : Feeder} {r : Round} {readback : List Sample}
    (hw : s.ports[f].window = .head) (hround : s.ports[f].round = some r)
    (hv : verified s.ports[f].sending readback = true) :
    s.closeHead f readback =
      (((s.setPort f (s.ports[f].headVerified r)).startPrefetch f r.slotCount).nextWindow f (r.windowAt 0)).drive := by
  simp only [State.closeHead, hw, hround, hv, if_true]
  rfl

/-- No prefetch: no meter slot, the memory NOT_READY, or no participant to prefetch for (R158). -/
theorem State.setPort_startPrefetch_none {s : State} {f : Feeder} {p : FeederPort} {n : Nat}
    (h : n = 0 ∨ s.port.state = .notReady ∨ s.active.cursorParticipant f.val p.cursor = none) :
    (s.setPort f p).startPrefetch f n = s.setPort f { p with prefetch := .none } := by
  simp only [State.startPrefetch, State.modifyPort_setPort, State.setPort_self]
  split
  · rfl
  · rename_i going
    simp only [Bool.or_eq_true, decide_eq_true_eq, Bool.not_eq_true', not_or] at going
    obtain ⟨⟨hn, hm⟩, -⟩ := going
    rcases h with h | h | h
    · exact absurd h hn
    · exact absurd (show ((s.setPort f _).port.state == .ready) = false by simp [h]) hm
    · simp only [State.setPort_active, h]

/-- The prefetch asks the cache for the cursor's participant (R157, R158). -/
theorem State.setPort_startPrefetch_some {s : State} {f : Feeder} {p : FeederPort} {n i : Nat} (hn : n ≠ 0)
    (hm : s.port.state = .ready) (hq : s.isQuiesced = false) (hi : s.active.cursorParticipant f.val p.cursor = some i) :
    (s.setPort f p).startPrefetch f n = (s.setPort f { p with prefetch := .none }).servePrefetch f i := by
  have hm' (q : FeederPort) : (s.setPort f q).memoryReady = true := by simp [State.memoryReady, hm]
  have hq' (q : FeederPort) : (s.setPort f q).isQuiesced = false := hq
  simp only [State.startPrefetch, State.modifyPort_setPort, State.setPort_self, State.setPort_active, hi, hm', hq', hn,
    decide_false, Bool.not_true, Bool.or_self, Bool.false_eq_true, if_false]

/-- A prefetch that the cache holds has arrived (R158). -/
theorem State.setPort_servePrefetch_good {s : State} {f : Feeder} {p : FeederPort} {i line : Nat} {r : AccountRecord}
    (h : s.cache.lookup i = .good line r) :
    (s.setPort f p).servePrefetch f i =
      ({ s with cache := s.cache.touch line } : State).setPort f
        { p with prefetch := .arrived i (some (householdPart i r)) } := by
  simp only [State.servePrefetch, State.setPort_cache, h]
  exact State.modifyPort_setPort { s with cache := s.cache.touch line } f p _

/-- A prefetch that the cache does not hold waits (R158). -/
theorem State.setPort_servePrefetch_miss {s : State} {f : Feeder} {p : FeederPort} {i : Nat}
    (h : s.cache.lookup i = .miss) :
    (s.setPort f p).servePrefetch f i = s.setPort f { p with prefetch := .waiting i } := by
  simp only [State.servePrefetch, State.setPort_cache, h, State.modifyPort_setPort]

/-- Settles O38: the prefetch's three answers, and the follow-on work each leaves. -/
theorem headWindowCloseJudgesTheReadback : Obligations.HeadWindowCloseJudgesTheReadback := by
  refine ⟨fun message readback => ?verified, fun s f r readback hw hround hq hr =>
    ⟨fun hv => ?failed, fun hv rest done => ?_⟩⟩
  case verified =>
    simp only [verified_iff, sampleBit_eq, charBit]
  case failed =>
    refine congrArg _ ((State.closeHead_of_failed hw hround hv).trans ?_)
    exact State.setPort_nextWindow f .quiet hq hr
  have start := State.closeHead_of_verified (readback := readback) hw hround hv
  refine ⟨fun none => ?_, fun i line x hn hm hi hit => ?_, fun i line hn hm hi miss victim => ?_⟩
  · rw [State.setPort_startPrefetch_none (p := s.ports[f].headVerified r) none,
      State.setPort_nextWindow f (p := { s.ports[f].headVerified r with prefetch := .none }) _ hq hr,
      FeederPort.atWindow_of_ne _ (r.windowAt_ne_quiet 0), State.drive_of_resting (State.resting_setPort rest f rfl) done]
      at start
    exact congrArg _ start
  · have rest' : ({ s with cache := s.cache.touch line } : State).resting := rest
    rw [State.setPort_startPrefetch_some (p := s.ports[f].headVerified r) hn hm hq hi, State.setPort_servePrefetch_good hit,
      State.setPort_nextWindow (s := { s with cache := s.cache.touch line }) f
        (p := { s.ports[f].headVerified r with prefetch := .arrived i (some (householdPart i x)) }) _ hq hr,
      FeederPort.atWindow_of_ne _ (r.windowAt_ne_quiet 0), State.drive_of_resting (State.resting_setPort rest' f rfl) done]
      at start
    exact congrArg _ start
  · have ready : s.memoryReady = true := by rw [State.memoryReady, hm]; rfl
    rw [State.setPort_startPrefetch_some (p := s.ports[f].headVerified r) hn hm hq hi, State.setPort_servePrefetch_miss miss,
      State.setPort_nextWindow f (p := { s.ports[f].headVerified r with prefetch := .waiting i }) _ hq hr,
      FeederPort.atWindow_of_ne _ (r.windowAt_ne_quiet 0),
      State.drive_of_prefetch (f := f) (i := i) (rest.unitsRest.setPort f _) done ready rest.freePort
        (by rw [State.setPort_self]) miss
        (fun g hg => by rw [State.setPort_other s (Ne.symm hg)]; exact rest.noNotice g)
        victim] at start
    exact congrArg _ start

end Sys2Proof.Machine
end

section
/-! ## The windows of a round: ORDER and NOTICE (O39, O41) -/

namespace Sys2Proof.Machine

/-! ### The Directed Queue at an ORDER's close (R153) -/

/-- No entry of the slot was turned by the HEAD: the readback applies to none. -/
theorem applyReadback_of_none {q : List OrderEntry} {j : Nat} (ok : Bool)
    (h : q.find? (fun e => e.slot == j && e.turned) = none) : applyReadback q j ok = (q, none) := by
  simp only [applyReadback, h]

/-- An entry whose send is OK, or FAILED with a send left, stays with the send counted. -/
theorem applyReadback_of_kept {q : List OrderEntry} {j : Nat} {ok : Bool} {e : OrderEntry}
    (h : q.find? (fun e => e.slot == j && e.turned) = some e) (hs : ok = true ∨ e.sends < 2) :
    applyReadback q j ok =
      (q.map fun x => if x.slot = j then { e with sends := e.sends + 1, sent := ok, waited := 0, turned := false } else x,
       none) := by
  have kept : afterReadback e ok = some { e with sends := e.sends + 1, sent := ok, waited := 0, turned := false } := by
    cases ok with
    | true => rfl
    | false =>
      have left : e.sends + 1 < Config.sends := by
        have := hs.resolve_left (by decide)
        simp only [Config.sends]
        omega
      simp only [afterReadback, left, Bool.false_eq_true, if_false, if_true]
  simp only [applyReadback, h, kept]

/-- An entry whose third send FAILED is removed. -/
theorem applyReadback_of_givenUp {q : List OrderEntry} {j : Nat} {e : OrderEntry}
    (h : q.find? (fun e => e.slot == j && e.turned) = some e) (hs : 2 ≤ e.sends) :
    applyReadback q j false = (q.filter fun x => x.slot != j, some { e with sends := e.sends + 1 }) := by
  have gone : afterReadback e false = none := by
    have : ¬e.sends + 1 < Config.sends := by simp only [Config.sends]; omega
    simp only [afterReadback, this, Bool.false_eq_true, if_false]
  simp only [applyReadback, h, gone]

/-! ### ORDER windows -/

/-- The port after an ORDER window, before the next one: the queue as the readback leaves it, the result recorded. -/
def FeederPort.orderClosed (p : FeederPort) (r : Round) (j : Nat) (ok : Bool) (queue : List OrderEntry) : FeederPort :=
  { p with queue := queue,
           round := some { r with outcomes := r.outcomes ++ [.turned], orders := r.orders ++ [(j, ok)] } }

section
variable {s : State} {f : Feeder} {j : Nat} {r : Round}

/-- An ORDER window opens with its slot's order copy (R6). -/
theorem State.openOrder_of_due {c : OrderCopy} (hw : s.ports[f].window = .orderDue j) (hround : s.ports[f].round = some r)
    (hq : s.isQuiesced = false) (hc : r.copies.find? (fun c => c.slot == j) = some c) :
    s.openOrder f = s.setPort f (s.ports[f].sendIn (.order j) (orderMessage c)) := by
  simp only [State.openOrder, hw, hround, hq, hc, Bool.false_eq_true, if_false]
  rfl

/-- An ORDER window closes: the readback is applied and recorded, and the next window follows (R6, R153). -/
theorem State.closeOrder_of_order {readback : List Sample} (hw : s.ports[f].window = .order j)
    (hround : s.ports[f].round = some r) :
    s.closeOrder f readback =
      ((s.orderResult f j (verified s.ports[f].sending readback)).setRound f
        { r with outcomes := r.outcomes ++ [.turned],
                 orders := r.orders ++ [(j, verified s.ports[f].sending readback)] }).nextWindow f
        (r.windowAt (j + 1)) := by
  simp only [State.closeOrder, hw, hround]
  rfl

/-- An ORDER window whose readback gives no entry up. -/
theorem State.closeOrder_of_kept {readback : List Sample} {q : List OrderEntry} (hw : s.ports[f].window = .order j)
    (hround : s.ports[f].round = some r) (hq : s.isQuiesced = false) (hr : s.ports[f].restartDue = none)
    (h : applyReadback s.ports[f].queue j (verified s.ports[f].sending readback) = (q, none)) :
    s.closeOrder f readback =
      s.setPort f ((s.ports[f].orderClosed r j (verified s.ports[f].sending readback) q).atWindow (r.windowAt (j + 1))) := by
  rw [State.closeOrder_of_order hw hround]
  simp only [State.orderResult, h, State.modifyPort_eq, State.setRound_eq, State.setPort_self, State.setPort_setPort]
  exact State.setPort_nextWindow f (p := s.ports[f].orderClosed r j _ q) _ hq hr

/-- An ORDER window whose readback gives an entry up. -/
theorem State.closeOrder_of_givenUp {readback : List Sample} {q : List OrderEntry} {e : OrderEntry}
    (hw : s.ports[f].window = .order j) (hround : s.ports[f].round = some r) (hq : s.isQuiesced = false)
    (hr : s.ports[f].restartDue = none)
    (h : applyReadback s.ports[f].queue j (verified s.ports[f].sending readback) = (q, some e)) :
    s.closeOrder f readback =
      (s.raise (unconfirmed f e)).setPort f
        ((s.ports[f].orderClosed r j (verified s.ports[f].sending readback) q).atWindow (r.windowAt (j + 1))) := by
  rw [State.closeOrder_of_order hw hround]
  simp only [State.orderResult, h, State.modifyPort_eq]
  have raised (p : FeederPort) : (s.setPort f p).raise (unconfirmed f e) = (s.raise (unconfirmed f e)).setPort f p := rfl
  simp only [raised, State.setRound_eq, State.setPort_self, State.setPort_setPort]
  exact State.setPort_nextWindow f (p := s.ports[f].orderClosed r j _ q) _ hq hr

end

/-- Settles O39: the three things a readback can do to the queue. -/
theorem orderWindowsSendTheCopyAndCountTheSend : Obligations.OrderWindowsSendTheCopyAndCountTheSend := by
  refine fun s f j r hround hq =>
    ⟨fun c hw hc => ?opens, fun readback hw hr => ⟨fun none => ?kept, fun e he => ⟨fun hs => ?counted, fun failed hs => ?lost⟩⟩⟩
  case opens =>
    refine (congrArg Host.Outcome.next (State.openOrder_of_due hw hround hq hc)).trans ?_
    rw [orderMessage]
    cases c.kind <;> rfl
  case kept =>
    have close := State.closeOrder_of_kept hw hround hq hr (applyReadback_of_none (verified s.ports[f].sending readback) none)
    rw [FeederPort.atWindow_of_ne _ (r.windowAt_ne_quiet (j + 1))] at close
    exact congrArg _ close
  case counted =>
    have close := State.closeOrder_of_kept hw hround hq hr (applyReadback_of_kept he hs)
    rw [FeederPort.atWindow_of_ne _ (r.windowAt_ne_quiet (j + 1))] at close
    exact congrArg _ close
  case lost =>
    have gone := applyReadback_of_givenUp he hs
    have slot : e.slot = j := by
      have := List.find?_some he
      simp only [Bool.and_eq_true, beq_iff_eq] at this
      exact this.1
    rw [← failed] at gone
    have close := State.closeOrder_of_givenUp hw hround hq hr gone
    rw [FeederPort.atWindow_of_ne _ (r.windowAt_ne_quiet (j + 1)), unconfirmed, slot] at close
    exact congrArg _ close

/-! ### NOTICE windows -/

section
variable {s : State} {f : Feeder} {r : Round}

/-- A NOTICE window opens: the band of the open interval, its prices and the mark (R7, R159). -/
theorem State.openNotice_of_due {start band : Nat} {b : Band} (hw : s.ports[f].window = .noticeDue)
    (hround : s.ports[f].round = some r) (hq : s.isQuiesced = false) (hstart : s.clock.openStart = some start)
    (hband : s.active.bandFor s.clock.weekday start = some (band, b)) :
    s.openNotice f =
      s.setPort f
        { s.ports[f].sendIn .notice (noticeMessage band (localPrice b.gridPrice b.feedPrice b.share) b.gridPrice b.feedPrice
            s.clock.mark (s.noticeParts f).2) with
          prefetch := withdrawn s.ports[f].prefetch, round := some { r with sentNotice := (s.noticeParts f).1 } } := by
  simp only [State.openNotice, hw, hround, hq, hstart, Option.getD_some, TableSet.captureFor, hband, Bool.false_eq_true,
    if_false]
  rfl

/-- A prefetch that has arrived is not withdrawn (R159). -/
theorem withdrawn_of_arrived {p : Prefetch} {i : Nat} {part : Option HouseholdPart} (h : p = .arrived i part) :
    withdrawn p = p := by
  rw [h]; rfl

/-- A NOTICE window closes: the cursor advances or stays, the prefetch is NONE, and the QUIET window follows (R160). -/
theorem State.closeNotice_of_notice {readback : List Sample} (hw : s.ports[f].window = .notice)
    (hround : s.ports[f].round = some r) (hq : s.isQuiesced = false) (hr : s.ports[f].restartDue = none) :
    s.closeNotice f readback =
      s.setPort f
        (FeederPort.atWindow
          { s.ports[f] with
            cursor := if advances r.sentNotice (verified s.ports[f].sending readback) then
                        s.active.nextCursor f.val s.ports[f].cursor else s.ports[f].cursor
            prefetch := .none
            round := some { r with notice := if verified s.ports[f].sending readback then .ok else .failed } } .quiet) := by
  simp only [State.closeNotice, hw, hround, State.modifyPort_eq]
  exact State.setPort_nextWindow f .quiet hq hr

/-- The cursor advanced past its participant (R157). -/
theorem TableSet.nextCursor_of_participant {t : TableSet} {feeder cursor i : Nat}
    (h : t.cursorParticipant feeder cursor = some i) :
    t.nextCursor feeder cursor = if (t.entry i).slot = 47 then 0 else (t.entry i).slot + 1 := by
  simp only [TableSet.nextCursor, h, Nat.reduceEqDiff]

end

/-- Settles O41: the NOTICE's parts by the prefetch, and the cursor by what was sent and read back. -/
theorem noticeWindowsSendPricesAndTheHouseholdPart : Obligations.NoticeWindowsSendPricesAndTheHouseholdPart := by
  refine fun s f r hround hq => ⟨fun start band b hw hstart hband => ?opens, fun readback hw hr => ?closes⟩
  case opens =>
    have opened := State.openNotice_of_due hw hround hq hstart hband
    refine ⟨fun i h hp hc => ?_, fun i h hp hc => ?_, fun i hp => ?_, fun hp => ?_⟩
    · have parts : s.noticeParts f = (.household, some h) := by simp only [State.noticeParts, hp, hc, if_true]
      rw [parts, withdrawn_of_arrived hp] at opened
      exact congrArg _ opened
    · have parts : s.noticeParts f = (.plain, none) := by simp only [State.noticeParts, hp, hc, if_false]
      rw [parts, withdrawn_of_arrived hp] at opened
      exact congrArg _ opened
    · have parts : s.noticeParts f = (.damaged, none) := by simp only [State.noticeParts, hp]
      rw [parts, withdrawn_of_arrived hp] at opened
      exact congrArg _ opened
    · have parts : s.noticeParts f = (.plain, none) ∧ withdrawn s.ports[f].prefetch = .none := by
        rcases hx : s.ports[f].prefetch with _ | t | ⟨t, part⟩
        · exact ⟨by simp only [State.noticeParts, hx], rfl⟩
        · exact ⟨by simp only [State.noticeParts, hx], rfl⟩
        · rw [hx] at hp
          exact absurd hp (by simp [Prefetch.isWaiting])
      rw [parts.1, parts.2] at opened
      exact congrArg _ opened
  case closes =>
    have closed := State.closeNotice_of_notice (readback := readback) hw hround hq hr
    rw [FeederPort.atWindow_quiet] at closed
    refine ⟨fun i hi past => ?_, fun stays => ?_⟩
    · have adv : advances r.sentNotice (verified s.ports[f].sending readback) = true := by
        rcases past with ⟨sent, ok⟩ | sent
        · rw [sent, ok]; rfl
        · rw [sent]; rfl
      rw [adv, if_pos rfl, TableSet.nextCursor_of_participant hi] at closed
      exact congrArg _ closed
    · have adv : advances r.sentNotice (verified s.ports[f].sending readback) = false := by
        rcases stays with sent | ⟨sent, ok⟩
        · rw [sent]; rfl
        · rw [sent, ok]; rfl
      rw [adv, if_neg Bool.false_ne_true] at closed
      exact congrArg _ closed

end Sys2Proof.Machine
end

section
/-! ## The QUIET window closes and the round completes (O42) -/

namespace Sys2Proof.Machine

/-! ### The Directed Queue counts a round (R155) -/

/-- Whether an entry counts the completed round: it was SENT at a HEAD that verified. -/
def OrderEntry.counts (headOk : Bool) (e : OrderEntry) : Bool := headOk && e.sent && e.sentAtHead

/-- Whether an entry is given up: 4 rounds waited and 3 sends. -/
def OrderEntry.isLost (headOk : Bool) (e : OrderEntry) : Bool :=
  e.counts headOk && decide (3 ≤ e.waited ∧ 3 ≤ e.sends)

/-- An entry after a completed round that does not give it up. -/
def OrderEntry.counted (headOk : Bool) (e : OrderEntry) : OrderEntry :=
  if e.counts headOk then
    (if e.waited < 3 then { e with waited := e.waited + 1 } else { e with sent := false, waited := 0, sentAtHead := false })
  else e

/-- The model's count of a round, in these terms. -/
theorem afterRound_eq (e : OrderEntry) : afterRound e = if e.isLost true then none else some (e.counted true) := by
  have waits : e.waited + 1 < Config.roundsWaited ↔ e.waited < 3 := Nat.succ_lt_succ_iff (b := 3)
  have resends : e.sends < Config.sends ↔ e.sends < 3 := Iff.rfl
  simp only [afterRound, OrderEntry.isLost, OrderEntry.counted, OrderEntry.counts, Bool.true_and, waits, resends]
  cases e.sent && e.sentAtHead with
  | false => simp
  | true =>
    by_cases hw : e.waited < 3
    · simp [hw]
    · by_cases hs : e.sends < 3
      · simp [hw, hs]
      · simp [hw, hs, Nat.le_of_not_lt hw, Nat.le_of_not_lt hs]

/-- A queue after a completed round. -/
def queueAfter (headOk : Bool) (q : List OrderEntry) : List OrderEntry :=
  (q.filter fun e => !e.isLost headOk).map (OrderEntry.counted headOk)

/-- The entries a completed round gives up. -/
def lostAfter (headOk : Bool) (q : List OrderEntry) : List OrderEntry := q.filter (OrderEntry.isLost headOk)

theorem queueAfter_true (q : List OrderEntry) : queueAfter true q = q.filterMap afterRound := by
  induction q with
  | nil => rfl
  | cons e rest ih =>
    rw [List.filterMap_cons, afterRound_eq, ← ih]
    cases h : e.isLost true <;> simp [queueAfter, h]

theorem lostAfter_true (q : List OrderEntry) : lostAfter true q = givenUp q := by
  refine List.filter_congr fun e _ => ?_
  rw [afterRound_eq]
  cases e.isLost true <;> rfl

theorem queueAfter_false (q : List OrderEntry) : queueAfter false q = q := by
  have same : OrderEntry.counted false = id := rfl
  simp [queueAfter, OrderEntry.isLost, OrderEntry.counts, same]

theorem lostAfter_false (q : List OrderEntry) : lostAfter false q = [] := by
  simp [lostAfter, OrderEntry.isLost, OrderEntry.counts]

/-- The Attention List after ORDER_UNCONFIRMED for each of some entries, in their order (R153). -/
def AttentionList.unconfirmedAll (l : AttentionList) (f : Feeder) (lost : List OrderEntry) : AttentionList :=
  (lost.map (unconfirmed f)).foldl AttentionList.raise l

theorem State.raise_unconfirmed_all (s : State) (f : Feeder) (lost : List OrderEntry) :
    lost.foldl (fun s e => s.raise (unconfirmed f e)) s =
      { s with attention := s.attention.unconfirmedAll f lost } := by
  induction lost generalizing s with
  | nil => rfl
  | cons e rest ih => exact ih (s.raise (unconfirmed f e))

/-- What the queue's count of a completed round leaves (R155). -/
theorem State.setPort_countRound (s : State) (f : Feeder) (p : FeederPort) (headOk : Bool) :
    (s.setPort f p).countRound f headOk =
      ({ s with attention := s.attention.unconfirmedAll f (lostAfter headOk p.queue) } : State).setPort f
        { p with queue := queueAfter headOk p.queue } := by
  cases headOk with
  | false => rw [queueAfter_false, lostAfter_false]; rfl
  | true =>
    simp only [State.countRound, if_true, State.setPort_self, State.modifyPort_setPort, State.raise_unconfirmed_all,
      queueAfter_true, lostAfter_true]
    rfl

/-! ### Enrolments (R18, R19) -/

/-- A QUIET slot that no register counts. -/
theorem State.hearEnrolment_of_uncounted {s : State} {f : Feeder} (q : QuietOutcome)
    (h : s.ports[f].enrolment.condition ≠ .listening ∨ s.ports[f].enrolment.counting = false) :
    s.hearEnrolment f q = s := by
  refine if_neg fun counts => ?_
  simp only [Bool.and_eq_true, decide_eq_true_eq] at counts
  rcases h with h | h
  · exact h counts.1
  · rw [h] at counts; cases counts.2

/-- Whether an announced serial is the one listened for (R18, step 1). -/
theorem Enrolment.expects_iff (r : Enrolment) (serial : Nat) :
    r.expects serial = true ↔ (if r.expected = 0 then serial ≠ 0 else serial = r.expected) := by
  unfold Enrolment.expects
  split
  · exact bne_iff_ne
  · exact beq_iff_eq

/-- A counted slot with the expected serial (R18, step 1). -/
theorem Enrolment.hear_found {r : Enrolment} {serial : Nat} (h : r.expects serial = true) :
    r.hear (.announce serial) = ({ r with counted := r.counted + 1, counting := false }, some (.found serial)) := by
  simp only [Enrolment.hear, h, if_true]

/-- A counted slot with another serial (R18, step 2). -/
theorem Enrolment.hear_other {r : Enrolment} {serial : Nat} (h : r.expects serial ≠ true) :
    r.hear (.announce serial) =
      ({ r with counted := r.counted + 1, counting := false, others := min 255 (r.others + 1),
                remaining := r.remaining - 1 },
       if r.remaining ≤ 1 then some .heardOther else none) := by
  simp only [Enrolment.hear, h, Bool.false_eq_true, if_false, Nat.sub_eq_zero_iff_le]

/-- A counted slot without a serial (R18, step 3). -/
theorem Enrolment.hear_silent {r : Enrolment} {q : QuietOutcome} (h : ∀ serial, q ≠ .announce serial) :
    r.hear q =
      ({ r with counted := r.counted + 1, counting := false, remaining := r.remaining - 1 },
       if r.remaining ≤ 1 then some (if 0 < r.others then .heardOther else .notHeard) else none) := by
  cases q with
  | announce serial => exact absurd rfl (h serial)
  | nothing => simp only [Enrolment.hear, Nat.sub_eq_zero_iff_le]
  | garbled => simp only [Enrolment.hear, Nat.sub_eq_zero_iff_le]

/-- A counted QUIET slot after which the enrolment goes on. -/
theorem State.hearEnrolment_of_goingOn {s : State} {f : Feeder} {q : QuietOutcome} {e : Enrolment}
    (listening : s.ports[f].enrolment.condition = .listening) (counting : s.ports[f].enrolment.counting = true)
    (h : s.ports[f].enrolment.hear q = (e, none)) :
    s.hearEnrolment f q = s.setPort f { s.ports[f] with enrolment := e } := by
  simp only [State.hearEnrolment, listening, counting, decide_true, Bool.and_self, if_true, h]
  rfl

/-- A register after its enrolment has ended: FREE at once when a full list drops the item (R19). -/
def Enrolment.afterEnd (r : Enrolment) (l : AttentionList) (f : Feeder) (ending : EnrolEnding) : Enrolment :=
  if l.drops (.enrolDone f.val ending r.others r.counted) then .free
  else { r with condition := .ended ending, counting := false }

theorem Enrolment.afterEnd_of_uncounted {r : Enrolment} (l : AttentionList) (f : Feeder) (ending : EnrolEnding)
    (h : r.counting = false) :
    r.afterEnd l f ending =
      if l.drops (.enrolDone f.val ending r.others r.counted) then .free else { r with condition := .ended ending } := by
  rw [Enrolment.afterEnd, ← h]

/-- An Attention List replaced between two replacements of a port. -/
theorem State.setPort_attention_setPort (s : State) (f : Feeder) (p q : FeederPort) (l : AttentionList) :
    ({ s.setPort f p with attention := l } : State).setPort f q = ({ s with attention := l } : State).setPort f q :=
  State.setPort_setPort { s with attention := l } f p q

/-- An enrolment's end, on a port just replaced (R19). -/
theorem State.setPort_endEnrolment (s : State) (f : Feeder) (p : FeederPort) (ending : EnrolEnding) :
    (s.setPort f p).endEnrolment f ending =
      ({ s with attention := s.attention.raise (.enrolDone f.val ending p.enrolment.others p.enrolment.counted) } :
        State).setPort f { p with enrolment := p.enrolment.afterEnd s.attention f ending } := by
  rw [State.endEnrolment_eq, State.setPort_attention_setPort, State.setPort_self]
  rfl

/-- A counted QUIET slot that ends the enrolment. -/
theorem State.hearEnrolment_of_ending {s : State} {f : Feeder} {q : QuietOutcome} {e : Enrolment} {ending : EnrolEnding}
    (listening : s.ports[f].enrolment.condition = .listening) (counting : s.ports[f].enrolment.counting = true)
    (h : s.ports[f].enrolment.hear q = (e, some ending)) :
    s.hearEnrolment f q =
      ({ s with attention := s.attention.raise (.enrolDone f.val ending e.others e.counted) } : State).setPort f
        { s.ports[f] with enrolment := e.afterEnd s.attention f ending } := by
  simp only [State.hearEnrolment, listening, counting, decide_true, Bool.and_self, if_true, h, State.modifyPort_eq,
    State.setPort_endEnrolment]

/-! ### The end of a round (R2, R11, R13, R14) -/

/-- The port after a completed round. -/
def FeederPort.completed (p : FeederPort) (r : Round) (q : QuietOutcome) (state : FeederState) (window : Window)
    (e : Enrolment) : FeederPort :=
  { p with state := state, window := window, round := none, sending := [], driving := false,
           queue := queueAfter r.headOk p.queue, number := p.number + 1, enrolment := e, last := some (r.record p.number q) }

section
variable {s : State} {f : Feeder} {r : Round} {heard : List LineChar} {attention : AttentionList} {e : Enrolment}

/-- The QUIET window of a round that nothing cuts short closes: what the enrolment leaves, then the record, the queue and
what follows (R11). -/
theorem State.closeQuiet_of_quiet (hw : s.ports[f].window = .quiet) (hround : s.ports[f].round = some r)
    (hq : s.isQuiesced = false) (hr : s.ports[f].restartDue = none)
    (hear : s.hearEnrolment f (quietOutcome heard) =
      ({ s with attention := attention } : State).setPort f { s.ports[f] with enrolment := e }) :
    s.closeQuiet f heard =
      (({ s with attention := attention.unconfirmedAll f (lostAfter r.headOk s.ports[f].queue) } : State).setPort f
        { s.ports[f] with enrolment := e, last := some (r.record s.ports[f].number (quietOutcome heard)),
                          number := s.ports[f].number + 1,
                          queue := queueAfter r.headOk s.ports[f].queue }).afterQuiet f := by
  simp only [State.closeQuiet, hw, hround, hq, hr, Option.isSome_none, Bool.or_self, Bool.false_eq_true, if_false,
    State.completeRound, hear, State.modifyPort_setPort, State.setPort_countRound]

/-- An enabled feeder without a pending hold goes on (R1). -/
theorem State.setPort_afterQuiet_goesOn {p : FeederPort} (enabled : (s.active.feeder f.val).enabled = true)
    (going : p.state ≠ .holdPending) :
    (s.setPort f p).afterQuiet f = s.setPort f p.newRound := by
  have enabled' : (s.setPort f p).enabled f = true := enabled
  simp only [State.afterQuiet, enabled', Bool.not_true, Bool.false_eq_true, if_false, State.setPort_self, going,
    State.modifyPort_setPort]

/-- An enabled feeder with a pending hold is HELD (R14). -/
theorem State.setPort_afterQuiet_held {p : FeederPort} (enabled : (s.active.feeder f.val).enabled = true)
    (holding : p.state = .holdPending) :
    (s.setPort f p).afterQuiet f = s.setPort f (p.stop .held) := by
  have enabled' : (s.setPort f p).enabled f = true := enabled
  simp only [State.afterQuiet, enabled', Bool.not_true, Bool.false_eq_true, if_false, State.setPort_self, holding,
    if_true, State.modifyPort_setPort]

/-- A disabled feeder goes OFF (R13); its register does not listen. -/
theorem State.setPort_afterQuiet_off {p : FeederPort} (disabled : (s.active.feeder f.val).enabled = false)
    (still : p.enrolment.condition ≠ .listening) :
    (s.setPort f p).afterQuiet f = s.setPort f (p.stop .off) := by
  have disabled' : (s.setPort f p).enabled f = false := disabled
  simp only [State.afterQuiet, disabled', Bool.not_false, if_true, State.feederOff_eq, State.setPort_self, still,
    if_false, State.setPort_setPort]

/-- A disabled feeder goes OFF and its LISTENING register ends NOT_HEARD (R13, R19). -/
theorem State.setPort_afterQuiet_notHeard {p : FeederPort} (disabled : (s.active.feeder f.val).enabled = false)
    (listening : p.enrolment.condition = .listening) :
    (s.setPort f p).afterQuiet f =
      ({ s with attention := s.attention.raise (.enrolDone f.val .notHeard p.enrolment.others p.enrolment.counted) } :
        State).setPort f { p.stop .off with enrolment := p.enrolment.afterEnd s.attention f .notHeard } := by
  have disabled' : (s.setPort f p).enabled f = false := disabled
  have listening' : (p.stop .off).enrolment.condition = .listening := listening
  simp only [State.afterQuiet, disabled', Bool.not_false, if_true, State.feederOff, State.modifyPort_setPort,
    State.setPort_self, listening', State.setPort_endEnrolment]
  rfl

end

section
variable {s : State} {f : Feeder} {r : Round} {heard : List LineChar}

/-- The round of a feeder that goes on completes (R1, R11). -/
theorem State.closeQuiet_goesOn {attention : AttentionList} {e : Enrolment} (hw : s.ports[f].window = .quiet)
    (hround : s.ports[f].round = some r) (hq : s.isQuiesced = false) (hr : s.ports[f].restartDue = none)
    (enabled : (s.active.feeder f.val).enabled = true) (going : s.ports[f].state ≠ .holdPending)
    (hear : s.hearEnrolment f (quietOutcome heard) =
      ({ s with attention := attention } : State).setPort f { s.ports[f] with enrolment := e }) :
    s.closeQuiet f heard =
      ({ s with attention := attention.unconfirmedAll f (lostAfter r.headOk s.ports[f].queue) } : State).setPort f
        (s.ports[f].completed r (quietOutcome heard) .running .headDue e) :=
  (State.closeQuiet_of_quiet hw hround hq hr hear).trans (State.setPort_afterQuiet_goesOn enabled going)

/-- The round of a feeder with a pending hold completes (R14). -/
theorem State.closeQuiet_held {attention : AttentionList} {e : Enrolment} (hw : s.ports[f].window = .quiet)
    (hround : s.ports[f].round = some r) (hq : s.isQuiesced = false) (hr : s.ports[f].restartDue = none)
    (enabled : (s.active.feeder f.val).enabled = true) (holding : s.ports[f].state = .holdPending)
    (hear : s.hearEnrolment f (quietOutcome heard) =
      ({ s with attention := attention } : State).setPort f { s.ports[f] with enrolment := e }) :
    s.closeQuiet f heard =
      ({ s with attention := attention.unconfirmedAll f (lostAfter r.headOk s.ports[f].queue) } : State).setPort f
        (s.ports[f].completed r (quietOutcome heard) .held .shut e) :=
  (State.closeQuiet_of_quiet hw hround hq hr hear).trans (State.setPort_afterQuiet_held enabled holding)

/-- The round of a disabled feeder completes, and no enrolment listens (R13). -/
theorem State.closeQuiet_off {attention : AttentionList} {e : Enrolment} (hw : s.ports[f].window = .quiet)
    (hround : s.ports[f].round = some r) (hq : s.isQuiesced = false) (hr : s.ports[f].restartDue = none)
    (disabled : (s.active.feeder f.val).enabled = false) (still : e.condition ≠ .listening)
    (hear : s.hearEnrolment f (quietOutcome heard) =
      ({ s with attention := attention } : State).setPort f { s.ports[f] with enrolment := e }) :
    s.closeQuiet f heard =
      ({ s with attention := attention.unconfirmedAll f (lostAfter r.headOk s.ports[f].queue) } : State).setPort f
        (s.ports[f].completed r (quietOutcome heard) .off .shut e) :=
  (State.closeQuiet_of_quiet hw hround hq hr hear).trans (State.setPort_afterQuiet_off disabled still)

/-- The round of a disabled feeder completes, and its enrolment ends NOT_HEARD (R13, R19). -/
theorem State.closeQuiet_notHeard {attention : AttentionList} {e : Enrolment} (hw : s.ports[f].window = .quiet)
    (hround : s.ports[f].round = some r) (hq : s.isQuiesced = false) (hr : s.ports[f].restartDue = none)
    (disabled : (s.active.feeder f.val).enabled = false) (listening : e.condition = .listening)
    (hear : s.hearEnrolment f (quietOutcome heard) =
      ({ s with attention := attention } : State).setPort f { s.ports[f] with enrolment := e }) :
    s.closeQuiet f heard =
      ({ s with attention := (attention.unconfirmedAll f (lostAfter r.headOk s.ports[f].queue)).raise
                  (.enrolDone f.val .notHeard e.others e.counted) } : State).setPort f
        (s.ports[f].completed r (quietOutcome heard) .off .shut
          (e.afterEnd (attention.unconfirmedAll f (lostAfter r.headOk s.ports[f].queue)) f .notHeard)) :=
  (State.closeQuiet_of_quiet hw hround hq hr hear).trans (State.setPort_afterQuiet_notHeard disabled listening)

/-- The round of a feeder that goes on completes and ends its enrolment (R18, R19). -/
theorem State.closeQuiet_ends {e : Enrolment} {ending : EnrolEnding} (hw : s.ports[f].window = .quiet)
    (hround : s.ports[f].round = some r) (hq : s.isQuiesced = false) (hr : s.ports[f].restartDue = none)
    (enabled : (s.active.feeder f.val).enabled = true) (going : s.ports[f].state ≠ .holdPending)
    (listening : s.ports[f].enrolment.condition = .listening) (counting : s.ports[f].enrolment.counting = true)
    (hear : s.ports[f].enrolment.hear (quietOutcome heard) = (e, some ending)) :
    s.closeQuiet f heard =
      ({ s with attention := (s.attention.raise (.enrolDone f.val ending e.others e.counted)).unconfirmedAll f
                  (lostAfter r.headOk s.ports[f].queue) } : State).setPort f
        (s.ports[f].completed r (quietOutcome heard) .running .headDue (e.afterEnd s.attention f ending)) :=
  State.closeQuiet_goesOn hw hround hq hr enabled going (State.hearEnrolment_of_ending listening counting hear)

end

/-- A QUIET slot's serial is its message's (R10). -/
theorem quietOutcome_message {heard : List LineChar} {m : List Byte}
    (h : judge announceKind announceLength heard = .message m) :
    quietOutcome heard = .announce (field m 1 4) := by
  simp only [quietOutcome, h]

/-- Without a message a QUIET slot announces no serial (R10). -/
theorem quietOutcome_ne_announce {heard : List LineChar} (h : ∀ m, judge announceKind announceLength heard ≠ .message m)
    (serial : Nat) : quietOutcome heard ≠ .announce serial := by
  unfold quietOutcome
  cases hj : judge announceKind announceLength heard
  case message m => exact absurd hj (h m)
  all_goals exact fun e => by cases e

/-- Settles O42: what the enrolment leaves, case by case of R18, and then the end of the round. -/
theorem quietWindowCloseCompletesTheRound : Obligations.QuietWindowCloseCompletesTheRound := by
  intro s f r heard hw hround hq hr heardQuiet quiet counted lost queue unconfirmed completed reg leaves
  have outcome : quiet = quietOutcome heard := by
    simp only [quiet, heardQuiet, quietOutcome, announceKind, announceLength]
    cases judge 0x55 7 heard <;> rfl
  clear_value quiet
  subst outcome
  have same : s = ({ s with attention := s.attention } : State).setPort f { s.ports[f] with enrolment := reg } :=
    (State.setPort_same s f).symm
  refine ⟨fun still => ?_, fun listening uncounted disabled => ?_, fun listening enabled running => ?_⟩
  · have hear := (State.hearEnrolment_of_uncounted (quietOutcome heard) (.inl still)).trans same
    cases enabled : (s.active.feeder f.val).enabled with
    | false =>
      rw [if_pos rfl]
      exact congrArg Host.Outcome.next (State.closeQuiet_off hw hround hq hr enabled still hear)
    | true =>
      rw [if_neg (by decide)]
      split
      · exact congrArg Host.Outcome.next (State.closeQuiet_held hw hround hq hr enabled ‹_› hear)
      · exact congrArg Host.Outcome.next (State.closeQuiet_goesOn hw hround hq hr enabled ‹_› hear)
  · have hear := (State.hearEnrolment_of_uncounted (quietOutcome heard) (.inr uncounted)).trans same
    have off := State.closeQuiet_notHeard hw hround hq hr disabled listening hear
    rw [Enrolment.afterEnd_of_uncounted _ _ _ uncounted] at off
    exact congrArg Host.Outcome.next off
  · have going : s.ports[f].state ≠ .holdPending := by rw [running]; decide
    refine ⟨fun uncounted => ?_, fun counting => ⟨fun m hm looked => ?_, fun m hm other => ?_, fun silent => ?_⟩⟩
    · exact congrArg Host.Outcome.next (State.closeQuiet_goesOn hw hround hq hr enabled going
        ((State.hearEnrolment_of_uncounted _ (.inr uncounted)).trans same))
    · have hear := Enrolment.hear_found ((reg.expects_iff (field m 1 4)).2 looked)
      rw [← quietOutcome_message hm] at hear
      exact congrArg Host.Outcome.next (State.closeQuiet_ends hw hround hq hr enabled going listening counting hear)
    · have hear := Enrolment.hear_other fun h => other ((reg.expects_iff (field m 1 4)).1 h)
      rw [← quietOutcome_message hm] at hear
      refine ⟨fun last => ?_, fun more => ?_⟩
      · rw [if_pos last] at hear
        exact congrArg Host.Outcome.next (State.closeQuiet_ends hw hround hq hr enabled going listening counting hear)
      · rw [if_neg (Nat.not_le_of_lt more)] at hear
        exact congrArg Host.Outcome.next (State.closeQuiet_goesOn hw hround hq hr enabled going
          (State.hearEnrolment_of_goingOn listening counting hear))
    · have hear := Enrolment.hear_silent (r := reg) (quietOutcome_ne_announce silent)
      refine ⟨fun last => ?_, fun more => ?_⟩
      · rw [if_pos last] at hear
        exact congrArg Host.Outcome.next (State.closeQuiet_ends hw hround hq hr enabled going listening counting hear)
      · rw [if_neg (Nat.not_le_of_lt more)] at hear
        exact congrArg Host.Outcome.next (State.closeQuiet_goesOn hw hround hq hr enabled going
          (State.hearEnrolment_of_goingOn listening counting hear))

end Sys2Proof.Machine
end

section
/-! ## Meter slots (O40): what a window heard, and a REPORT's fields -/

namespace Sys2Proof.Machine

/-! ### The judging of a window (R8, R10) -/

/-- The characters that follow one another within 2 ms belong to the message, and a later one to what follows it. -/
theorem messageTail_append {first : LineChar} {rest further : List LineChar}
    (near : ∀ n a b, (first :: rest)[n]? = some a → (first :: rest)[n + 1]? = some b → b.start ≤ a.stop + 2000)
    (far : ∀ last c, (first :: rest).getLast? = some last → further.head? = some c → last.stop + 2000 < c.start) :
    messageTail first.stop (rest ++ further) = (rest, further) := by
  induction rest generalizing first with
  | nil =>
    cases further with
    | nil => rfl
    | cons c tail =>
      have gap : ¬c.start ≤ first.stop + Config.charGap := Nat.not_le_of_lt (far first c rfl rfl)
      simp only [List.nil_append, messageTail, gap, if_false]
  | cons d rest ih =>
    have close : d.start ≤ first.stop + Config.charGap := near 0 first d rfl rfl
    have tail := ih (first := d) (fun n a b ha hb => near (n + 1) a b ha hb)
      (fun last c hl hc => far last c (by rw [List.getLast?_cons_cons]; exact hl) hc)
    simp only [List.cons_append, messageTail, close, if_true, tail]

/-- Why a message in time is malformed (R8, tests 2 and 3). -/
def malformed (kind : Byte) (length : Nat) (message further : List LineChar) (last : LineChar) : Bool :=
  (message.map LineChar.byte).head? != some kind || (message.map LineChar.byte).length != length ||
    !message.all LineChar.framed || Config.window ≤ last.stop + Config.charGap || further != []

/-- A window's judging, by its first run of characters. -/
theorem judge_append {kind : Byte} {length : Nat} {message further : List LineChar} {first last : LineChar}
    (hfirst : message.head? = some first) (hlast : message.getLast? = some last)
    (near : ∀ n a b, message[n]? = some a → message[n + 1]? = some b → b.start ≤ a.stop + 2000)
    (far : ∀ c, further.head? = some c → last.stop + 2000 < c.start) :
    judge kind length (message ++ further) =
      if 10000 < first.start then .garbled
      else if malformed kind length message further last then .garbled
      else if checkGood (message.map LineChar.byte) then .message (message.map LineChar.byte) else .checkFail := by
  cases message with
  | nil => cases hfirst
  | cons c rest =>
    obtain rfl : c = first := by simpa using hfirst
    have tail : messageTail c.stop (rest ++ further) = (rest, further) :=
      messageTail_append near fun l d hl hd => by
        obtain rfl : l = last := by rw [hl] at hlast; exact Option.some.inj hlast
        exact far d hd
    simp only [List.cons_append, judge, tail, hlast, Option.map_some, Option.getD_some]
    rfl

theorem malformed_iff {kind : Byte} {length : Nat} {message further : List LineChar} {first last : LineChar}
    (hfirst : message.head? = some first) :
    malformed kind length message further last = true ↔
      first.byte ≠ kind ∨ message.length ≠ length ∨ (∃ c ∈ message, c.framed = false) ∨ 38000 ≤ last.stop ∨
        further ≠ [] := by
  have late : Config.window ≤ last.stop + Config.charGap ↔ 38000 ≤ last.stop := by
    simp only [Config.window, Config.charGap]; omega
  simp only [malformed, Bool.or_eq_true, bne_iff_ne, List.head?_map, hfirst, Option.map_some, ne_eq, Option.some.injEq,
    List.length_map, Bool.not_eq_true', List.all_eq_false, Bool.not_eq_true, decide_eq_true_eq, late, or_assoc]

/-- A message with its check code, or with another one (R8, test 4). -/
theorem checkGood_append {front check : List Byte} (h : check.length = 2) :
    checkGood (front ++ check) = decide (check = be 2 (checkCode front).toNat) := by
  by_cases hc : check = be 2 (checkCode front).toNat
  · subst hc
    exact (checkGood_withCheck front).trans (decide_eq_true rfl).symm
  · rw [checkGood_other h hc, decide_eq_false hc]

/-! ### A REPORT's fields (R190) -/

theorem fromBe_singleton (b : Byte) : fromBe [b] = b.toNat := by
  rw [fromBe_cons]
  simp [fromBe]

theorem reportOf_fields (kind mark flags : Byte) {serial exported imported : Nat} (check : List Byte)
    (hs : serial ≤ 4294967295) (he : exported ≤ 4294967295) (hi : imported ≤ 4294967295) :
    reportOf ([kind] ++ be 4 serial ++ [mark] ++ be 4 exported ++ be 4 imported ++ [flags] ++ check) =
      { serial := serial, mark := mark, exported := BitVec.ofNat 32 exported, imported := BitVec.ofNat 32 imported,
        limitActive := flags.getLsbD 0, tamper := flags.getLsbD 1, counterFault := flags.getLsbD 2 } := by
  have word {v : Nat} (h : v ≤ 4294967295) : fromBe (be 4 v) = v := fromBe_be (by omega)
  have byte (b : Byte) : BitVec.ofNat 8 (fromBe [b]) = b := by rw [fromBe_singleton, BitVec.ofNat_toNat, BitVec.setWidth_eq]
  generalize hm : [kind] ++ be 4 serial ++ [mark] ++ be 4 exported ++ be 4 imported ++ [flags] ++ check = m
  have serials : slice m 1 4 = be 4 serial := by rw [← hm]; rfl
  have marks : slice m 5 1 = [mark] := by rw [← hm]; rfl
  have exports : slice m 6 4 = be 4 exported := by rw [← hm]; rfl
  have imports : slice m 10 4 = be 4 imported := by rw [← hm]; rfl
  have flag : slice m 14 1 = [flags] := by rw [← hm]; rfl
  simp only [reportOf, field, serials, marks, exports, imports, flag, byte, word hs, word he, word hi]

end Sys2Proof.Machine
end

section
/-! ## Meter slots (O40): what a closing slot leaves -/

namespace Sys2Proof.Machine

/-! ### Live-state records -/

/-- A record replaced at an index of the table. -/
theorem setIfInBounds_fin (v : Vector LiveState 192) (i : Fin 192) (l : LiveState) :
    v.setIfInBounds i.val l = v.set i.val l := by
  refine Vector.ext fun k hk => ?_
  simp [Vector.getElem_setIfInBounds, Vector.getElem_set]

/-- The record of an index of the table. -/
theorem State.liveOf_fin (s : State) (i : Fin 192) : s.liveOf i.val = s.live[i] := by
  simp [State.liveOf]

/-- A record replaced is read back, and the others stay. -/
theorem liveOf_set (s : State) (i : Fin 192) (l : LiveState) (k : Nat) :
    ({ s with live := s.live.set i l } : State).liveOf k = if k = i.val then l else s.liveOf k := by
  unfold State.liveOf
  rw [Vector.getElem?_set]
  by_cases h : i.val = k
  · rw [if_pos h, if_pos h.symm, Option.getD_some]
  · rw [if_neg h, if_neg (Ne.symm h)]

/-! ### Closing a slot (R8, R9) -/

/-- The port after a meter slot with an outcome. -/
def FeederPort.slotClosed (p : FeederPort) (r : Round) (j : Nat) (o : SlotOutcome) : FeederPort :=
  { p with window := r.windowAt (j + 1), sending := [], driving := false,
           round := some { r with outcomes := r.outcomes ++ [o] } }

/-- The port while its slot's outcome is recorded and the next window has not come. -/
def FeederPort.slotJudged (p : FeederPort) (r : Round) (o : SlotOutcome) : FeederPort :=
  { p with round := some { r with outcomes := r.outcomes ++ [o] } }

section
variable {s : State} {f : Feeder} {j : Nat} {r : Round} {heard : List LineChar}

/-- A meter slot without a report closes. -/
theorem State.closeSlot_of_none {o : SlotOutcome} (hw : s.ports[f].window = .slot j) (hround : s.ports[f].round = some r)
    (h : slotOutcome s.active f j heard = (o, none)) :
    s.closeSlot f heard = ((s.setPort f (s.ports[f].slotJudged r o)).nextWindow f (r.windowAt (j + 1))).drive := by
  simp only [State.closeSlot, hw, hround, h]
  rfl

/-- A meter slot with a report hands it over and closes. -/
theorem State.closeSlot_of_report {o : SlotOutcome} {m : Report} (hw : s.ports[f].window = .slot j)
    (hround : s.ports[f].round = some r) (h : slotOutcome s.active f j heard = (o, some m)) :
    s.closeSlot f heard =
      (((s.setPort f (s.ports[f].slotJudged r o)).handReport f j o m s.ports[f].number).nextWindow f
        (r.windowAt (j + 1))).drive := by
  have number : (s.setRound f { r with outcomes := r.outcomes ++ [o] }).ports[f].number = s.ports[f].number := by
    rw [State.setRound_eq, State.setPort_self]
  simp only [State.closeSlot, hw, hround, h, number]
  rfl

/-- With units at rest the next window is all that follows a slot. -/
theorem State.slotEnd_of_resting {p : FeederPort} {w : Window} (rest : s.resting) (done : s.commandDone = true)
    (still : p.prefetch.isWaiting = false) (hr : p.restartDue = none) (hw : w ≠ .quiet) :
    ((s.setPort f p).nextWindow f w).drive = s.setPort f { p with window := w, sending := [], driving := false } := by
  rw [State.setPort_nextWindow f w rest.1 hr, FeederPort.atWindow_of_ne _ hw]
  exact State.drive_of_resting (State.resting_setPort rest f (p := { p with window := w, sending := [], driving := false })
    still) done

/-- No book enters SETTLING while the memory is NOT_READY (R80). -/
theorem State.admissible_of_notReady (h : s.port.state = .notReady) : s.admissible = none := by
  have conditions : s.entryConditions = false := by
    simp only [State.entryConditions, State.memoryReady, h, Bool.and_eq_false_iff]
    exact .inl (.inl (.inr rfl))
  simp only [State.admissible, conditions, Bool.and_false, Bool.false_and, Bool.false_eq_true, if_false]
  split <;> rfl

/-- With units at rest but for a book that the slot has completed, and the memory NOT_READY, nothing else follows. -/
theorem State.slotEnd_of_notReady {p : FeederPort} {w : Window} (rest : s.resting) (done : s.commandDone = true)
    (books : List Book) (hm : s.port.state = .notReady) (still : p.prefetch.isWaiting = false) (hr : p.restartDue = none)
    (hw : w ≠ .quiet) :
    ((({ s with books := books } : State).setPort f p).nextWindow f w).drive =
      ({ s with books := books } : State).setPort f { p with window := w, sending := [], driving := false } := by
  rw [State.setPort_nextWindow (s := { s with books := books }) f w rest.1 hr, FeederPort.atWindow_of_ne _ hw]
  have units := rest.unitsRest
  have units' : ({ s with books := books } : State).unitsRest :=
    ⟨units.notQuiesced, units.noSequence, units.noWork, units.noPosting, units.noStartup, units.notAwaiting,
      units.notChecking, units.noMarking, State.admissible_of_notReady hm⟩
  have notices := (State.resting_setPort rest f (p := { p with window := w, sending := [], driving := false }) still)
  exact (units'.setPort f _).drive_of_notReady done (by simp [State.memoryReady, hm]) notices.noNotice

/-! ### A report compared with the collecting book (R28 to R30) -/

/-- No book is COLLECTING. -/
theorem State.compareReport_of_noBook {i : Nat} {m : Report} {n : RoundNumber} (h : s.collecting = none) :
    s.compareReport i m n = s := by
  simp only [State.compareReport, h]

/-- A report of another mark, or of a participant that the book does not expect (R29). -/
theorem State.compareReport_of_stale {i : Nat} {m : Report} {n : RoundNumber} {b : Book} (hb : s.collecting = some b)
    (h : m.mark ≠ b.mark ∨ i ∉ b.expected) : s.compareReport i m n = s := by
  simp only [State.compareReport, hb]
  refine if_neg fun fresh => ?_
  simp only [Bool.and_eq_true, List.contains_iff_mem, beq_iff_eq] at fresh
  rcases h with h | h
  · exact h fresh.2
  · exact h fresh.1

/-- The first report with the book's mark is taken as the snapshot (R28). -/
theorem State.compareReport_of_first {i : Nat} {m : Report} {n : RoundNumber} {b : Book} (hb : s.collecting = some b)
    (mark : m.mark = b.mark) (member : i ∈ b.expected) (h : (s.liveOf i).taken = none) :
    s.compareReport i m n =
      if (s.setLive i { s.liveOf i with taken := some m.snapshot, absence := 0 }).collectionComplete then
        (s.setLive i { s.liveOf i with taken := some m.snapshot, absence := 0 }).endCollection
      else s.setLive i { s.liveOf i with taken := some m.snapshot, absence := 0 } := by
  simp only [State.compareReport, hb, mark, h, List.contains_iff_mem.2 member, beq_self_eq_true, Bool.and_self, if_true]

/-- A report with the snapshot's counters changes nothing (R30). -/
theorem State.compareReport_of_same {i : Nat} {m : Report} {n : RoundNumber} {b : Book} {x : Snapshot}
    (hb : s.collecting = some b) (mark : m.mark = b.mark) (member : i ∈ b.expected) (h : (s.liveOf i).taken = some x)
    (same : x.exported = m.exported ∧ x.imported = m.imported) : s.compareReport i m n = s := by
  simp only [State.compareReport, hb, mark, h, List.contains_iff_mem.2 member, beq_self_eq_true, Bool.and_self, if_true,
    same, decide_true]

/-- A report with other counters than the snapshot's raises SNAPSHOT_CHANGED (R30). -/
theorem State.compareReport_of_changed {i : Nat} {m : Report} {n : RoundNumber} {b : Book} {x : Snapshot}
    (hb : s.collecting = some b) (mark : m.mark = b.mark) (member : i ∈ b.expected) (h : (s.liveOf i).taken = some x)
    (changed : ¬(x.exported = m.exported ∧ x.imported = m.imported)) :
    s.compareReport i m n = s.raise (.snapshotChanged i x m.exported m.imported n) := by
  simp only [State.compareReport, hb, mark, h, List.contains_iff_mem.2 member, beq_self_eq_true, Bool.and_self, if_true]
  exact if_neg (by simpa using changed)

/-- The collection is complete when every member expected has its snapshot (R27). -/
theorem State.collectionComplete_iff {b : Book} (hb : s.collecting = some b) :
    s.collectionComplete = true ↔ ∀ k ∈ b.expected, (s.liveOf k).taken ≠ none := by
  simp only [State.collectionComplete, hb, List.all_eq_true, Option.isSome_iff_ne_none]

/-- A complete collection ends without an absence to count (R31). -/
theorem State.endCollection_of_complete {b : Book} (hb : s.collecting = some b) (hq : s.isQuiesced = false)
    (complete : ∀ k ∈ b.expected, (s.liveOf k).taken ≠ none) :
    s.endCollection =
      s.updateBook b.start fun x =>
        if x.state = .collecting then x.collected (snapshotSet s.live b.expected) else x := by
  have none : (snapshotSet s.live b.expected).filter (fun m => m.snapshot.isNone) = [] := by
    simp only [List.filter_eq_nil_iff, snapshotSet, List.mem_map]
    rintro m ⟨k, hk, rfl⟩
    simpa [Option.isNone_iff_eq_none, State.liveOf] using complete k hk
  simp only [State.endCollection, hb, hq, none, List.foldl_nil, Bool.false_eq_true, if_false]

/-! ### A GOOD report (R26) -/

/-- The items after a GOOD report of a participant: TAMPER when the flag newly appears. -/
def State.tamperItems (s : State) (f : Feeder) (j : Nat) (i : Fin 192) (m : Report) (n : RoundNumber) : AttentionList :=
  if m.tamper = true ∧ s.live[i].tamper = false then s.attention.raise (.tamper i f.val j n) else s.attention

/-- The queue without the SENT order that a LIMIT_ACTIVE flag confirms (R154). -/
def withoutConfirmed (q : List OrderEntry) (slot : Nat) (flag : Bool) : List OrderEntry :=
  q.filter fun e => !(e.slot == slot && e.sent && (match e.kind with | .limit => flag | .release => !flag))

theorem confirmOrder_eq (q : List OrderEntry) (slot : Nat) (flag : Bool) :
    confirmOrder q slot flag = withoutConfirmed q slot flag :=
  List.filter_congr fun e _ => by cases e.kind <;> rfl

/-- A GOOD report up to its comparison with the book. -/
def State.reported (s : State) (f : Feeder) (p : FeederPort) (j : Nat) (i : Fin 192) (m : Report) (n : RoundNumber)
    (l : LiveState) : State :=
  ({ s with live := s.live.set i l, attention := s.tamperItems f j i m n } : State).setPort f
    { p with queue := withoutConfirmed p.queue j m.limitActive }

theorem State.setPort_goodReport (s : State) (f : Feeder) (p : FeederPort) (j : Nat) (i : Fin 192) (m : Report)
    (n : RoundNumber) :
    (s.setPort f p).goodReport f j i m n = (s.reported f p j i m n (s.live[i].heard m n)).compareReport i m n := by
  have live : (s.setPort f p).liveOf i = s.live[i] := State.liveOf_fin s i
  have presented (t : State) :
      (t.setPort f p).setPort f
        { (t.setPort f p).ports[f] with queue := confirmOrder (t.setPort f p).ports[f].queue j m.limitActive } =
      t.setPort f { p with queue := withoutConfirmed p.queue j m.limitActive } := by
    rw [State.setPort_self, State.setPort_setPort, confirmOrder_eq]
  simp only [State.goodReport, live, State.setLive, State.setPort_live, setIfInBounds_fin, State.reported,
    State.tamperItems]
  rw [← presented]
  by_cases h : m.tamper = true ∧ s.live[i].tamper = false
  · simp only [h.1, h.2, and_self, Bool.not_false, Bool.and_self, if_true]
    rfl
  · have h' : ¬(m.tamper && !s.live[i].tamper) = true := by simpa using h
    simp only [h, h', if_false]
    rfl

/-- After a GOOD report the live-state record of its participant is the new one, the others stay. -/
theorem State.reported_liveOf (s : State) (f : Feeder) (p : FeederPort) (j : Nat) (i : Fin 192) (m : Report)
    (n : RoundNumber) (l : LiveState) (k : Nat) :
    (s.reported f p j i m n l).liveOf k = if k = i.val then l else s.liveOf k := liveOf_set s i l k

/-- The snapshots after a GOOD report. -/
theorem State.reported_liveOf_taken (s : State) (f : Feeder) (p : FeederPort) (j : Nat) (i : Fin 192) (m : Report)
    (n : RoundNumber) (l : LiveState) (k : Nat) :
    ((s.reported f p j i m n l).liveOf k).taken = if k = i.val then l.taken else (s.liveOf k).taken := by
  rw [State.reported_liveOf]
  split <;> rfl

/-- A further record of the same participant takes its place. -/
theorem State.reported_setLive (s : State) (f : Feeder) (p : FeederPort) (j : Nat) (i : Fin 192) (m : Report)
    (n : RoundNumber) (l l' : LiveState) : (s.reported f p j i m n l).setLive i l' = s.reported f p j i m n l' := by
  have again : ((s.live.set i.val l).setIfInBounds i.val l') = s.live.set i.val l' := by
    rw [setIfInBounds_fin, Vector.set_set]
  simp only [State.reported, State.setLive, State.setPort_live, again]
  rfl

/-- The first report with the book's mark: the record with its snapshot, and the collection's end if that completes it
(R28). -/
theorem State.reported_compareReport_first {i : Fin 192} {m : Report} {n : RoundNumber} {b : Book} {p : FeederPort}
    (hb : s.collecting = some b) (mark : m.mark = b.mark) (member : i.val ∈ b.expected) (fresh : s.live[i].taken = none) :
    (s.reported f p j i m n (s.live[i].heard m n)).compareReport i m n =
      let taken := s.reported f p j i m n { s.live[i].heard m n with taken := some m.snapshot, absence := 0 }
      if taken.collectionComplete then taken.endCollection else taken := by
  have live : (s.reported f p j i m n (s.live[i].heard m n)).liveOf i = s.live[i].heard m n := by
    rw [State.reported_liveOf, if_pos rfl]
  have hb' : (s.reported f p j i m n (s.live[i].heard m n)).collecting = some b := hb
  rw [State.compareReport_of_first hb' mark member (by rw [live]; exact fresh), live, State.reported_setLive]

/-- Whether a GOOD report completes the collection (R27). -/
theorem State.reported_collectionComplete_iff {i : Fin 192} {m : Report} {n : RoundNumber} {b : Book} {p : FeederPort}
    {l : LiveState} (hb : s.collecting = some b) :
    (s.reported f p j i m n l).collectionComplete = true ↔
      ∀ k ∈ b.expected, (if k = i.val then l.taken else (s.liveOf k).taken) ≠ none := by
  have hb' : (s.reported f p j i m n l).collecting = some b := hb
  simp only [State.collectionComplete_iff hb', State.reported_liveOf_taken]

/-- A report that is compared with the snapshot taken (R30). -/
theorem State.reported_taken {i : Fin 192} {m : Report} {n : RoundNumber} {p : FeederPort} {x : Snapshot}
    (h : s.live[i].taken = some x) : ((s.reported f p j i m n (s.live[i].heard m n)).liveOf i).taken = some x := by
  rw [State.reported_liveOf, if_pos rfl]
  exact h

/-- The book whose collection has ended with every snapshot taken (R31). -/
theorem Book.collected_of_complete {b : Book} {taken : Nat → Option Snapshot} {members : List Member} (x : Book)
    (hm : members = b.expected.map fun k => { index := k, snapshot := taken k })
    (complete : ∀ k ∈ b.expected, taken k ≠ none) :
    x.collected members =
      { x with
        state := .waiting, members := b.expected.map fun k => { index := k, snapshot := taken k }, missing := 0
        counterFaults := (b.expected.filter fun k => ((taken k).map Snapshot.counterFault).getD false).length } := by
  have none : members.filter (fun m => m.snapshot.isNone) = [] := by
    simp only [hm, List.filter_eq_nil_iff, List.mem_map]
    rintro m ⟨k, hk, rfl⟩
    simpa [Option.isNone_iff_eq_none] using complete k hk
  have fault : (hasFault ∘ fun k => ({ index := k, snapshot := taken k } : Member)) =
      fun k => ((taken k).map Snapshot.counterFault).getD false := by
    funext k
    simp only [Function.comp, hasFault]
    cases taken k <;> rfl
  rw [Book.collected, none, hm, List.filter_map, fault, List.length_map]
  rfl

/-! ### The outcomes of a slot (R8) -/

/-- A first character that starts too late garbles the window (R8). -/
theorem judge_of_late {kind : Byte} {length : Nat} {c : LineChar} (rest : List LineChar) (h : 10000 < c.start) :
    judge kind length (c :: rest) = .garbled := by
  have late : Config.tolerance < c.start := h
  simp only [judge, late, if_true]

/-- The outcome of a window that heard a well formed REPORT with a good check code (R8, tests 5 to 7). -/
theorem slotOutcome_of_message {t : TableSet} {message : List Byte} {o : SlotOutcome}
    (hj : judge reportKind reportLength heard = .message message) (ho : reportOutcome t f j (reportOf message) = o) :
    slotOutcome t f j heard = (o, some (reportOf message)) := by
  simp only [slotOutcome, hj, ho]

/-- A slot that hands a FOREIGN or INTRUDER report over raises FOREIGN_METER and does nothing else (R25). -/
theorem State.closeSlot_of_foreign {o : SlotOutcome} {m : Report} (hw : s.ports[f].window = .slot j)
    (hround : s.ports[f].round = some r) (hr : s.ports[f].restartDue = none) (rest : s.resting)
    (done : s.commandDone = true) (h : slotOutcome s.active f j heard = (o, some m)) (ho : o = .foreign ∨ o = .intruder) :
    s.closeSlot f heard =
      (s.raise (.foreignMeter f.val j m.serial s.ports[f].number)).setPort f (s.ports[f].slotClosed r j o) := by
  have handed : (s.setPort f (s.ports[f].slotJudged r o)).handReport f j o m s.ports[f].number =
      (s.raise (.foreignMeter f.val j m.serial s.ports[f].number)).setPort f (s.ports[f].slotJudged r o) := by
    rcases ho with rfl | rfl <;> rfl
  have rest' : (s.raise (.foreignMeter f.val j m.serial s.ports[f].number)).resting := rest
  rw [State.closeSlot_of_report hw hround h, handed]
  exact State.slotEnd_of_resting (p := s.ports[f].slotJudged r o) rest' done (rest.noNotice f) hr
    (r.windowAt_ne_quiet _)

/-- A slot without a report records its outcome (R8). -/
theorem State.closeSlot_of_unreported {o : SlotOutcome} (hw : s.ports[f].window = .slot j)
    (hround : s.ports[f].round = some r) (hr : s.ports[f].restartDue = none) (rest : s.resting)
    (done : s.commandDone = true) (h : slotOutcome s.active f j heard = (o, none)) :
    s.closeSlot f heard = s.setPort f (s.ports[f].slotClosed r j o) := by
  rw [State.closeSlot_of_none hw hround h]
  exact State.slotEnd_of_resting (p := s.ports[f].slotJudged r o) rest done (rest.noNotice f) hr
    (r.windowAt_ne_quiet _)

/-- A slot that hands a GOOD report over compares it with the collecting book (R26). -/
theorem State.closeSlot_of_good {i : Fin 192} {m : Report} {t u : State} (hw : s.ports[f].window = .slot j)
    (hround : s.ports[f].round = some r) (h : slotOutcome s.active f j heard = (.good, some m))
    (who : s.active.slotParticipant f.val j = some i.val)
    (compared : (s.reported f (s.ports[f].slotJudged r .good) j i m s.ports[f].number
      (s.live[i].heard m s.ports[f].number)).compareReport i m s.ports[f].number = t)
    (ended : (t.nextWindow f (r.windowAt (j + 1))).drive = u) : s.closeSlot f heard = u := by
  rw [State.closeSlot_of_report hw hround h]
  simp only [State.handReport, State.setPort_active, who, State.setPort_goodReport, compared, ended]

end

section
variable {s : State} {f : Feeder} {j : Nat} {r : Round} {i : Fin 192} {m : Report} {n : RoundNumber}

/-- A GOOD report without effect on the Book List ends its slot (R26). -/
theorem State.reported_slotEnd (rest : s.resting) (done : s.commandDone = true) (hr : s.ports[f].restartDue = none)
    (l : LiveState) :
    ((s.reported f (s.ports[f].slotJudged r .good) j i m n l).nextWindow f (r.windowAt (j + 1))).drive =
      s.reported f (s.ports[f].slotClosed r j .good) j i m n l := by
  have rest' : ({ s with live := s.live.set i l, attention := s.tamperItems f j i m n } : State).resting := rest
  exact State.slotEnd_of_resting rest' done (rest.noNotice f) hr (r.windowAt_ne_quiet _)

/-- A GOOD report that raises an item ends its slot (R30). -/
theorem State.reported_raise_slotEnd (rest : s.resting) (done : s.commandDone = true)
    (hr : s.ports[f].restartDue = none) (l : LiveState) (e : Attention) :
    (((s.reported f (s.ports[f].slotJudged r .good) j i m n l).raise e).nextWindow f (r.windowAt (j + 1))).drive =
      (s.reported f (s.ports[f].slotClosed r j .good) j i m n l).raise e := by
  have rest' : ({ s with live := s.live.set i l, attention := (s.tamperItems f j i m n).raise e } : State).resting := rest
  exact State.slotEnd_of_resting rest' done (rest.noNotice f) hr (r.windowAt_ne_quiet _)

/-- A GOOD report that ends the collection, the memory NOT_READY, ends its slot (R28, R79). -/
theorem State.reported_books_slotEnd (rest : s.resting) (done : s.commandDone = true)
    (hr : s.ports[f].restartDue = none) (hm : s.port.state = .notReady) (l : LiveState) (books : List Book) :
    ((({ s.reported f (s.ports[f].slotJudged r .good) j i m n l with books := books } : State)).nextWindow f
      (r.windowAt (j + 1))).drive =
      { s.reported f (s.ports[f].slotClosed r j .good) j i m n l with books := books } := by
  have rest' : ({ s with live := s.live.set i l, attention := s.tamperItems f j i m n } : State).resting := rest
  exact State.slotEnd_of_notReady rest' done books hm (rest.noNotice f) hr (r.windowAt_ne_quiet _)

/-- A GOOD report that completes the collection (R28, R31). -/
theorem State.reported_endCollection {b : Book} {p : FeederPort} {l : LiveState} (hb : s.collecting = some b)
    (hq : s.isQuiesced = false)
    (complete : ∀ k ∈ b.expected, (if k = i.val then l.taken else (s.liveOf k).taken) ≠ none) :
    (s.reported f p j i m n l).endCollection =
      { s.reported f p j i m n l with
        books := s.books.map fun x =>
          if x.start = b.start ∧ x.state = .collecting then
            { x with
              state := .waiting
              members := b.expected.map fun k =>
                { index := k, snapshot := if k = i.val then l.taken else (s.liveOf k).taken }
              missing := 0
              counterFaults := (b.expected.filter fun k =>
                ((if k = i.val then l.taken else (s.liveOf k).taken).map Snapshot.counterFault).getD false).length }
          else x } := by
  have members : snapshotSet (s.reported f p j i m n l).live b.expected =
      b.expected.map fun k => { index := k, snapshot := if k = i.val then l.taken else (s.liveOf k).taken } :=
    List.map_congr_left fun k _ => congrArg (Member.mk k) (State.reported_liveOf_taken s f p j i m n l k)
  have hb' : (s.reported f p j i m n l).collecting = some b := hb
  rw [State.endCollection_of_complete hb' hq fun k hk => by rw [State.reported_liveOf_taken]; exact complete k hk]
  refine congrArg (fun books => ({ s.reported f p j i m n l with books := books } : State))
    (List.map_congr_left fun x _ => ?_)
  by_cases start : x.start = b.start <;> by_cases state : x.state = .collecting
  · rw [if_pos start, if_pos (And.intro start state)]
    exact (if_pos state).trans (Book.collected_of_complete x members complete)
  all_goals simp only [start, state, and_false, false_and, if_true, if_false]

end

/-- Settles O40: the judging of a window, a REPORT's fields, and what each outcome of a slot leaves. -/
theorem meterSlotsAreJudgedAndReportsHandedOn : Obligations.MeterSlotsAreJudgedAndReportsHandedOn := by
  refine ⟨fun kind length => rfl, fun kind length message further first last hfirst hlast near far => ?judged,
    fun kind mark flags serial exported imported check hs he hi => reportOf_fields kind mark flags check hs he hi,
    fun s f j r heard hw hround hr rest done => ?closed⟩
  case judged =>
    have judged := judge_append (kind := kind) (length := length) hfirst hlast near far
    have bad := malformed_iff (kind := kind) (length := length) (further := further) (last := last) hfirst
    refine ⟨fun late => ?_, fun h => ?_, fun front check inTime hkind hlength framed ended alone bytes hcheck => ?_⟩
    · rw [if_pos late] at judged
      exact judged
    · rw [if_pos (bad.2 h), ite_self] at judged
      exact judged
    · have whole : ¬malformed kind length message further last = true := fun h => by
        rcases bad.1 h with h | h | ⟨c, hc, h⟩ | h | h
        · exact h hkind
        · exact h hlength
        · rw [framed c hc] at h; cases h
        · omega
        · exact h alone
      rw [if_neg (Nat.not_lt.2 inTime), if_neg whole, bytes, checkGood_append hcheck] at judged
      simpa using judged
  case closed =>
    have recorded {o : SlotOutcome} (h : slotOutcome s.active f j heard = (o, none)) :
        exec (.meterSlotClose f heard) s = .next (s.setPort f (s.ports[f].slotClosed r j o)) :=
      congrArg Host.Outcome.next (State.closeSlot_of_unreported hw hround hr rest done h)
    have garbles (h : judge 0x52 17 heard = .garbled) : slotOutcome s.active f j heard = (.garbled, none) := by
      have h' : judge reportKind reportLength heard = .garbled := h
      simp only [slotOutcome, h']
    refine ⟨fun silent => ?_, fun c tail hc late => ?_, fun garbled => recorded (garbles garbled), fun wrong => ?_,
      fun m hm => ⟨fun nobody => ?_, fun i who other => ?_, fun i who same => ?_⟩⟩
    · refine recorded ?_
      rw [silent]
      rfl
    · exact recorded (garbles (by rw [hc]; exact judge_of_late tail late))
    · have wrong' : judge reportKind reportLength heard = .checkFail := wrong
      exact recorded (by simp only [slotOutcome, wrong'])
    · have outcome : reportOutcome s.active f j (reportOf m) = .intruder := by simp only [reportOutcome, nobody]
      exact congrArg Host.Outcome.next (State.closeSlot_of_foreign hw hround hr rest done
        (slotOutcome_of_message hm outcome) (.inr rfl))
    · have outcome : reportOutcome s.active f j (reportOf m) = .foreign := by
        simp only [reportOutcome, who, other, if_false]
      exact congrArg Host.Outcome.next (State.closeSlot_of_foreign hw hround hr rest done
        (slotOutcome_of_message hm outcome) (.inl rfl))
    · have outcome : reportOutcome s.active f j (reportOf m) = .good := by
        simp only [reportOutcome, who, same, if_true]
      have report := slotOutcome_of_message hm outcome
      have ends {t u : State} (compared : (s.reported f (s.ports[f].slotJudged r .good) j i (reportOf m) s.ports[f].number
            (s.live[i].heard (reportOf m) s.ports[f].number)).compareReport i (reportOf m) s.ports[f].number = t)
          (ended : (t.nextWindow f (r.windowAt (j + 1))).drive = u) : exec (.meterSlotClose f heard) s = .next u :=
        congrArg Host.Outcome.next (State.closeSlot_of_good hw hround report who compared ended)
      refine ⟨fun noBook => ?_, fun b hb => ⟨fun stale => ?_,
        fun mark member fresh => ⟨fun k hk ne missing => ?_, fun complete notReady => ?_⟩,
        fun x mark member taken => ⟨fun equal => ?_, fun changed => ?_⟩⟩⟩
      · have none : s.collecting = none := by
          simpa [State.collecting, List.find?_eq_none] using noBook
        exact ends (State.compareReport_of_noBook none) (State.reported_slotEnd rest done hr _)
      · exact ends (State.compareReport_of_stale hb stale) (State.reported_slotEnd rest done hr _)
      · refine ends ((State.reported_compareReport_first hb mark member fresh).trans (if_neg fun h => ?_))
          (State.reported_slotEnd rest done hr _)
        have all := (State.reported_collectionComplete_iff hb).1 h k hk
        rw [if_neg ne] at all
        exact all missing
      · have all : ∀ k ∈ b.expected,
            (if k = i.val then some (reportOf m).snapshot else (s.liveOf k).taken) ≠ none := by
          intro k hk
          split
          · exact Option.some_ne_none _
          · exact complete k hk ‹_›
        exact ends ((State.reported_compareReport_first hb mark member fresh).trans
          ((if_pos ((State.reported_collectionComplete_iff hb).2 all)).trans
            (State.reported_endCollection hb rest.1 all))) (State.reported_books_slotEnd rest done hr notReady _ _)
      · exact ends (State.compareReport_of_same hb mark member (State.reported_taken taken) equal)
          (State.reported_slotEnd rest done hr _)
      · exact ends (State.compareReport_of_changed hb mark member (State.reported_taken taken) changed)
          (State.reported_raise_slotEnd rest done hr _ _)

end Sys2Proof.Machine
end

section
/-! ## The power-warning input is asserted (O4) -/

namespace Sys2Proof.Machine

/-! ### The executing command, cut (R168, R169, R187) -/

section
variable {s : State} {e : Executing}

theorem State.run_of_executing (h : s.link.executing = some e) : s.run = some e.run := by
  simp only [State.run, h, Option.map_some]

/-- The executing command's run replaced. -/
theorem State.setRun_of_executing (h : s.link.executing = some e) (r : Run) :
    s.setRun r = s.executing e.tag e.code r := by
  simp only [State.setRun, h, Option.map_some]
  rfl

/-- The executing command answered. -/
theorem State.answer_of_executing (h : s.link.executing = some e) (o : OutcomeClass) (d : Nat) (fl : List Byte) :
    s.answer o d fl = s.answered e.tag e.code o d fl := by
  have code : s.code = e.code := by simp only [State.code, h]
  rw [State.answer, code, State.setRun_of_executing h]
  rfl

/-- No waiting command is taken beside an executing one (R164). -/
theorem State.takeWaiting_of_executing (h : s.link.executing = some e) : s.takeWaiting = s := by
  simp only [State.takeWaiting, h]

/-- A command in its result phase is not cut (R167). -/
theorem State.cutCommand_of_result {built : CommandResult} (h : s.run = some (.result built)) (reason : CutReason) :
    s.cutCommand reason = s := by
  simp only [State.cutCommand, h]

/-- The power warning overrides the reason of a cut (R168). -/
theorem State.cutCommand_of_cutting {reason : CutReason} {n : Option Nat} (h : s.run = some (.cutting reason n)) :
    s.cutCommand .quiesced = s.setRun (.cutting .quiesced n) := by
  simp only [State.cutCommand, h, if_true]

/-- A command whose RESULT carries no fields ends now, or when its operation has completed (log 19). -/
theorem State.cutCommand_of_plain {r : Run} (h : s.run = some r) (plain : r.plain = true) (reason : CutReason) :
    s.cutCommand reason =
      if s.port.servesCommand then s.setRun (.cutting reason none) else s.cutEnd reason none := by
  rw [State.cutCommand, h]
  cases r
  case deciding | sweep | scan | flush | cutting | result => cases plain
  all_goals rfl

/-- A FLUSH ends with its count (R144). -/
theorem State.cutCommand_of_flush {rest : List Nat} {n : Nat} (h : s.run = some (.flush rest n)) (reason : CutReason) :
    s.cutCommand reason =
      if s.port.servesCommand then s.setRun (.cutting reason (some n)) else s.cutEnd reason (some n) := by
  simp only [State.cutCommand, h]

/-- The power warning overrides what was asked of a run before (R168, R187). -/
theorem cutEnding_quiesced (ending : RunEnding) : cutEnding .quiesced ending = .cut .quiesced := by
  rcases ending with _ | _ | ⟨_ | _⟩ <;> rfl

/-- A SCAN goes on while its read is in progress, and ends otherwise (R188). -/
theorem State.cutCommand_of_scan {x : ScanRun} (h : s.run = some (.scan x)) :
    s.cutCommand .quiesced =
      if s.port.servesCommand then s.setRun (.scan { x with ending := .cut .quiesced })
      else s.scanEnd .cut 2 { x with ending := .cut .quiesced } [] := by
  simp only [State.cutCommand, h, cutEnding_quiesced, State.scanAdvance]
  rfl

/-- A SWEEP goes on while its read is in progress or its BLOCK waits, and ends otherwise (R187). -/
theorem State.cutCommand_of_sweep {x : SweepRun} (h : s.run = some (.sweep x)) :
    s.cutCommand .quiesced =
      if x.block.isNone && !s.port.servesCommand then s.sweepEnd { x with ending := .cut .quiesced }
      else s.setRun (.sweep { x with ending := .cut .quiesced }) := by
  simp only [State.cutCommand, h, cutEnding_quiesced, decide_true, Bool.true_and]

end

/-! ### The turns of a QUIESCED engine (R145) -/

section
variable {s : State}

/-- While the input is asserted the executing command alone has turns. -/
theorem State.turn_of_warned (hq : s.isQuiesced = true) (hw : s.powerWarning = true) (hc : s.commandTurn = none) :
    s.turn = none := by
  have release : s.releaseTurn = none := by
    simp only [State.releaseTurn, hw, Bool.not_true, Bool.false_and, Bool.false_eq_true, if_false]
  simp only [State.turn, hq, if_true, hc, release]
  rfl

/-- A QUIESCED engine asks for nothing but its flush. -/
theorem State.want_of_quiesced (hq : s.isQuiesced = true) : s.want = s.flushWant .powerFlush := by
  simp only [State.want, hq, if_true]

/-- The flush asks first for the line of the lowest dirty account (R146). -/
theorem State.flushWant_of_cons {purpose : WriteBackUse} {a line : Nat} {rest : List Nat}
    (hd : s.cache.dirtyAccounts = a :: rest) (hl : s.cache.find a = some line) :
    s.flushWant purpose = some (.op (.writeBack purpose line a)) := by
  simp only [State.flushWant, hd, List.findSome?_cons, hl, Option.map_some]

/-- A QUIESCED engine with the port in use, or without a dirty line, is granted nothing. -/
theorem State.grant_of_quiesced_still (hq : s.isQuiesced = true)
    (h : s.port.inProgress ≠ none ∨ s.cache.dirtyAccounts = []) : s.grant = s := by
  rcases hp : s.port.inProgress with _ | o
  · have clean := h.resolve_left (fun busy => busy hp)
    refine State.grant_of_none ((State.want_of_quiesced hq).trans ?_)
    simp only [State.flushWant, clean, List.findSome?_nil]
  · exact State.grant_of_busy hp

/-- On a free port the flush's first write-back is granted (R146). -/
theorem State.grant_of_quiesced_flush {a line : Nat} {rest : List Nat} (hq : s.isQuiesced = true)
    (hp : s.port.inProgress = none) (hd : s.cache.dirtyAccounts = a :: rest) (hl : s.cache.find a = some line) :
    s.grant = s.onPort (.writeBack .powerFlush line a) :=
  State.grant_of_op hp ((State.want_of_quiesced hq).trans (State.flushWant_of_cons hd hl))

end

/-! ### The input asserted (R20, R68, R145) -/

/-- The engine as it enters QUIESCED, its executing command not yet cut. -/
def State.quiesced (s : State) : State :=
  { s with
    powerWarning := true, engine := .quiesced, before := s.engine, sequence := .none, activation := s.activation.warned
    ports := s.ports.map FeederPort.warned, port := { s.port with startup := .idle }
    link := { s.link with outbound := s.link.outbound.map OutFrame.overtake } }

/-- What the warning leaves: the state given, or with the flush's first write-back granted. -/
def State.flushesTo (s u : State) : Prop :=
  (s.port.inProgress ≠ none ∨ s.cache.dirtyAccounts = [] → exec .powerWarningAsserted s = .next u) ∧
  (∀ a rest line, s.port.inProgress = none → s.cache.dirtyAccounts = a :: rest → s.cache.find a = some line →
    exec .powerWarningAsserted s = .next (u.onPort (.writeBack .powerFlush line a)))

section
variable {s : State}

/-- The warning, where no RESULT of RESTART is overtaken: the command is cut, and the units take their turns. -/
theorem exec_powerWarningAsserted (hw : s.powerWarning = false) (hq : s.isQuiesced = false)
    (kept : s.link.executing.map Executing.overtake = s.link.executing) :
    exec .powerWarningAsserted s = .next ((s.quiesced.cutCommand .quiesced).takeWaiting).drive := by
  have hq' : ({ s with powerWarning := true } : State).isQuiesced = false := hq
  have entered : ({ s with powerWarning := true } : State).enterQuiesced = s.quiesced := by
    simp only [State.enterQuiesced, kept]
    rfl
  change execPowerWarningAsserted s = _
  simp only [execPowerWarningAsserted, hw, State.warn, hq', entered, Bool.false_eq_true, if_false]

/-- The cut state, once its command has no turn left, is what the warning leaves but for the flush. -/
theorem State.flushesTo_of_cut {u : State} (hw : s.powerWarning = false) (hq : s.isQuiesced = false)
    (kept : s.link.executing.map Executing.overtake = s.link.executing)
    (cut : (s.quiesced.cutCommand .quiesced).takeWaiting = u) (hc : u.commandTurn = none)
    (engine : u.isQuiesced = true) (input : u.powerWarning = true) (port : u.port.inProgress = s.port.inProgress)
    (cache : u.cache = s.cache) : s.flushesTo u := by
  have warned := exec_powerWarningAsserted hw hq kept
  rw [cut, State.drive_of_none (State.turn_of_warned engine input hc)] at warned
  refine ⟨fun still => warned.trans ?_, fun a rest line free dirty found => warned.trans ?_⟩
  · rw [State.grant_of_quiesced_still engine (by rw [port, cache]; exact still)]
  · rw [State.grant_of_quiesced_flush engine (port.trans free) (by rw [cache]; exact dirty) (by rw [cache]; exact found)]

end

end Sys2Proof.Machine
end

section
/-! ## What the warning leaves of the executing command (O4) -/

namespace Sys2Proof.Machine

/-- A RESULT that is not RESTART's is kept as it is built (log 21). -/
theorem Executing.overtake_of_absent {e : Executing} (h : ∀ built, e.run = .result built → built.restart = .absent) :
    e.overtake = e := by
  rcases e with ⟨tag, code, run⟩
  cases run
  case result built =>
    have absent := h built rfl
    simp only [Executing.overtake, absent, if_true]
    rw [← absent]
  all_goals rfl

section
variable {s : State}

/-- Empty buffers give no command. -/
theorem State.takeWaiting_of_empty (h : s.link.waiting = []) : s.takeWaiting = s := by
  rcases executing : s.link.executing with _ | e <;> simp only [State.takeWaiting, executing, h]

/-- A waiting command that is held back is not taken. -/
theorem State.takeWaiting_of_held (h : s.commandsHeld = true) : s.takeWaiting = s := by
  simp only [State.takeWaiting, h, if_true]
  split <;> rfl

/-- With no command, and none taken from the buffers, the warning cuts nothing. -/
theorem State.flushesTo_of_idle (hw : s.powerWarning = false) (hq : s.isQuiesced = false) (he : s.link.executing = none)
    (h : s.link.waiting = [] ∨ s.link.restartHold = true) : s.flushesTo s.quiesced := by
  have run : s.quiesced.run = none := congrArg (Option.map Executing.run) he
  have uncut : s.quiesced.cutCommand .quiesced = s.quiesced := by simp only [State.cutCommand, run]
  have kept : s.quiesced.takeWaiting = s.quiesced := by
    rcases h with empty | held
    · exact State.takeWaiting_of_empty empty
    · exact State.takeWaiting_of_held (Bool.or_eq_true_iff.mpr (Or.inl held))
  exact State.flushesTo_of_cut hw hq (by rw [he]; rfl) (by rw [uncut, kept])
    (State.commandTurn_of_done (by simp only [State.commandDone, run])) rfl rfl rfl rfl

/-- A waiting command that is taken by the warning is REFUSED QUIESCED (R166). -/
theorem State.flushesTo_of_waiting {tag : Byte} {c : Command} {rest : List Buffered} (hw : s.powerWarning = false)
    (hq : s.isQuiesced = false) (he : s.link.executing = none) (held : s.link.restartHold = false)
    (h : s.link.waiting = { tag := tag, request := .command c } :: rest) :
    s.flushesTo (({ s.quiesced with link := { s.quiesced.link with waiting := rest } } : State).answered tag
      (BitVec.ofNat 8 (commandCode c)) .refused 2 []) := by
  have run : s.quiesced.run = none := congrArg (Option.map Executing.run) he
  have uncut : s.quiesced.cutCommand .quiesced = s.quiesced := by simp only [State.cutCommand, run]
  have free : s.quiesced.commandsHeld = false := by
    simp only [State.commandsHeld, show s.quiesced.link.restartHold = false from held]
    rfl
  refine State.flushesTo_of_cut hw hq (by rw [he]; rfl) ?_ (State.commandTurn_of_done rfl) rfl rfl rfl rfl
  rw [uncut]
  simp only [State.takeWaiting, show s.quiesced.link.executing = none from he,
    show s.quiesced.link.waiting = _ from h, free, Bool.false_eq_true, if_false]
  rfl

end

/-! ### An executing command -/

/-- The free value that stands for the last account of a run that has visited none (log 10). -/
def State.drawnFor (s : State) (last : Option Nat) : State :=
  { s with freeCount := if last.isNone then s.freeCount + 1 else s.freeCount }

theorem State.drawnFor_eq (s : State) (last : Option Nat) : (if last.isNone then s.drawn else s) = s.drawnFor last := by
  cases last <;> rfl

/-- A SCAN cut by the warning ends with its counts (R188). -/
theorem State.scanEnd_of_cut (s : State) (x : ScanRun) :
    s.scanEnd .cut 2 { x with ending := .cut .quiesced } [] =
      (s.drawnFor x.lastVisited).answer .cut 2 (scanFields x s.freeByte) := by
  rw [State.scanEnd, State.drawnFor_eq]
  rfl

/-- A SWEEP cut by the warning ends with its counts (R187). -/
theorem State.sweepEnd_of_cut (s : State) (x : SweepRun) :
    s.sweepEnd { x with ending := .cut .quiesced } =
      (s.drawnFor x.lastVisited).answer .cut 2 (sweepFields { x with ending := .cut .quiesced } s.freeByte) := by
  simp only [State.sweepEnd, State.drawnFor_eq]
  rfl

/-- A SCAN that has tested its account waits for the record. -/
theorem State.scanTurn_of_waiting {s : State} {x : ScanRun} (tested : x.tested = true)
    (miss : s.cache.lookup x.inHand = .miss) : s.scanTurn x = none := by
  simp only [State.scanTurn, tested, miss, Bool.not_true, Bool.false_and, Bool.false_eq_true, if_false, if_true]

/-- A SWEEP waits for its BLOCK to be queued, and for the record. -/
theorem State.sweepTurn_of_waiting {s : State} {x : SweepRun} (h : x.block ≠ none ∨ s.cache.lookup x.inHand = .miss) :
    s.sweepTurn x = none := by
  rcases h with waits | miss
  · simp only [State.sweepTurn, Option.isSome_iff_ne_none.mpr waits, if_true]
  · simp only [State.sweepTurn, miss]
    split <;> rfl

section
variable {s : State} {e : Executing}

/-- What the cut makes of an executing command stands, when that has no turn of its own. -/
theorem State.flushesTo_executing {n : Nat} {r : Run} (hw : s.powerWarning = false) (hq : s.isQuiesced = false)
    (he : s.link.executing = some e) (plain : ∀ built, e.run = .result built → built.restart = .absent)
    (cut : s.quiesced.cutCommand .quiesced = ({ s.quiesced with freeCount := n } : State).executing e.tag e.code r)
    (waits : (({ s.quiesced with freeCount := n } : State).executing e.tag e.code r).commandTurn = none) :
    s.flushesTo (({ s.quiesced with freeCount := n } : State).executing e.tag e.code r) :=
  State.flushesTo_of_cut hw hq (by rw [he, Option.map_some, Executing.overtake_of_absent plain])
    ((congrArg State.takeWaiting cut).trans (State.takeWaiting_of_executing rfl)) waits rfl rfl rfl rfl

variable (hw : s.powerWarning = false) (hq : s.isQuiesced = false) (he : s.link.executing = some e)
include hw hq he

/-- A command in its result phase is left alone (R167). -/
theorem State.flushesTo_of_result {built : CommandResult} (h : e.run = .result built)
    (absent : built.restart = .absent) : s.flushesTo s.quiesced := by
  have he' : s.quiesced.link.executing = some e := he
  have run : s.quiesced.run = some (.result built) := (State.run_of_executing he').trans (congrArg some h)
  have kept : e.overtake = e := by
    refine Executing.overtake_of_absent fun built' h' => ?_
    rw [h] at h'
    cases h'
    exact absent
  exact State.flushesTo_of_cut hw hq (by rw [he, Option.map_some, kept])
    (by rw [State.cutCommand_of_result run, State.takeWaiting_of_executing he'])
    (State.commandTurn_of_done (by simp only [State.commandDone, run])) rfl rfl rfl rfl

/-- A command already cut is now cut by the warning (R168). -/
theorem State.flushesTo_of_cutting {reason : CutReason} {n : Option Nat} (h : e.run = .cutting reason n) :
    s.flushesTo (s.quiesced.executing e.tag e.code (.cutting .quiesced n)) := by
  have he' : s.quiesced.link.executing = some e := he
  have run : s.quiesced.run = some (.cutting reason n) := (State.run_of_executing he').trans (congrArg some h)
  exact State.flushesTo_executing (n := s.freeCount) hw hq he (by simp [h])
    ((State.cutCommand_of_cutting run).trans (State.setRun_of_executing he' _)) rfl

/-- Of a command that is neither a SWEEP nor a SCAN the operation in progress is awaited (log 19), and with none it ends
(R169): `n` is the count of a FLUSH, and `fields` is how its RESULT carries it. -/
theorem State.flushesTo_of_ended {n : Option Nat} {fields : List Byte} (unbuilt : ∀ built, e.run ≠ .result built)
    (cut : s.quiesced.cutCommand .quiesced =
      if s.port.servesCommand then s.quiesced.setRun (.cutting .quiesced n) else s.quiesced.cutEnd .quiesced n)
    (ends : s.quiesced.cutEnd .quiesced n = s.quiesced.answer .cut 2 fields) :
    (s.port.servesCommand = true → s.flushesTo (s.quiesced.executing e.tag e.code (.cutting .quiesced n))) ∧
    (s.port.servesCommand = false → s.flushesTo (s.quiesced.answered e.tag e.code .cut 2 fields)) := by
  have he' : s.quiesced.link.executing = some e := he
  have absent : ∀ built, e.run = .result built → built.restart = .absent := fun built h => absurd h (unbuilt built)
  refine ⟨fun serves => ?_, fun free => ?_⟩
  · exact State.flushesTo_executing (n := s.freeCount) hw hq he absent
      (cut.trans ((if_pos serves).trans (State.setRun_of_executing he' _))) rfl
  · exact State.flushesTo_executing (n := s.freeCount) hw hq he absent
      (cut.trans ((if_neg (by rw [free]; decide)).trans (ends.trans (State.answer_of_executing he' _ _ _)))) rfl

/-- A SCAN whose read is in progress goes on until it has come (R188). -/
theorem State.flushesTo_of_scan {x : ScanRun} (h : e.run = .scan x) (serves : s.port.servesCommand = true)
    (tested : x.tested = true) (miss : s.cache.lookup x.inHand = .miss) :
    s.flushesTo (s.quiesced.executing e.tag e.code (.scan { x with ending := .cut .quiesced })) := by
  have he' : s.quiesced.link.executing = some e := he
  have run : s.quiesced.run = some (.scan x) := (State.run_of_executing he').trans (congrArg some h)
  refine State.flushesTo_executing (n := s.freeCount) hw hq he (by simp [h])
    ((State.cutCommand_of_scan run).trans ((if_pos serves).trans (State.setRun_of_executing he' _))) ?_
  exact State.scanTurn_of_waiting tested miss

/-- A SWEEP whose BLOCK waits, or whose read is in progress, goes on until it is done (R187). -/
theorem State.flushesTo_of_sweep {x : SweepRun} (h : e.run = .sweep x)
    (goesOn : x.block ≠ none ∨ (s.port.servesCommand = true ∧ s.cache.lookup x.inHand = .miss)) :
    s.flushesTo (s.quiesced.executing e.tag e.code (.sweep { x with ending := .cut .quiesced })) := by
  have he' : s.quiesced.link.executing = some e := he
  have run : s.quiesced.run = some (.sweep x) := (State.run_of_executing he').trans (congrArg some h)
  have going : ¬ (x.block.isNone && !s.quiesced.port.servesCommand) = true := by
    rcases goesOn with waits | ⟨serves, -⟩
    · simp [waits]
    · simp [show s.quiesced.port.servesCommand = true from serves]
  refine State.flushesTo_executing (n := s.freeCount) hw hq he (by simp [h])
    ((State.cutCommand_of_sweep run).trans ((if_neg going).trans (State.setRun_of_executing he' _))) ?_
  exact State.sweepTurn_of_waiting (goesOn.imp_right And.right)

/-- A SCAN with no read in progress ends with its counts (R188, log 10). -/
theorem State.flushesTo_of_scan_ended {x : ScanRun} (h : e.run = .scan x) (free : s.port.servesCommand = false) :
    s.flushesTo ((s.quiesced.drawnFor x.lastVisited).answered e.tag e.code .cut 2
      (scanFields x s.quiesced.freeByte)) := by
  have he' : s.quiesced.link.executing = some e := he
  have run : s.quiesced.run = some (.scan x) := (State.run_of_executing he').trans (congrArg some h)
  refine State.flushesTo_executing hw hq he (by simp [h]) ?_ rfl
  rw [State.cutCommand_of_scan run, if_neg (by rw [show s.quiesced.port.servesCommand = false from free]; decide),
    State.scanEnd_of_cut]
  exact State.answer_of_executing (s := s.quiesced.drawnFor x.lastVisited) he' _ _ _

/-- A SWEEP with neither a BLOCK nor a read in progress ends with its counts (R187, log 10, log 41). -/
theorem State.flushesTo_of_sweep_ended {x : SweepRun} (h : e.run = .sweep x) (idle : x.block = none)
    (free : s.port.servesCommand = false) :
    s.flushesTo ((s.quiesced.drawnFor x.lastVisited).answered e.tag e.code .cut 2
      (sweepFields { x with ending := .cut .quiesced } s.quiesced.freeByte)) := by
  have he' : s.quiesced.link.executing = some e := he
  have run : s.quiesced.run = some (.sweep x) := (State.run_of_executing he').trans (congrArg some h)
  have ends : (x.block.isNone && !s.quiesced.port.servesCommand) = true := by
    simp [idle, show s.quiesced.port.servesCommand = false from free]
  refine State.flushesTo_executing hw hq he (by simp [h]) ?_ rfl
  rw [State.cutCommand_of_sweep run, if_pos ends, State.sweepEnd_of_cut]
  exact State.answer_of_executing (s := s.quiesced.drawnFor x.lastVisited) he' _ _ _

end

end Sys2Proof.Machine
end

section
/-! ## The power-warning input is released (O4) -/

namespace Sys2Proof.Machine

section
variable {s : State}

/-- Without an executing command there is no turn of one. -/
theorem State.commandTurn_of_idle (h : s.link.executing = none) : s.commandTurn = none :=
  State.commandTurn_of_done (by simp only [State.commandDone, State.run, h, Option.map_none])

/-- The flush has not ended while the port is in use or a line is dirty. -/
theorem State.flushed_of_busy (h : s.port.inProgress ≠ none ∨ s.cache.dirtyAccounts ≠ []) : s.flushed = false := by
  rcases h with busy | dirty
  · simp [State.flushed, busy]
  · simp [State.flushed, dirty]

/-- The flush has ended. -/
theorem State.flushed_of_free (free : s.port.inProgress = none) (clean : s.cache.dirtyAccounts = []) :
    s.flushed = true := by
  simp only [State.flushed, free, clean, Option.isNone_none, List.isEmpty_nil, Bool.and_true]

/-- After the release the engine stays QUIESCED until its flush has ended (R147). -/
theorem State.turn_of_flushing (hq : s.isQuiesced = true) (he : s.link.executing = none) (hf : s.flushed = false) :
    s.turn = none := by
  have release : s.releaseTurn = none := by
    simp only [State.releaseTurn, hf, Bool.and_false, Bool.false_eq_true, if_false]
  simp only [State.turn, hq, if_true, State.commandTurn_of_idle he, release]
  rfl

/-- The flush ended, the engine leaves QUIESCED and its RESTART sequence begins (R147). -/
theorem State.turn_of_released (hq : s.isQuiesced = true) (hw : s.powerWarning = false) (he : s.link.executing = none)
    (hf : s.flushed = true) : s.turn = some (({ s with engine := s.before } : State).beginSequence false) := by
  simp only [State.turn, hq, if_true, State.commandTurn_of_idle he, State.releaseTurn, hw, hf, Bool.not_false,
    Bool.and_true]
  rfl

/-- A RESTART sequence whose flush has ended goes on to start-up (R175). -/
theorem State.turn_of_sequence_flush {keepHeld : Bool} (hq : s.isQuiesced = false) (hs : s.sequence = .flush keepHeld)
    (hf : s.flushed = true) : s.turn = some (s.beginStartup keepHeld) := by
  simp only [State.turn, hq, hs, hf, Bool.false_eq_true, if_false, if_true]

/-- During the start-up of a RESTART sequence no unit has a turn (R176). -/
theorem State.turn_of_sequence_startup {keepHeld : Bool} (hq : s.isQuiesced = false)
    (hs : s.sequence = .startup keepHeld) : s.turn = none := by
  simp only [State.turn, hq, hs, Bool.false_eq_true, if_false]

/-- Start-up asks first for the header (R131). -/
theorem State.want_of_sequence_startup {keepHeld : Bool} (hq : s.isQuiesced = false)
    (hs : s.sequence = .startup keepHeld) (hu : s.port.startup = .readingHeader) :
    s.want = some (.op .startupHeaderRead) := by
  simp only [State.want, hq, hs, MemoryPort.startupWant, hu, Bool.false_eq_true, if_false]
  rfl

/-- The state in which the RESTART sequence of a release asks for the header. -/
def State.released (s : State) : State :=
  (({ s with engine := s.before } : State).beginSequence false).beginStartup false

/-- Once the input is released and the flush has ended, the sequence comes to start-up's header read (R147, R175). -/
theorem State.drive_of_released (hw : s.powerWarning = false) (hq : s.isQuiesced = true) (he : s.link.executing = none)
    (free : s.port.inProgress = none) (clean : s.cache.dirtyAccounts = []) (running : s.before ≠ .quiesced) :
    s.drive = s.released.onPort .startupHeaderRead := by
  have flushed := State.flushed_of_free free clean
  have runs : (({ s with engine := s.before } : State).beginSequence false).isQuiesced = false :=
    beq_eq_false_iff_ne.mpr running
  have asks : s.released.want = some (.op .startupHeaderRead) := State.want_of_sequence_startup runs rfl rfl
  have still : s.released.turn = none := State.turn_of_sequence_startup runs rfl
  rw [State.drive_of_two (State.turn_of_released hq hw he flushed) (State.turn_of_sequence_flush runs rfl flushed) still]
  exact State.grant_of_op (s := s.released) free asks

/-- Released with nothing to flush (R147). -/
theorem exec_powerWarningReleased_of_flushed (hw : s.powerWarning = true) (hq : s.isQuiesced = true)
    (he : s.link.executing = none) (free : s.port.inProgress = none) (clean : s.cache.dirtyAccounts = [])
    (running : s.before ≠ .quiesced) :
    exec .powerWarningReleased s = .next
      (({ s with powerWarning := false } : State).released.onPort .startupHeaderRead) := by
  refine (if_pos hw).trans (congrArg Host.Outcome.next ?_)
  exact State.drive_of_released (s := { s with powerWarning := false }) rfl hq he free clean running

/-- Released with an operation in progress (R147). -/
theorem exec_powerWarningReleased_of_busy (hw : s.powerWarning = true) (hq : s.isQuiesced = true)
    (he : s.link.executing = none) (busy : s.port.inProgress ≠ none) :
    exec .powerWarningReleased s = .next { s with powerWarning := false } := by
  have unwarned : ({ s with powerWarning := false } : State).turn = none :=
    State.turn_of_flushing hq he (State.flushed_of_busy (Or.inl busy))
  refine (if_pos hw).trans (congrArg Host.Outcome.next ((State.drive_of_none unwarned).trans ?_))
  exact State.grant_of_quiesced_still (s := { s with powerWarning := false }) hq (Or.inl busy)

/-- Released with a line still dirty (R147). -/
theorem exec_powerWarningReleased_of_dirty {a line : Nat} {rest : List Nat} (hw : s.powerWarning = true)
    (hq : s.isQuiesced = true) (he : s.link.executing = none) (free : s.port.inProgress = none)
    (dirty : s.cache.dirtyAccounts = a :: rest) (found : s.cache.find a = some line) :
    exec .powerWarningReleased s = .next
      (({ s with powerWarning := false } : State).onPort (.writeBack .powerFlush line a)) := by
  have unclean : s.cache.dirtyAccounts ≠ [] := by rw [dirty]; exact List.cons_ne_nil _ _
  have unwarned : ({ s with powerWarning := false } : State).turn = none :=
    State.turn_of_flushing hq he (State.flushed_of_busy (Or.inr unclean))
  refine (if_pos hw).trans (congrArg Host.Outcome.next ((State.drive_of_none unwarned).trans ?_))
  exact State.grant_of_quiesced_flush (s := { s with powerWarning := false }) hq free dirty found

/-- A request withdrawn from a Notice Builder, in the form of the statement (R176). -/
theorem State.withdrawPrefetches_eq (s : State) :
    s.withdrawPrefetches =
      { s with ports := s.ports.map fun p =>
          { p with prefetch := if p.prefetch.isWaiting then .none else p.prefetch } } := by
  refine congrArg (fun g => ({ s with ports := s.ports.map g } : State)) (funext fun p => ?_)
  cases hp : p.prefetch <;> cases p <;> cases hp <;> rfl

end

end Sys2Proof.Machine
end

section
/-! ## The warning and its release, whole (O4) -/

namespace Sys2Proof.Machine

/-! ### A round cut short at its window's close (R20, log 13) -/

section
variable {s : State} {f : Feeder} {r : Round}

/-- A port whose round is cut short opens no further window (R20). -/
theorem State.setPort_nextWindow_cut {p : FeederPort} (w : Window) (h : p.restartDue = some .cut) :
    (s.setPort f p).nextWindow f w = s.setPort f p.cutRound := by
  simp only [State.nextWindow, State.setPort_self, h, State.modifyPort_setPort, ite_self]

/-- The round number of a round cut short is used up (R2). -/
theorem FeederPort.cutRound_of_round {p : FeederPort} (h : p.round = some r) :
    p.cutRound = { p with window := .shut, round := none, sending := [], driving := false, restartDue := none,
                          number := p.number + 1 } := by
  simp only [FeederPort.cutRound, h, Option.isSome_some, if_true]

/-- A QUIET window in which the warning came does not complete its round (log 13). -/
theorem State.closeQuiet_of_cut {heard : List LineChar} (due : s.ports[f].restartDue = some .cut)
    (hround : s.ports[f].round = some r) (hw : s.ports[f].window = .quiet) :
    s.closeQuiet f heard = s.setPort f s.ports[f].cutRound := by
  have cut := State.setPort_nextWindow_cut (s := s) (f := f) .shut due
  rw [State.setPort_same] at cut
  simp only [State.closeQuiet, hw, hround, due, Option.isSome_some, Bool.or_true, if_true, cut]

/-- With nothing heard a meter slot has no report (R8). -/
theorem slotOutcome_of_silence (t : TableSet) (f : Feeder) (j : Nat) :
    slotOutcome t f j [] = (if (t.slotParticipant f.val j).isSome then .silent else .vacant, none) := rfl

/-- A round cut short leaves nothing of its last slot's outcome (R2). -/
theorem FeederPort.cutRound_slotJudged {p : FeederPort} {o : SlotOutcome} (h : p.round = some r) :
    (p.slotJudged r o).cutRound = p.cutRound := by
  simp only [FeederPort.cutRound, FeederPort.slotJudged, h, Option.isSome_some]

/-- A silent meter slot in which the warning came is the last of its round (R20). -/
theorem State.closeSlot_of_cut {j : Nat} (due : s.ports[f].restartDue = some .cut) (hround : s.ports[f].round = some r)
    (hw : s.ports[f].window = .slot j) (still : (s.setPort f s.ports[f].cutRound).blocked) :
    s.closeSlot f [] = s.setPort f s.ports[f].cutRound := by
  obtain ⟨noTurn, busy⟩ := still
  obtain ⟨o, ho⟩ := Option.ne_none_iff_exists'.mp busy
  rw [State.closeSlot_of_none hw hround (slotOutcome_of_silence s.active f j),
    State.setPort_nextWindow_cut (p := s.ports[f].slotJudged r _) _ due, FeederPort.cutRound_slotJudged hround,
    State.drive_of_none noTurn, State.grant_of_busy ho]

end

/-- The Activation Unit of an abandoned sequence of checks (R63, R68). -/
theorem Activation.abandon_eq (a : Activation) :
    a.abandon = { a with phase := if a.phase = .awaitQuiet ∨ a.phase = .checking then .awaitBoundary else a.phase,
                         toCheck := [] } := by
  simp only [Activation.abandon, Bool.or_eq_true, decide_eq_true_eq]

/-- The state in which the RESTART sequence of a release asks for the header, part by part. -/
theorem State.released_eq (s : State) :
    s.released =
      { s with
        engine := s.before, work := none, posting := s.posting.abandon
        activation := { s.activation with
          phase := if s.activation.phase = .awaitQuiet ∨ s.activation.phase = .checking then .awaitBoundary
                   else s.activation.phase, toCheck := [] }
        books := [], live := Vector.replicate 192 .initial
        ports := s.ports.map fun p =>
          { p with queue := [], enrolment := .free, prefetch := if p.prefetch.isWaiting then .none else p.prefetch }
        attention := { items := [], overflow := false }, cache := .empty, sequence := .startup false
        port := { s.port with state := .notReady, startup := .readingHeader } } := by
  simp only [State.released, State.beginStartup, State.withdrawPrefetches_eq, State.beginSequence, Vector.map_map,
    Activation.abandon_eq]
  rfl

/-- A run that is not in its result phase has built no RESULT. -/
theorem Run.ne_result_of_plain {r : Run} (h : r.plain = true) (built : CommandResult) : r ≠ .result built := by
  rintro rfl
  cases h

section
variable {s : State} {e : Executing} (hw : s.powerWarning = false) (hq : s.isQuiesced = false)
  (he : s.link.executing = some e)
include hw hq he

/-- Any command but a SWEEP, a SCAN or a FLUSH: its operation is awaited, or it ends without fields (R169). -/
theorem State.flushesTo_of_plain (h : e.run.plain = true) :
    (s.port.servesCommand = true → s.flushesTo (s.quiesced.executing e.tag e.code (.cutting .quiesced none))) ∧
    (s.port.servesCommand = false → s.flushesTo (s.quiesced.answered e.tag e.code .cut 2 [])) :=
  State.flushesTo_of_ended hw hq he (Run.ne_result_of_plain h)
    (State.cutCommand_of_plain (s := s.quiesced) (State.run_of_executing he) h _) rfl

/-- A FLUSH: its write-back is awaited, or it ends with its count (R144). -/
theorem State.flushesTo_of_flush {rest : List Nat} {n : Nat} (h : e.run = .flush rest n) :
    (s.port.servesCommand = true → s.flushesTo (s.quiesced.executing e.tag e.code (.cutting .quiesced (some n)))) ∧
    (s.port.servesCommand = false → s.flushesTo (s.quiesced.answered e.tag e.code .cut 2 (be 1 n))) :=
  State.flushesTo_of_ended hw hq he (by simp [h])
    (State.cutCommand_of_flush (s := s.quiesced) ((State.run_of_executing he).trans (congrArg some h)) _) rfl

/-- A SCAN without a read in progress: the last account is its own, or a free byte (log 10). -/
theorem State.flushesTo_of_scan_counts {x : ScanRun} (h : e.run = .scan x) (free : s.port.servesCommand = false) :
    (∀ last, x.lastVisited = some last →
      s.flushesTo (s.quiesced.answered e.tag e.code .cut 2
        (be 1 x.visited ++ be 1 x.suspended ++ be 1 x.damaged ++ be 1 last))) ∧
    (x.lastVisited = none → ∃ byte : Byte,
      s.flushesTo (({ s.quiesced with freeCount := s.freeCount + 1 } : State).answered e.tag e.code .cut 2
        (be 1 x.visited ++ be 1 x.suspended ++ be 1 x.damaged ++ [byte]))) := by
  have ended := State.flushesTo_of_scan_ended hw hq he h free
  simp only [scanFields] at ended
  refine ⟨fun last visited => ?_, fun unvisited => ⟨s.quiesced.freeByte, ?_⟩⟩
  · rw [visited] at ended
    exact ended
  · rw [unvisited] at ended
    exact ended

/-- A SWEEP with neither a BLOCK nor a read in progress, likewise; its stopped indicator is clear (log 41). -/
theorem State.flushesTo_of_sweep_counts {x : SweepRun} (h : e.run = .sweep x) (idle : x.block = none)
    (free : s.port.servesCommand = false) :
    (∀ last, x.lastVisited = some last →
      s.flushesTo (s.quiesced.answered e.tag e.code .cut 2
        (be 1 x.visited ++ be 1 x.blocks ++ be 1 x.damaged ++ be 1 last ++ [0]))) ∧
    (x.lastVisited = none → ∃ byte : Byte,
      s.flushesTo (({ s.quiesced with freeCount := s.freeCount + 1 } : State).answered e.tag e.code .cut 2
        (be 1 x.visited ++ be 1 x.blocks ++ be 1 x.damaged ++ [byte, 0]))) := by
  have ended := State.flushesTo_of_sweep_ended hw hq he h idle free
  simp only [sweepFields] at ended
  refine ⟨fun last visited => ?_, fun unvisited => ⟨s.quiesced.freeByte, ?_⟩⟩
  · rw [visited] at ended
    exact ended
  · rw [unvisited, List.append_assoc] at ended
    exact ended

end

/-- Settles O4: the warning enters QUIESCED, cuts the executing command by the kind of its run and grants the flush; the
release takes its turns only once the flush has ended. -/
theorem powerWarningQuiescesAndItsReleaseRestarts : Obligations.PowerWarningQuiescesAndItsReleaseRestarts := by
  unfold Obligations.PowerWarningQuiescesAndItsReleaseRestarts
  refine ⟨fun s hw hq => ⟨?idle, ?waiting, fun e he => ⟨?result, ?cutting, fun serves => ⟨?_, ?_, ?_, ?_⟩, ?block,
    fun free => ⟨?_, ?_, ?_, ?_⟩⟩⟩, ?released, ?releasedBusy, ?cut, ?asserted, ?unasserted⟩
  case idle => exact State.flushesTo_of_idle hw hq
  case waiting => exact fun tag c rest he held h => State.flushesTo_of_waiting hw hq he held h
  case result => exact fun built h absent => State.flushesTo_of_result hw hq he h absent
  case cutting => exact fun reason n h => State.flushesTo_of_cutting hw hq he h
  case block => exact fun x body h block =>
    State.flushesTo_of_sweep hw hq he h (.inl (by rw [block]; exact Option.some_ne_none _))
  case releasedBusy => exact fun s hw hq he busy => exec_powerWarningReleased_of_busy hw hq he busy
  case asserted => exact fun s hw => if_pos hw
  case unasserted => exact fun s hw => if_neg (by rw [hw]; decide)
  case released =>
    intro s hw hq he free
    refine ⟨fun clean running => ?_, fun a rest line dirty found =>
      exec_powerWarningReleased_of_dirty hw hq he free dirty found⟩
    rw [exec_powerWarningReleased_of_flushed hw hq he free clean running, State.released_eq]
    rfl
  case cut =>
    intro s f r due hround t
    have ht : t = s.setPort f s.ports[f].cutRound := by rw [FeederPort.cutRound_of_round hround]
    refine ⟨fun heard hw => ?_, fun j hw still => ?_⟩
    · exact congrArg Host.Outcome.next ((State.closeQuiet_of_cut due hround hw).trans ht.symm)
    · exact congrArg Host.Outcome.next ((State.closeSlot_of_cut due hround hw (ht ▸ still)).trans ht.symm)
  · exact fun plain => (State.flushesTo_of_plain hw hq he plain).1 serves
  · exact fun rest n h => (State.flushesTo_of_flush hw hq he h).1 serves
  · exact fun x h tested miss => State.flushesTo_of_scan hw hq he h serves tested miss
  · exact fun x h _ miss => State.flushesTo_of_sweep hw hq he h (.inr ⟨serves, miss⟩)
  · exact fun plain => (State.flushesTo_of_plain hw hq he plain).2 free
  · exact fun rest n h => (State.flushesTo_of_flush hw hq he h).2 free
  · exact fun x h => State.flushesTo_of_scan_counts hw hq he h free
  · exact fun x h idle => State.flushesTo_of_sweep_counts hw hq he h idle free

end Sys2Proof.Machine
end

section
/-! ## The units one by one: their turns and their requests -/

namespace Sys2Proof.Machine

/-- The books that are not final, as the statements write them. -/
theorem Book.open_eq : (fun x : Book => x.state != .posted && x.state != .discarded) = fun x => !x.isFinal := by
  funext x
  exact (Bool.not_or _ _).symm

/-- Where every unit waits and an operation holds the port, an event has no follow-on work. -/
theorem State.drive_of_blocked {s : State} (h : s.blocked) : s.drive = s := by
  obtain ⟨still, busy⟩ := h
  obtain ⟨o, ho⟩ := Option.ne_none_iff_exists'.1 busy
  rw [State.drive_of_none still, State.grant_of_busy ho]

section
variable {s : State}

/-- Without a work record the Settlement Unit has no turn. -/
theorem State.settleTurn_of_noWork (h : s.work = none) : s.settleTurn = none := by
  simp only [State.settleTurn, h]

/-- An IDLE Posting Unit has no turn. -/
theorem State.postTurn_of_idle (h : s.posting.phase = .idle) : s.postTurn = none := by
  simp only [State.postTurn, h]

/-- An IDLE Posting Unit asks for nothing. -/
theorem State.postWant_of_idle (h : s.posting.phase = .idle) : s.postWant = none := by
  simp only [State.postWant, h]

/-- Only an activation that is CHECKING has a turn of the checks. -/
theorem State.checkTurn_of_notChecking (h : s.activation.phase ≠ .checking) : s.checkTurn = none := by
  simp only [State.checkTurn, bne_iff_ne, ne_eq, h, not_false_eq_true, if_true]

/-- With nothing to mark, marking has no turn. -/
theorem State.markTurn_of_nil (h : s.activation.marking = []) : s.markTurn = none := by
  simp only [State.markTurn, h, ite_self]

/-- An activation neither CHECKING nor marking asks for nothing. -/
theorem State.activationWant_of_none (h : s.activation.phase ≠ .checking) (hm : s.activation.marking = []) :
    s.activationWant = none := by
  simp only [State.activationWant, h, hm, if_false, ite_self]

/-- The oldest open book keeps every book out of SETTLING unless it is WAITING itself (R80, R81). -/
theorem State.admissible_of_oldest {b : Book} (h : s.oldestOpen = some b) (hb : b.state ≠ .waiting) :
    s.admissible = none := by
  simp [State.admissible, h, hb]

/-- Only an activation in AWAIT_QUIET has a commit moment (R62). -/
theorem State.commitMoment_of_phase (h : s.activation.phase ≠ .awaitQuiet) : s.commitMoment = false := by
  simp [State.commitMoment, h]

/-- A book that is not final puts the commit moment off (R62). -/
theorem State.commitMoment_of_open {b : Book} (h : b ∈ s.books) (open_ : b.isFinal = false) : s.commitMoment = false := by
  have notAll : s.books.all Book.isFinal = false := List.all_eq_false.2 ⟨b, h, by simp [open_]⟩
  simp [State.commitMoment, notAll]

end

/-- Every unit rests but the Settlement Unit, the Activation Unit and the Book List's test: these may have turns to take
and records to ask for. The port is free, and no commit moment has come. -/
structure State.othersRest (s : State) : Prop where
  notQuiesced : s.isQuiesced = false
  noSequence : s.sequence = .none
  noPosting : s.posting.phase = .idle
  freePort : s.port.inProgress = none
  noStartup : s.port.startup = .idle
  commandDone : s.commandDone = true
  noCommit : s.commitMoment = false
  noNotice : ∀ f : Feeder, s.ports[f].prefetch.isWaiting = false

/-- At rest with no command in its execution phase, every other unit rests. -/
theorem State.resting.othersRest {s : State} (h : s.resting) (done : s.commandDone = true) : s.othersRest :=
  have units := h.unitsRest
  ⟨units.notQuiesced, units.noSequence, units.noPosting, h.freePort, units.noStartup, done,
    State.commitMoment_of_phase units.notAwaiting, h.noNotice⟩

namespace State.othersRest

variable {s : State}

/-- What the other units go by: the engine state, the sequence, the posting, the port, the link and the prefetches. -/
theorem congr {t : State} (h : s.othersRest) (engine : t.engine = s.engine) (sequence : t.sequence = s.sequence)
    (posting : t.posting = s.posting) (port : t.port = s.port) (link : t.link = s.link)
    (ports : ∀ f : Feeder, t.ports[f].prefetch = s.ports[f].prefetch) (noCommit : t.commitMoment = false) :
    t.othersRest := by
  refine ⟨?_, sequence.trans h.noSequence, posting ▸ h.noPosting, port ▸ h.freePort, port ▸ h.noStartup, ?_, noCommit,
    fun f => ports f ▸ h.noNotice f⟩
  · rw [State.isQuiesced, engine]
    exact h.notQuiesced
  · rw [State.commandDone, State.run, link]
    exact h.commandDone

/-- Only the Settlement Unit, the checks, the marking and the Book List's test can have a turn. -/
theorem turn_eq (h : s.othersRest) :
    s.turn = (s.settleTurn <|> s.checkTurn <|> s.markTurn <|> s.admissible.map s.enterSettling) := by
  have command : s.commandOrBookTurn = s.admissible.map s.enterSettling := by
    simp only [State.commandOrBookTurn, State.commandTurn_of_done h.commandDone]
    rcases s.admissible with _ | b <;> rfl
  have commit : s.commitTurn = none := by simp [State.commitTurn, h.noCommit]
  simp only [State.turn, h.notQuiesced, h.noSequence, State.postTurn_of_idle h.noPosting, command, commit,
    State.noticeTurn_of_none h.noNotice, Bool.false_eq_true, if_false]
  rcases s.settleTurn with _ | _ <;> rcases s.checkTurn with _ | _ <;> rcases s.markTurn with _ | _ <;>
    rcases s.admissible with _ | _ <;> rfl

/-- Only the Settlement Unit and the Activation Unit can ask for the port. -/
theorem want_eq (h : s.othersRest) :
    s.want = if s.memoryReady then s.settleWant.map (.read .settlement) <|> s.activationWant.map (.read .activation)
      else none := by
  have startup : s.port.startupWant = none := by simp only [MemoryPort.startupWant, h.noStartup]
  simp only [State.want, h.notQuiesced, h.noSequence, startup, State.unitWant, State.postWant_of_idle h.noPosting,
    State.commandWant_of_done h.commandDone, State.noticeWant_of_none h.noNotice, Bool.false_eq_true, if_false]
  cases s.memoryReady
  · rfl
  · rcases s.settleWant with _ | _ <;> rcases s.activationWant with _ | _ <;> rfl

/-- With nothing to settle, to check, to mark or to take in there is no turn. -/
theorem turn_of_none (h : s.othersRest) (hw : s.work = none) (hc : s.activation.phase ≠ .checking)
    (hm : s.activation.marking = []) (hb : s.admissible = none) : s.turn = none := by
  rw [h.turn_eq, State.settleTurn_of_noWork hw, State.checkTurn_of_notChecking hc, State.markTurn_of_nil hm, hb]
  rfl

/-- With nothing to settle, to check or to mark nobody asks for the port. -/
theorem want_of_none (h : s.othersRest) (hw : s.work = none) (hc : s.activation.phase ≠ .checking)
    (hm : s.activation.marking = []) : s.want = none := by
  rw [h.want_eq, State.settleWant, hw, State.activationWant_of_none hc hm]
  exact ite_self _

/-- With nothing to settle, to check, to mark or to take in an event has no follow-on work. -/
theorem drive_of_none (h : s.othersRest) (hw : s.work = none) (hc : s.activation.phase ≠ .checking)
    (hm : s.activation.marking = []) (hb : s.admissible = none) : s.drive = s := by
  rw [State.drive_of_none (h.turn_of_none hw hc hm hb), State.grant_of_none (h.want_of_none hw hc hm)]

/-- The Book List admits a book when nothing is to be settled, checked or marked (R81). -/
theorem turn_of_admissible {b : Book} (h : s.othersRest) (hw : s.work = none) (hc : s.activation.phase ≠ .checking)
    (hm : s.activation.marking = []) (hb : s.admissible = some b) : s.turn = some (s.enterSettling b) := by
  rw [h.turn_eq, State.settleTurn_of_noWork hw, State.checkTurn_of_notChecking hc, State.markTurn_of_nil hm, hb]
  rfl

/-- The Settlement Unit's read is granted before any other (R142). -/
theorem grant_of_settlement {a line : Nat} (h : s.othersRest) (ready : s.port.state = .ready) (hw : s.settleWant = some a)
    (hv : s.cache.victim none = some line) :
    s.grant = ({ s with cache := s.cache.drop line } : State).onPort
      (.fill .settlement a line (dirtyRecord (s.cache.line line))) := by
  have want : s.want = some (.read .settlement a) := by
    rw [h.want_eq, State.memoryReady, ready, hw]
    rfl
  rw [State.grant_of_read h.freePort want, State.beginFill_of_victim hv]

/-- Without a book to settle, the Activation Unit's read is granted. -/
theorem grant_of_activation {a line : Nat} (h : s.othersRest) (ready : s.port.state = .ready) (hw : s.work = none)
    (ha : s.activationWant = some a) (hv : s.cache.victim none = some line) :
    s.grant = ({ s with cache := s.cache.drop line } : State).onPort
      (.fill .activation a line (dirtyRecord (s.cache.line line))) := by
  have want : s.want = some (.read .activation a) := by
    rw [h.want_eq, State.memoryReady, ready, State.settleWant, hw, ha]
    rfl
  rw [State.grant_of_read h.freePort want, State.beginFill_of_victim hv]

end State.othersRest

end Sys2Proof.Machine
end

section
/-! ## REBASE (O19) -/

namespace Sys2Proof.Machine

/-- At rest a command that takes two turns and is then out of its execution phase is done with the event. -/
theorem State.drive_of_two_commands {s t u : State} (hs : s.resting) (ht : t.resting) (hu : u.resting)
    (first : s.commandTurn = some t) (second : t.commandTurn = some u) (done : u.commandDone = true) : s.drive = u := by
  rw [State.drive_of_two ((State.turn_of_resting hs).trans first) ((State.turn_of_resting ht).trans second)
    ((State.turn_of_resting hu).trans (State.commandTurn_of_done done)),
    State.grant_of_none ((State.want_of_resting hu).trans (State.commandWant_of_done done))]

/-- At rest no book is SETTLING or POSTING. -/
theorem State.resting.notBusy {s : State} (h : s.resting) : s.bookBusy = false := by
  obtain ⟨_, _, _, _, _, _, _, _, _, books, _⟩ := h
  have absent {st : BookState} (hne : ∀ b ∈ s.books, b.state ≠ st) : s.hasBook st = false := by
    simpa [State.hasBook] using hne
  rw [State.bookBusy, absent fun b hb => (books b hb).2.1, absent fun b hb => (books b hb).2.2]
  rfl

/-- The flag set in a line just used: the line's record alone changes. -/
theorem Cache.setRebase_touch {c : Cache} {line t : Nat} {r : AccountRecord} {dirty locked : Bool}
    (h : c.line line = some { tag := t, record := some r, dirty := dirty, locked := locked }) :
    (c.touch line).setRebase line =
      (c.set line (some { tag := t, record := some { r with rebasePending := true }, dirty := true,
                          locked := locked })).touch line := by
  simp only [Cache.setRebase, Cache.line_touch, h]
  rfl

section
variable {s : State} {i : Nat}

/-- A line that holds a good record answers with it. -/
theorem Cache.lookup_of_line {c : Cache} {account line t : Nat} {r : AccountRecord} {dirty locked : Bool}
    (hf : c.find account = some line)
    (hl : c.line line = some { tag := t, record := some r, dirty := dirty, locked := locked }) :
    c.lookup account = .good line r := by
  simp only [Cache.lookup, hf, hl]

/-- REBASE on a good line (R38, step 7). -/
theorem State.rebaseTurn_of_good {line : Nat} {r : AccountRecord} (h : s.cache.lookup i = .good line r) :
    s.rebaseTurn i =
      some (({ s with cache := (s.cache.touch line).setRebase line } : State).answer .done
        (if r.rebasePending then 2 else 1) []) := by
  simp only [State.rebaseTurn, h]
  rfl

/-- REBASE on a DAMAGED line (R38, step 6). -/
theorem State.rebaseTurn_of_damaged {line : Nat} (h : s.cache.lookup i = .damaged line) :
    s.rebaseTurn i = some (({ s with cache := s.cache.touch line } : State).refuse damagedCode) := by
  simp only [State.rebaseTurn, h]
  rfl

/-- REBASE at rest: with no book SETTLING or POSTING its read follows in the same event (R38). -/
theorem State.drive_of_rebase {tag code : Byte} {t : State} (rest : s.resting) (rest' : t.resting)
    (done : t.commandDone = true) (read : (s.executing tag code (.rebaseRead i)).rebaseTurn i = some t) :
    (s.executing tag code (.rebaseWait i)).drive = t := by
  have free : (s.executing tag code (.rebaseWait i)).bookBusy = false := rest.notBusy
  have waits : (s.executing tag code (.rebaseWait i)).commandTurn = some (s.executing tag code (.rebaseRead i)) := by
    change (if (s.executing tag code (.rebaseWait i)).bookBusy then none else some _) = _
    rw [free]
    rfl
  exact State.drive_of_two_commands (s := s.executing tag code (.rebaseWait i))
    (t := s.executing tag code (.rebaseRead i)) rest rest rest' waits read done

end

/-- Settles O19: the two refusals of the start, then the two answers of the read, or the wait for the books. -/
theorem rebaseSetsTheFlagInTheCachedRecord : Obligations.RebaseSetsTheFlagInTheCachedRecord := by
  intro s tag i h hi
  have start := exec_accepts h (c := .rebase i) (decide_eq_true hi) tag
  have occupied (hv : (s.active.entry i).kind ≠ .vacant) : nonVacant (s.active.entry i) = true := bne_iff_ne.2 hv
  have goes (hv : (s.active.entry i).kind ≠ .vacant) (hm : s.port.state = .ready) :
      exec (.rebase tag i) s = .next (s.executing tag 0x18 (.rebaseWait i)).drive := by
    refine start.trans (congrArg Host.Outcome.next ?_)
    simp only [State.startCommand, State.startRebase]
    rw [if_neg (by simp [occupied hv]), if_neg (by simp [State.memoryReady, hm])]
    rfl
  refine ⟨fun hv => ?vacant, fun hv hm => ?notReady, fun hv hm rest => ⟨fun line r locked dirty hf hl => ?good,
    fun line hl => ?damaged⟩, fun hv hm _ waits => ?waits⟩
  case vacant =>
    refine start.trans (congrArg Host.Outcome.next ?_)
    simp only [State.startCommand, State.startRebase]
    rw [if_pos (by simp [nonVacant, hv])]
    rfl
  case notReady =>
    refine start.trans (congrArg Host.Outcome.next ?_)
    simp only [State.startCommand, State.startRebase]
    rw [if_neg (by simp [occupied hv]), if_pos (by simp [State.memoryReady, hm])]
    rfl
  case good =>
    rw [goes hv hm, ← Cache.setRebase_touch hl]
    exact congrArg Host.Outcome.next (State.drive_of_rebase rest rest rfl
      (State.rebaseTurn_of_good (Cache.lookup_of_line hf hl)))
  case damaged =>
    rw [goes hv hm]
    exact congrArg Host.Outcome.next (State.drive_of_rebase rest rest rfl (State.rebaseTurn_of_damaged hl))
  case waits =>
    rw [goes hv hm, State.drive_of_blocked waits]

end Sys2Proof.Machine
end

section
/-! ## The end of a collection (O44, O45) -/

namespace Sys2Proof.Machine

/-! ### Absence counted (R31) -/

/-- The absence run of an index with one more book counted (R31). -/
def State.absenceRun (s : State) (i : Nat) : Nat := min 255 ((s.liveOf i).absence + 1)

/-- The live-state records with an absence counted for each index of a list. -/
def State.liveAbsent (s : State) (l : List Nat) : Vector LiveState 192 :=
  l.foldl (fun v i => v.setIfInBounds i { s.liveOf i with absence := s.absenceRun i }) s.live

/-- The records of the list's indices have their run grown by one, the others stay. -/
theorem State.liveAbsent_getElem (s : State) (l : List Nat) (i : Fin 192) :
    (s.liveAbsent l)[i] = if i.val ∈ l then { s.live[i] with absence := s.absenceRun i } else s.live[i] := by
  have general (v : Vector LiveState 192) :
      (l.foldl (fun v k => v.setIfInBounds k { s.liveOf k with absence := s.absenceRun k }) v)[i] =
        if i.val ∈ l then { s.live[i] with absence := s.absenceRun i } else v[i] := by
    induction l generalizing v with
    | nil => simp
    | cons k rest ih =>
      rw [List.foldl_cons, ih]
      by_cases later : i.val ∈ rest
      · simp only [later, List.mem_cons, or_true, if_true]
      · by_cases here : i.val = k
        · subst here
          simp [later, State.liveOf_fin]
        · simp [later, here, Ne.symm here]
  exact general s.live

theorem State.liveAbsent_eq (s : State) (l : List Nat) :
    s.liveAbsent l =
      Vector.ofFn fun i : Fin 192 =>
        if i.val ∈ l then { s.live[i] with absence := s.absenceRun i } else s.live[i] :=
  Vector.ext fun k hk => by
    rw [Vector.getElem_ofFn]
    exact State.liveAbsent_getElem s l ⟨k, hk⟩

/-- The items raised for the indices of a list: ABSENT from the third book on (R31). -/
def State.absentItems (s : State) (l : List Nat) : AttentionList :=
  ((l.filter fun i => 3 ≤ s.absenceRun i).map fun i => Attention.absent i (s.absenceRun i)).foldl
    AttentionList.raise s.attention

/-- One absence counted (R31). -/
theorem State.countAbsence_eq (s : State) (i : Nat) :
    s.countAbsence i = { s with live := s.liveAbsent [i], attention := s.absentItems [i] } := by
  have raised : s.countAbsence i =
      if 3 ≤ s.absenceRun i then
        (s.setLive i { s.liveOf i with absence := s.absenceRun i }).raise (.absent i (s.absenceRun i))
      else s.setLive i { s.liveOf i with absence := s.absenceRun i } := rfl
  rw [raised]
  by_cases h : 3 ≤ s.absenceRun i
  · simp only [h, if_true, State.absentItems, List.filter_cons, decide_true, List.filter_nil, List.map_cons, List.map_nil,
      List.foldl_cons, List.foldl_nil]
    rfl
  · simp only [h, if_false, State.absentItems, List.filter_cons, decide_false, Bool.false_eq_true, List.filter_nil,
      List.map_nil, List.foldl_nil]
    rfl

/-- An absence counted for one index leaves the records of the others. -/
theorem State.countAbsence_liveOf (s : State) {i k : Nat} (h : k ≠ i) : (s.countAbsence i).liveOf k = s.liveOf k := by
  rw [State.countAbsence_eq]
  simp [State.liveOf, State.liveAbsent, Ne.symm h]

/-- Absences counted for different indices do not meet: each starts from the record as it stood before them all. -/
theorem State.foldl_countAbsence (s : State) (l : List Nat) (nodup : l.Nodup) :
    l.foldl State.countAbsence s = { s with live := s.liveAbsent l, attention := s.absentItems l } := by
  induction l generalizing s with
  | nil => rfl
  | cons i rest ih =>
    obtain ⟨fresh, apart⟩ := List.nodup_cons.1 nodup
    have record (k : Nat) (hk : k ∈ rest) : (s.countAbsence i).liveOf k = s.liveOf k :=
      s.countAbsence_liveOf fun e => fresh (e ▸ hk)
    have run (k : Nat) (hk : k ∈ rest) : (s.countAbsence i).absenceRun k = s.absenceRun k := by
      rw [State.absenceRun, record k hk, State.absenceRun]
    have live : (s.countAbsence i).liveAbsent rest = s.liveAbsent (i :: rest) := by
      have first : (s.countAbsence i).live = s.liveAbsent [i] := by rw [State.countAbsence_eq]
      rw [State.liveAbsent, first]
      exact List.foldl_ext _ _ _ fun v k hk => by rw [record k hk, run k hk]
    have items : (s.countAbsence i).absentItems rest = s.absentItems (i :: rest) := by
      have raised : (s.countAbsence i).attention = s.absentItems [i] := by rw [State.countAbsence_eq]
      have filtered : (rest.filter fun k => 3 ≤ (s.countAbsence i).absenceRun k) =
          rest.filter fun k => 3 ≤ s.absenceRun k := List.filter_congr fun k hk => by rw [run k hk]
      have mapped : ((rest.filter fun k => 3 ≤ s.absenceRun k).map fun k =>
            Attention.absent k ((s.countAbsence i).absenceRun k)) =
          (rest.filter fun k => 3 ≤ s.absenceRun k).map fun k => Attention.absent k (s.absenceRun k) :=
        List.map_congr_left fun k hk => by rw [run k (List.mem_filter.1 hk).1]
      unfold State.absentItems at raised ⊢
      rw [filtered, mapped, raised, ← List.foldl_append, ← List.map_append, ← List.filter_append]
      rfl
    rw [List.foldl_cons, ih (s.countAbsence i) apart, live, items, State.countAbsence_eq]

/-! ### The book and its members (R31, R79) -/

/-- The members of a book whose snapshot is missing. -/
def State.missingOf (s : State) (b : Book) : List Nat := b.expected.filter fun i => (s.liveOf i).taken.isNone

/-- The snapshot set of a book (R31). -/
def State.membersOf (s : State) (b : Book) : List Member :=
  b.expected.map fun i => { index := i, snapshot := (s.liveOf i).taken }

/-- A book record once the collection of `b` has handed it its snapshot set and counts (R31, R79). -/
def State.collectedAs (s : State) (b x : Book) : Book :=
  { x with
    state := .waiting, members := s.membersOf b, missing := (s.missingOf b).length
    counterFaults := (b.expected.filter fun i => ((s.liveOf i).taken.map Snapshot.counterFault).getD false).length }

/-- The engine after the end of the collection of `b`, whose record goes on as `f` says (R31, R79). -/
def State.collectionEnded (s : State) (b : Book) (f : Book → Book) : State :=
  { s with
    books := s.books.map fun x => if x.start = b.start ∧ x.state = .collecting then f (s.collectedAs b x) else x
    live := s.liveAbsent (s.missingOf b)
    attention := s.absentItems (s.missingOf b) }

/-- The live-state records at a collection's end, index by index. -/
theorem State.collectionEnded_eq (s : State) (b : Book) (f : Book → Book) :
    s.collectionEnded b f =
      { s with
        books := s.books.map fun x => if x.start = b.start ∧ x.state = .collecting then f (s.collectedAs b x) else x
        live := Vector.ofFn fun i : Fin 192 =>
          if i.val ∈ s.missingOf b then { s.live[i] with absence := s.absenceRun i } else s.live[i]
        attention := s.absentItems (s.missingOf b) } := by
  rw [State.collectionEnded, State.liveAbsent_eq]

theorem State.collected_membersOf (s : State) (b x : Book) : x.collected (s.membersOf b) = s.collectedAs b x := by
  have missing : ((s.membersOf b).filter fun m => m.snapshot.isNone).length = (s.missingOf b).length := by
    rw [State.membersOf, List.filter_map, List.length_map]
    rfl
  have faults : ((s.membersOf b).filter hasFault).length =
      (b.expected.filter fun i => ((s.liveOf i).taken.map Snapshot.counterFault).getD false).length := by
    have fault : (hasFault ∘ fun i => ({ index := i, snapshot := (s.liveOf i).taken } : Member)) =
        fun i => ((s.liveOf i).taken.map Snapshot.counterFault).getD false := by
      funext i
      simp only [Function.comp, hasFault]
      cases (s.liveOf i).taken <;> rfl
    rw [State.membersOf, List.filter_map, List.length_map, fault]
  rw [Book.collected, missing, faults]
  rfl

/-- What the end of a collection leaves (R31, R79). -/
theorem State.endCollection_eq {s : State} {b : Book} (hb : s.collecting = some b) (hq : s.isQuiesced = false)
    (nodup : b.expected.Nodup) :
    s.endCollection = s.collectionEnded b fun x => x := by
  have counted : ((s.membersOf b).filter fun m => m.snapshot.isNone).foldl (fun s m => s.countAbsence m.index) s =
      { s with live := s.liveAbsent (s.missingOf b), attention := s.absentItems (s.missingOf b) } := by
    rw [State.membersOf, List.filter_map, List.foldl_map]
    exact State.foldl_countAbsence s (s.missingOf b) (nodup.filter _)
  have set : snapshotSet s.live b.expected = s.membersOf b := rfl
  simp only [State.endCollection, hb, hq, set, counted, Bool.false_eq_true, if_false, State.collected_membersOf]
  refine congrArg (fun books => ({ s with books := books, live := _, attention := _ } : State))
    (List.map_congr_left fun x _ => ?_)
  by_cases start : x.start = b.start
  · simp only [start, true_and, if_true]
  · simp only [start, false_and, if_false]

end Sys2Proof.Machine
end

section
/-! ## The collection deadline (O45) -/

namespace Sys2Proof.Machine

section
variable {s : State} {b : Book}

/-- No deadline is reached while no book is COLLECTING or its deadline lies ahead. -/
theorem State.deadlineReached_of_ahead (h : ∀ b ∈ s.books, b.state = .collecting → s.clock.time < b.deadline) :
    s.deadlineReached = false := by
  simp only [State.deadlineReached]
  rcases hb : s.collecting with _ | b
  · rfl
  · have collecting : b.state = .collecting := by simpa using List.find?_some hb
    exact decide_eq_false (Nat.not_le.2 (h b (List.mem_of_find?_eq_some hb) collecting))

/-- The deadline's row ends the collection (R79). -/
theorem State.deadline_of_reached (hb : s.collecting = some b) (hd : b.deadline ≤ s.clock.time)
    (hs : s.sequence = .none) : s.deadline = s.endCollection.drive := by
  have reached : s.deadlineReached = true := by simp only [State.deadlineReached, hb, hd, decide_true]
  simp [State.deadline, State.serveDeadline, reached, hs]

/-- A command not in its execution phase keeps no book out of SETTLING (R80). -/
theorem State.commandPassed_of_done (h : s.commandDone = true) : s.commandPassed = false := by
  simp only [State.commandDone, State.run] at h
  rcases he : s.link.executing with _ | e
  · simp only [State.commandPassed, he]
  · simp only [he, Option.map_some] at h
    rcases hr : e.run <;> simp only [hr] at h <;> simp_all [State.commandPassed]

/-- The end of a collection leaves the other units at rest. -/
theorem State.collectionEnded_othersRest (rest : s.resting) (done : s.commandDone = true) (f : Book → Book) :
    (s.collectionEnded b f).othersRest :=
  (rest.othersRest done).congr rfl rfl rfl rfl rfl (fun _ => rfl)
    (State.commitMoment_of_phase (s := s.collectionEnded b f) rest.unitsRest.notAwaiting)

/-- A collection that ends while the memory is NOT_READY leaves its book WAITING (R80). -/
theorem State.collectionEnded_drive_of_notReady (rest : s.resting) (done : s.commandDone = true)
    (hm : s.port.state = .notReady) : (s.collectionEnded b fun x => x).drive = s.collectionEnded b fun x => x := by
  have units := rest.unitsRest
  exact (State.collectionEnded_othersRest rest done _).drive_of_none units.noWork units.notChecking units.noMarking
    (State.admissible_of_notReady (s := s.collectionEnded b fun x => x) hm)

/-- Which book is the oldest that is not final does not change when its collection ends (R81). -/
theorem State.collectionEnded_oldestOpen {f : Book → Book} (hb : b.state = .collecting) (oldest : s.oldestOpen = some b)
    (hf : ∀ x, (f (s.collectedAs b x)).isFinal = false) :
    (s.collectionEnded b f).oldestOpen = some (f (s.collectedAs b b)) := by
  have found : (s.books.find? fun x => !x.isFinal) = some b := oldest
  rw [State.oldestOpen, State.collectionEnded, List.find?_map]
  have same : ((fun x : Book => !x.isFinal) ∘ fun x =>
      if x.start = b.start ∧ x.state = .collecting then f (s.collectedAs b x) else x) = fun x => !x.isFinal := by
    funext x
    by_cases h : x.start = b.start ∧ x.state = .collecting
    · have notFinal : x.isFinal = false := by rw [Book.isFinal, h.2]; rfl
      simp only [Function.comp, if_pos h, hf, notFinal]
    · simp only [Function.comp, if_neg h]
  rw [same, found, Option.map_some, if_pos ⟨rfl, hb⟩]

/-- A WAITING book that is the oldest not final is admitted, with the memory READY, no line locked and nothing to mark
(R80, R81). -/
theorem State.othersRest.admissible_of_oldest (h : s.othersRest) (oldest : s.oldestOpen = some b) (hb : b.state = .waiting)
    (ready : s.port.state = .ready) (unlocked : s.cache.anyLocked = false) (hm : s.activation.marking = []) :
    s.admissible = some b := by
  have conditions : s.entryConditions = true := by
    simp [State.entryConditions, State.commandPassed_of_done h.commandDone, h.notQuiesced, unlocked, hm, State.memoryReady,
      ready]
  simp [State.admissible, oldest, hb, conditions, h.noSequence]

/-- The record of a book that enters SETTLING (R53, R82). -/
def State.settlingAs (s : State) (start : Nat) (x : Book) : Book :=
  { x with state := .settling, capture := some (s.active.captureFor s.clock.weekday start), figures := none }

/-- The work record of a book that enters SETTLING (R90, R91). -/
def Work.entered (start : Nat) (members : List Member) : Work :=
  { book := start, stage := .reading, copies := []
    toRead := [192, 193, 194, 195] ++ (members.filter fun m => m.snapshot.isSome).map Member.index
    rows := [], totals := none, aims := [], landed := [], changes := [] }

/-- What a book that enters SETTLING makes of the engine (R53, R82, R91). -/
theorem State.enterSettling_eq (s : State) (b : Book) :
    s.enterSettling b =
      { s with
        books := s.books.map fun x => if x.start = b.start then s.settlingAs x.start x else x
        work := some (Work.entered b.start b.members) } := rfl

theorem State.collectedAs_start (s : State) (b x : Book) : (s.collectedAs b x).start = x.start := rfl

/-- The engine after the end of the collection of `b`, its book in SETTLING. -/
def State.settlingEntered (s : State) (b : Book) : State :=
  { s.collectionEnded b (s.settlingAs b.start) with work := some (Work.entered b.start (s.membersOf b)) }

/-- The book that enters SETTLING in the event that ends its collection, the only one of its start minute. -/
theorem State.collectionEnded_enterSettling (hb : b.state = .collecting) (alone : ∀ x ∈ s.books, x.start = b.start → x = b) :
    (s.collectionEnded b fun x => x).enterSettling (s.collectedAs b b) = s.settlingEntered b := by
  have books : ((s.collectionEnded b fun x => x).books.map fun x =>
        if x.start = b.start then s.settlingAs x.start x else x) =
      (s.collectionEnded b (s.settlingAs b.start)).books := by
    rw [State.collectionEnded, State.collectionEnded, List.map_map]
    refine List.map_congr_left fun x hx => ?_
    by_cases start : x.start = b.start
    · obtain rfl := alone x hx start
      simp only [Function.comp, hb, and_self, if_true]
      exact if_pos rfl
    · simp only [Function.comp, start, false_and, if_false]
  have kept : (s.collectionEnded b fun x => x).settlingAs = s.settlingAs := rfl
  rw [State.enterSettling_eq]
  simp only [State.collectedAs_start, kept, books]
  rfl

/-- The Settlement Unit waits for a record that the cache does not hold (R91). -/
theorem State.settleTurn_of_miss {w : Work} {a : Nat} {more : List Nat} (hw : s.work = some w) (hst : w.stage = .reading)
    (hr : w.toRead = a :: more) (miss : s.cache.lookup a = .miss) : s.settleTurn = none := by
  simp only [State.settleTurn, hw, hst, hr, State.found_eq_none.2 miss, Option.map_none]
  split
  · rfl
  · split <;> rfl

/-- The record that the Settlement Unit is to read next is the one it asks for. -/
theorem State.settleWant_of_reading {w : Work} {a : Nat} {more : List Nat} (hw : s.work = some w)
    (hst : w.stage = .reading) (hr : w.toRead = a :: more) : s.settleWant = some a := by
  simp only [State.settleWant, hw, Option.bind_some, Work.needs, hst, hr, List.head?_cons]

/-- While the Settlement Unit waits for a record, and nothing is to be checked, marked or admitted, there is no turn. -/
theorem State.othersRest.turn_of_reading {w : Work} {a : Nat} {more : List Nat} (h : s.othersRest) (hw : s.work = some w)
    (hst : w.stage = .reading) (hr : w.toRead = a :: more) (miss : s.cache.lookup a = .miss)
    (hc : s.activation.phase ≠ .checking) (hm : s.activation.marking = []) (hb : s.admissible = none) : s.turn = none := by
  rw [h.turn_eq, State.settleTurn_of_miss hw hst hr miss, State.checkTurn_of_notChecking hc, State.markTurn_of_nil hm, hb]
  rfl

/-- The empty cache holds no account. -/
theorem Cache.empty_lookup (a : Nat) : Cache.empty.lookup a = .miss := by
  refine Cache.lookup_eq_miss.2 ?_
  simp [Cache.find, Cache.empty]

/-- A collection that ends with the memory READY and the cache empty: its book enters SETTLING and the first read is
granted (R81, R91). -/
theorem State.collectionEnded_drive_of_ready (rest : s.resting) (done : s.commandDone = true) (hb : b.state = .collecting)
    (oldest : s.oldestOpen = some b) (hm : s.port.state = .ready) (hc : s.cache = .empty)
    (alone : ∀ x ∈ s.books, x.start = b.start → x = b) :
    (s.collectionEnded b fun x => x).drive = (s.settlingEntered b).onPort (.fill .settlement 192 0 none) := by
  have units := rest.unitsRest
  have ended := State.collectionEnded_othersRest (b := b) rest done fun x => x
  have admitted : (s.collectionEnded b fun x => x).admissible = some (s.collectedAs b b) :=
    ended.admissible_of_oldest (State.collectionEnded_oldestOpen hb oldest fun _ => rfl) rfl hm
      (show s.cache.anyLocked = false by rw [hc]; decide) units.noMarking
  have first : (s.collectionEnded b fun x => x).turn = some (s.settlingEntered b) := by
    rw [ended.turn_of_admissible units.noWork units.notChecking units.noMarking admitted,
      State.collectionEnded_enterSettling hb alone]
  have entered : (s.settlingEntered b).othersRest :=
    ended.congr rfl rfl rfl rfl rfl (fun _ => rfl)
      (State.commitMoment_of_phase (s := s.settlingEntered b) units.notAwaiting)
  have settling : (s.settlingEntered b).admissible = none :=
    State.admissible_of_oldest (s := s.settlingEntered b)
      (State.collectionEnded_oldestOpen (f := s.settlingAs b.start) hb oldest fun _ => rfl)
      BookState.noConfusion
  have empty : (s.settlingEntered b).cache = .empty := hc
  have dropped : Cache.empty.drop 0 = .empty := by decide
  have unused : dirtyRecord (Cache.empty.line 0) = none := by decide
  rw [State.drive_of_one first (entered.turn_of_reading rfl rfl rfl (by rw [empty]; exact Cache.empty_lookup 192)
      units.notChecking units.noMarking settling),
    entered.grant_of_settlement (line := 0) hm (State.settleWant_of_reading rfl rfl rfl) (by rw [empty]; decide), empty,
    dropped, unused, ← empty]

end

/-- Settles O45: the deadline ends the collection; what follows goes by the memory state. -/
theorem collectionDeadlineEndsTheCollection : Obligations.CollectionDeadlineEndsTheCollection := by
  refine fun s => ⟨fun ahead => ?ahead, fun b hb hd rest done nodup _ => ?reached⟩
  case ahead =>
    refine congrArg Host.Outcome.next (if_neg ?_)
    rw [State.deadlineReached_of_ahead ahead]
    exact Bool.false_ne_true
  case reached =>
    have ended : exec .collectionDeadline s = .next (s.collectionEnded b fun x => x).drive := by
      refine congrArg Host.Outcome.next ?_
      rw [State.deadline_of_reached hb hd rest.unitsRest.noSequence,
        State.endCollection_eq hb rest.unitsRest.notQuiesced nodup]
    have collecting : b.state = .collecting := by simpa using List.find?_some hb
    refine ⟨fun hm => ?notReady, fun hm hc oldest alone => ?ready⟩
    case notReady =>
      rw [ended, State.collectionEnded_drive_of_notReady rest done hm, State.collectionEnded_eq]
      rfl
    case ready =>
      rw [Book.open_eq] at oldest
      rw [ended, State.collectionEnded_drive_of_ready rest done collecting oldest hm hc alone, State.settlingEntered,
        State.collectionEnded_eq]
      rfl

end Sys2Proof.Machine
end

section
/-! ## The interval boundary (O44) -/

namespace Sys2Proof.Machine

section
variable {s : State}

/-! ### The boundary search (R73) -/

/-- The search takes nothing: the engine is not RUNNING, checks are in progress, or no candidate lies beyond the open
interval's start (R73). -/
theorem State.boundarySearch_of_none
    (h : s.engine ≠ .running ∨ s.activation.phase = .checking ∨
      ∀ start, s.clock.openStart = some start → s.candidate ≤ start) : s.boundarySearch = (s, false) := by
  simp only [State.boundarySearch]
  split
  · rfl
  · rename_i going
    simp only [Bool.or_eq_true, bne_iff_ne, beq_iff_eq, not_or, not_not] at going
    obtain ⟨⟨running, notChecking⟩, _⟩ := going
    rcases h with h | h | h
    · exact absurd running h
    · exact absurd h notChecking
    · rcases hs : s.clock.openStart with _ | start
      · rfl
      · simp only [h start hs, if_true]

/-- A candidate beyond the start, with or without a record for its book (R73). -/
theorem State.boundarySearch_of_beyond {start : Nat} (running : s.engine = .running)
    (notChecking : s.activation.phase ≠ .checking) (noSequence : s.sequence = .none)
    (hs : s.clock.openStart = some start) (beyond : start < s.candidate) :
    s.boundarySearch =
      if Config.books ≤ s.books.length && !s.books.any Book.replaceable then
        (s.raise (.bookMerged s.candidate start), false)
      else (s.takeBoundary start s.candidate, true) := by
  simp only [State.boundarySearch, running, noSequence, hs, bne_self_eq_false, Bool.false_or, Bool.or_false, beq_iff_eq,
    notChecking, if_false, Nat.not_le.2 beyond]

/-- The engine with the occasion of its boundary search served (log 9). -/
def State.boundaryServed (s : State) : State := { s with clock := { s.clock with boundaryDue := false } }

/-- The row's search, on an occasion the clock has brought (R73, log 9). -/
theorem exec_intervalBoundary (due : s.clock.boundaryDue = true) :
    exec .intervalBoundary s = .next s.boundaryServed.boundarySearch.1.drive := by
  change Host.Outcome.next (if s.clock.boundaryDue then (if s.clock.boundaryDue then _ else s).drive else s) = _
  rw [due]
  rfl

/-! ### The boundary taken (R74) -/

/-- The engine once a boundary has opened its book beside the books kept (R74, steps 3 to 7). -/
def State.bookOpened (s : State) (kept : List Book) (start candidate : Nat) : State :=
  { s with
    books := kept ++ [s.newBook start candidate]
    clock := { s.clock with mark := s.clock.mark + 1, openStart := some candidate }
    activation := s.activation.boundaryTaken
    live := s.live.map fun l => { l with taken := none } }

/-- The book just opened is the one COLLECTING. -/
theorem State.bookOpened_collecting {kept : List Book} (closed : ∀ b ∈ kept, b.state ≠ .collecting)
    (start candidate : Nat) :
    (s.bookOpened kept start candidate).collecting = some (s.newBook start candidate) := by
  have none : kept.find? (fun b => b.state == .collecting) = none :=
    List.find?_eq_none.2 fun b hb => by simpa using closed b hb
  rw [State.collecting, State.bookOpened, List.find?_append, none]
  rfl

/-- No snapshot of the interval just opened is taken. -/
theorem State.bookOpened_taken (kept : List Book) (start candidate i : Nat) :
    ((s.bookOpened kept start candidate).liveOf i).taken = none := by
  simp only [State.liveOf, State.bookOpened, Vector.getElem?_map]
  cases s.live[i]? <;> rfl

/-- A book that expects someone is not complete when it opens (R27). -/
theorem State.bookOpened_incomplete {kept : List Book} (closed : ∀ b ∈ kept, b.state ≠ .collecting)
    (start candidate : Nat) (someone : s.active.expectedSet ≠ []) :
    (s.bookOpened kept start candidate).collectionComplete = false := by
  obtain ⟨i, hi⟩ := List.exists_mem_of_ne_nil _ someone
  refine Bool.eq_false_iff.2 fun complete => ?_
  exact (State.collectionComplete_iff (State.bookOpened_collecting closed start candidate)).1 complete i hi
    (State.bookOpened_taken kept start candidate i)

/-- A boundary taken ends a collection still open and opens its book (R74). -/
theorem State.takeBoundary_eq {t : State} {kept : List Book} (ended : s.endCollection = t)
    (room : freeRecord t.books = kept) (closed : ∀ b ∈ kept, b.state ≠ .collecting)
    (someone : t.active.expectedSet ≠ []) (start candidate : Nat) :
    s.takeBoundary start candidate = t.bookOpened kept start candidate := by
  have taken : s.takeBoundary start candidate =
      if (t.bookOpened kept start candidate).collectionComplete then (t.bookOpened kept start candidate).endCollection
      else t.bookOpened kept start candidate := by
    rw [← room, ← ended]
    rfl
  rw [taken, State.bookOpened_incomplete closed start candidate someone]
  rfl

/-- Without a collecting book there is no collection to end. -/
theorem State.endCollection_of_none (h : ∀ b ∈ s.books, b.state ≠ .collecting) : s.endCollection = s := by
  have none : s.collecting = none := List.find?_eq_none.2 fun b hb => by simpa using h b hb
  simp only [State.endCollection, none]

/-- A list with room keeps its records (R74, step 2). -/
theorem freeRecord_of_room {books : List Book} (h : books.length < 8) : freeRecord books = books := if_pos h

/-- In a full list the oldest book that can be replaced makes room (R74, step 2; R87). -/
theorem freeRecord_of_full {books older newer : List Book} {b : Book} (full : 8 ≤ books.length)
    (list : books = older ++ b :: newer) (kept : ∀ x ∈ older, x.replaceable = false) (hb : b.replaceable = true) :
    freeRecord books = older ++ newer := by
  have noRoom : ¬books.length < Config.books := Nat.not_lt.2 full
  rw [freeRecord, if_neg noRoom, list, List.eraseP_append_right _ (by simpa using kept), List.eraseP_cons_of_pos hb]

theorem Activation.boundaryTaken_eq (a : Activation) :
    a.boundaryTaken = { a with phase := if a.phase = .awaitBoundary then .awaitQuiet else a.phase } := by
  unfold Activation.boundaryTaken
  split <;> rfl

theorem Activation.boundaryTaken_notChecking {a : Activation} (h : a.phase ≠ .checking) :
    a.boundaryTaken.phase ≠ .checking := by
  rw [Activation.boundaryTaken_eq]
  split
  · exact ActivationPhase.noConfusion
  · exact h

/-- The book just opened puts off a commit moment, and keeps the engine's other units at rest (R62). -/
theorem State.bookOpened_drive {kept : List Book} {start candidate : Nat} (h : s.othersRest) (hw : s.work = none)
    (hc : s.activation.phase ≠ .checking) (hm : s.activation.marking = [])
    (noBook : (s.bookOpened kept start candidate).admissible = none) :
    (s.bookOpened kept start candidate).drive = s.bookOpened kept start candidate := by
  have opened : s.newBook start candidate ∈ (s.bookOpened kept start candidate).books :=
    List.mem_append_right _ List.mem_cons_self
  have others : (s.bookOpened kept start candidate).othersRest :=
    h.congr rfl rfl rfl rfl rfl (fun _ => rfl) (State.commitMoment_of_open opened rfl)
  have marking : (s.bookOpened kept start candidate).activation.marking = [] := by
    rw [State.bookOpened, Activation.boundaryTaken_eq]
    exact hm
  exact others.drive_of_none hw (Activation.boundaryTaken_notChecking hc) marking noBook

/-- The books kept are among the books before. -/
theorem freeRecord_subset {books : List Book} {b : Book} (h : b ∈ freeRecord books) : b ∈ books := by
  unfold freeRecord at h
  split at h
  · exact h
  · exact List.mem_of_mem_eraseP h

/-- A search that finds no collecting book and takes its boundary, with the follow-on work (R73, R74). -/
theorem State.boundarySearch_drive_of_taken {start : Nat} {kept : List Book} (rest : s.resting) (done : s.commandDone = true)
    (hs : s.clock.openStart = some start) (closed : ∀ b ∈ s.books, b.state ≠ .collecting) (running : s.engine = .running)
    (beyond : start < s.candidate) (someone : s.active.expectedSet ≠ [])
    (able : s.books.length < 8 ∨ ∃ b ∈ s.books, b.replaceable = true) (freed : freeRecord s.books = kept) :
    s.boundarySearch.1.drive = s.bookOpened kept start s.candidate := by
  subst freed
  have units := rest.unitsRest
  have free : ¬(Config.books ≤ s.books.length && !s.books.any Book.replaceable) = true := by
    rcases able with room | ⟨b, hb, replaceable⟩
    · have few : ¬Config.books ≤ s.books.length := Nat.not_le.2 room
      simp [few]
    · simp only [List.any_eq_true.2 ⟨b, hb, replaceable⟩, Bool.not_true, Bool.and_false, Bool.false_eq_true,
        not_false_eq_true]
  have keptClosed : ∀ b ∈ freeRecord s.books, b.state ≠ .collecting := fun b hb => closed b (freeRecord_subset hb)
  have noBook : (s.bookOpened (freeRecord s.books) start s.candidate).admissible = none := by
    refine State.admissible_of_none fun b hb => ?_
    rcases List.mem_append.1 hb with old | new
    · obtain ⟨_, _, _, _, _, _, _, _, _, books, _⟩ := rest
      exact (books b (freeRecord_subset old)).1
    · rw [List.mem_singleton.1 new]
      exact BookState.noConfusion
  rw [State.boundarySearch_of_beyond running units.notChecking units.noSequence hs beyond, if_neg free,
    State.takeBoundary_eq (State.endCollection_of_none closed) rfl keptClosed someone]
  exact State.bookOpened_drive (rest.othersRest done) units.noWork units.notChecking units.noMarking noBook

/-- A search that ends the collection still open and takes its boundary, the memory NOT_READY and the list with room
(R31, R73, R74). -/
theorem State.boundarySearch_drive_of_collecting {start : Nat} {b : Book} (rest : s.resting)
    (done : s.commandDone = true) (hs : s.clock.openStart = some start) (running : s.engine = .running)
    (hm : s.port.state = .notReady) (hb : s.collecting = some b)
    (alone : ∀ x ∈ s.books, x.state = .collecting → x = b) (nodup : b.expected.Nodup) (room : s.books.length < 8)
    (beyond : start < s.candidate) (someone : s.active.expectedSet ≠ []) :
    s.boundarySearch.1.drive =
      (s.collectionEnded b fun x => x).bookOpened (s.collectionEnded b fun x => x).books start s.candidate := by
  have units := rest.unitsRest
  have few : ¬Config.books ≤ s.books.length := Nat.not_le.2 room
  have closed : ∀ x ∈ (s.collectionEnded b fun x => x).books, x.state ≠ .collecting := by
    intro x hx
    obtain ⟨y, hy, rfl⟩ := List.mem_map.1 hx
    by_cases h : y.start = b.start ∧ y.state = .collecting
    · rw [if_pos h]
      exact BookState.noConfusion
    · rw [if_neg h]
      exact fun collecting => h ⟨congrArg Book.start (alone y hy collecting), collecting⟩
  have kept : freeRecord (s.collectionEnded b fun x => x).books = (s.collectionEnded b fun x => x).books :=
    freeRecord_of_room (by rw [State.collectionEnded, List.length_map]; exact room)
  have noBook : ((s.collectionEnded b fun x => x).bookOpened (s.collectionEnded b fun x => x).books start
      s.candidate).admissible = none :=
    State.admissible_of_notReady (s := (s.collectionEnded b fun x => x).bookOpened
      (s.collectionEnded b fun x => x).books start s.candidate) hm
  rw [State.boundarySearch_of_beyond running units.notChecking units.noSequence hs beyond,
    if_neg (by simp [few]), State.takeBoundary_eq (State.endCollection_eq hb units.notQuiesced nodup) kept closed someone]
  exact State.bookOpened_drive (State.collectionEnded_othersRest rest done _) units.noWork units.notChecking
    units.noMarking noBook

/-- A full list without a record to free merges the intervals (R73, R76). -/
theorem State.boundarySearch_drive_of_merged {start : Nat} (rest : s.resting) (done : s.commandDone = true)
    (hs : s.clock.openStart = some start) (running : s.engine = .running) (beyond : start < s.candidate)
    (full : 8 ≤ s.books.length) (kept : ∀ b ∈ s.books, b.replaceable = false) :
    s.boundarySearch.1.drive = s.raise (.bookMerged s.candidate start) := by
  have units := rest.unitsRest
  have noRecord : (Config.books ≤ s.books.length && !s.books.any Book.replaceable) = true := by
    have none : s.books.any Book.replaceable = false := List.any_eq_false.2 fun b hb => by simp [kept b hb]
    have long : Config.books ≤ s.books.length := full
    simp [none, long]
  rw [State.boundarySearch_of_beyond running units.notChecking units.noSequence hs beyond, if_pos noRecord]
  have rest' : (s.raise (.bookMerged s.candidate start)).resting := rest
  exact State.drive_of_resting rest' done

/-- The records at a boundary that ends a collection: absences counted, snapshots cleared (R31, R74). -/
theorem State.liveAbsent_cleared (s : State) (l : List Nat) :
    ((s.liveAbsent l).map fun r => { r with taken := none }) =
      Vector.ofFn fun i : Fin 192 =>
        { s.live[i] with
          taken := none, absence := if i.val ∈ l then s.absenceRun i else s.live[i].absence } :=
  Vector.ext fun k hk => by
    have record := State.liveAbsent_getElem s l ⟨k, hk⟩
    rw [Fin.getElem_fin] at record
    rw [Vector.getElem_map, Vector.getElem_ofFn, record]
    split <;> rfl

end

/-- Settles O44: the search's outcomes in the order of R73, and the boundary taken from each list of books. -/
theorem intervalBoundaryCreatesTheBook : Obligations.IntervalBoundaryCreatesTheBook := by
  refine ⟨fun s due checking blocked => ?checking, fun s start b due hs rest done running hm hb alone nodup _ room beyond
    someone => ?collecting, fun s start due hs rest done closed => ⟨fun h => ?none, fun running beyond someone room => ?room,
    fun older b newer running beyond someone full list kept hb => ?full, fun running beyond full kept => ?merged⟩⟩
  case checking =>
    rw [exec_intervalBoundary due, State.boundarySearch_of_none (s := s.boundaryServed) (.inr (.inl checking)),
      State.drive_of_blocked (s := s.boundaryServed) blocked]
    rfl
  all_goals rw [exec_intervalBoundary due]
  case collecting =>
    rw [State.boundarySearch_drive_of_collecting (s := s.boundaryServed) rest done
      hs running hm hb alone nodup room beyond someone, State.bookOpened, Activation.boundaryTaken_eq,
      show (State.collectionEnded _ b _).live = State.liveAbsent _ _ from rfl, State.liveAbsent_cleared]
    rfl
  case none =>
    have nothing : s.boundaryServed.boundarySearch = (s.boundaryServed, false) := by
      refine State.boundarySearch_of_none (h.imp (fun unconfigured => ?_) fun behind => .inr fun x hx => ?_)
      · rw [show s.boundaryServed.engine = .unconfigured from unconfigured]
        exact EngineState.noConfusion
      · rw [← Option.some.inj (hs.symm.trans hx)]
        exact behind
    rw [nothing, State.drive_of_resting (s := s.boundaryServed) rest done]
    rfl
  case room =>
    rw [State.boundarySearch_drive_of_taken (s := s.boundaryServed) rest done hs
      closed running beyond someone (.inl room) (freeRecord_of_room room), State.bookOpened, Activation.boundaryTaken_eq]
    rfl
  case full =>
    rw [State.boundarySearch_drive_of_taken (s := s.boundaryServed) rest done hs
      closed running beyond someone (.inr ⟨b, list ▸ by simp, hb⟩) (freeRecord_of_full full list kept hb),
      State.bookOpened, Activation.boundaryTaken_eq]
    rfl
  case merged =>
    rw [State.boundarySearch_drive_of_merged (s := s.boundaryServed) rest done hs
      running beyond full kept]
    rfl

end Sys2Proof.Machine
end

section
/-! ## A fill completes (O46): the line, its reader, and the command that waited -/

namespace Sys2Proof.Machine

/-! ### Locks move no record (R141) -/

/-- Which line holds an account goes by the lines' tags alone. -/
theorem Cache.find_congr {c d : Cache} (h : ∀ i, (c.line i).map CacheLine.tag = (d.line i).map CacheLine.tag) (a : Nat) :
    c.find a = d.find a := by
  have holds (c : Cache) : c.find a =
      (c.lines.toList.map fun l => (l.map CacheLine.tag).elim false (· == a)).findIdx? id := by
    rw [Cache.find, List.findIdx?_map]
    congr 1
    funext l
    cases l <;> rfl
  rw [holds c, holds d]
  refine congrArg (List.findIdx? id) (List.ext_getElem (by simp) fun i hi _ => ?_)
  have inCache : i < 32 := by simpa using hi
  have tags := h i
  simp only [Cache.line, Vector.getElem?_eq_getElem inCache, Option.join_some] at tags
  simp only [List.getElem_map, Vector.getElem_toList, tags]

/-- What the cache answers goes by the lines' tags and records alone. -/
theorem Cache.lookup_congr {c d : Cache}
    (h : ∀ i, (c.line i).map (fun l => (l.tag, l.record)) = (d.line i).map fun l => (l.tag, l.record)) (a : Nat) :
    c.lookup a = d.lookup a := by
  have tags (i : Nat) : (c.line i).map CacheLine.tag = (d.line i).map CacheLine.tag := by
    simpa [Option.map_map, Function.comp_def] using congrArg (Option.map Prod.fst) (h i)
  have answer (c : Cache) : c.lookup a =
      match c.find a with
      | none => .miss
      | some i =>
        match (c.line i).map fun l => (l.tag, l.record) with
        | some (_, some r) => .good i r
        | some (_, none) => .damaged i
        | none => .miss := by
    rw [Cache.lookup]
    rcases c.find a with _ | i
    · rfl
    · dsimp only
      rcases c.line i with _ | ⟨t, _ | r, d, k⟩ <;> rfl
  rw [answer c, answer d, Cache.find_congr tags a]
  rcases d.find a with _ | i
  · rfl
  · simp only [h i]

/-- A lock set or released changes no answer (R141). -/
@[simp] theorem Cache.lookup_setLock (c : Cache) (i : Nat) (locked : Bool) (a : Nat) :
    (c.setLock i locked).lookup a = c.lookup a := by
  refine Cache.lookup_congr (fun j => ?_) a
  unfold Cache.setLock
  rcases hl : c.line i with _ | l
  · rfl
  · have inCache : i < 32 := by
      by_contra out
      simp [Cache.line, out] at hl
    simp only [Cache.line_set c i j _ inCache]
    by_cases same : j = i
    · simp only [same, hl, if_true, Option.map_some]
    · simp only [same, if_false]

/-! ### The completion (R136 to R138) -/

/-- Account memory once a fill's dirty victim has been written back (R138). -/
def State.fillMemory (s : State) (victim : Option (Nat × AccountRecord)) : List Host.Cell :=
  match victim with
  | none => s.memory
  | some v => writeUnit s.memory (32 + 32 * v.1) (recordBytes v.1 v.2)

/-- What the read of a fill gives; `none` is a check failure (R129, R137). -/
def State.fillRead (s : State) (a : Nat) (victim : Option (Nat × AccountRecord)) (returned : Option (List Byte)) :
    Option AccountRecord :=
  recordOf a (returned.getD (readBytes (s.fillMemory victim) (32 + 32 * a) 28))

/-- The engine with the line filled and the port free, before anyone is served (R137, R138). -/
def State.filledBy (s : State) (reader : Reader) (a line : Nat) (victim : Option (Nat × AccountRecord))
    (read : Option AccountRecord) : State :=
  { s with
    memory := s.fillMemory victim, port := { s.port with inProgress := none }, cache := s.cache.fill line a read
    attention := if read.isNone then s.attention.raise (.damaged a reader) else s.attention }

section
variable {s : State} {reader : Reader} {a line : Nat} {victim : Option (Nat × AccountRecord)}

/-- A victim's record written back (R138). -/
theorem State.writeVictim_eq (s : State) (victim : Option (Nat × AccountRecord)) :
    s.writeVictim victim = { s with memory := s.fillMemory victim } := by
  cases victim <;> rfl

/-- A line filled, with what a check failure raises (R137). -/
theorem State.fillLine_eq (s : State) (reader : Reader) (a line : Nat) (read : Option AccountRecord) :
    s.fillLine reader a line read =
      { s with
        cache := s.cache.fill line a read
        attention := if read.isNone then s.attention.raise (.damaged a reader) else s.attention } := by
  cases read <;> rfl

/-- A fill's completion, before the Notice Builders and the units are served. -/
theorem exec_cacheFill (h : s.port.inProgress = some (.fill reader a line victim)) (returned : Option (List Byte)) :
    exec (.cacheFill returned) s =
      .next ((s.filledBy reader a line victim (s.fillRead a victim returned)).fillArrived a).completed := by
  have done : s.fillDone returned = (((s.idlePort.writeVictim victim).fillLine reader a line
      (recordOf a (readUnit (s.idlePort.writeVictim victim).memory (Config.recordPlace a) Config.recordSize
        returned))).fillArrived a).completed := by
    simp only [State.fillDone, h]
  change Host.Outcome.next (s.fillDone returned) = _
  rw [done, State.writeVictim_eq, State.fillLine_eq]
  rfl

/-- Without a prefetch that waits, a fill serves its reader alone. -/
theorem exec_cacheFill_quiet (h : s.port.inProgress = some (.fill reader a line victim)) (returned : Option (List Byte))
    (still : ∀ f : Feeder, s.ports[f].prefetch.isWaiting = false) :
    exec (.cacheFill returned) s =
      .next (s.filledBy reader a line victim (s.fillRead a victim returned)).endCut.drive := by
  have unserved (f : Feeder) :
      (s.filledBy reader a line victim (s.fillRead a victim returned)).ports[f].prefetch ≠ .waiting a := fun waits => by
    have waiting : s.ports[f].prefetch = .waiting a := waits
    have quiet := still f
    rw [waiting] at quiet
    cases quiet
  rw [exec_cacheFill h, State.fillArrived_none _ _ unserved]
  rfl

/-- Only a command that has been cut ends with its fill. -/
theorem State.endCut_of_run {r : Run} (h : s.run = some r) (uncut : ∀ reason n, r ≠ .cutting reason n) : s.endCut = s := by
  simp only [State.endCut, h]
  cases r with
  | cutting reason n => exact absurd rfl (uncut reason n)
  | _ => rfl

/-- A command out of its execution phase has no cut to end. -/
theorem State.endCut_of_done (h : s.commandDone = true) : s.endCut = s := by
  simp only [State.commandDone] at h
  rcases hr : s.run with _ | r
  · simp only [State.endCut, hr]
  · exact State.endCut_of_run hr fun reason n e => by simp [hr, e] at h

end

end Sys2Proof.Machine
end

section
/-! ## A fill completes (O46): READ ACCOUNT, SWEEP, SCAN, REBASE and REPAIR ACCOUNT -/

namespace Sys2Proof.Machine

/-- A line of the cache holds what the read of an account gave, clean, unlocked and most recently used (R137). -/
structure Cache.justFilled (c : Cache) (a line : Nat) (read : Option AccountRecord) : Prop where
  lookup : c.lookup a = match read with | some r => .good line r | none => .damaged line
  held : c.line line = some { tag := a, record := read, dirty := false, locked := false }
  used : c.touch line = c

/-- A fill leaves its line so. -/
theorem Cache.fill_justFilled {c : Cache} {a line : Nat} (read : Option AccountRecord) (inCache : line < 32)
    (miss : c.find a = none) : (c.fill line a read).justFilled a line read :=
  ⟨(Cache.lookup_fill c line a read inCache miss).trans (by cases read <;> rfl), by
    rw [Cache.line_fill c line line a read inCache, if_pos rfl], Cache.touch_fill c line a read⟩

namespace Cache.justFilled

variable {c : Cache} {a line : Nat} {read : Option AccountRecord}

theorem good {r : AccountRecord} (h : c.justFilled a line (some r)) : c.lookup a = .good line r := h.lookup

theorem damaged (h : c.justFilled a line none) : c.lookup a = .damaged line := h.lookup

theorem isDirty (h : c.justFilled a line read) : c.isDirty line = false := by simp only [Cache.isDirty, h.held]

theorem isLocked (h : c.justFilled a line read) : c.isLocked line = false := by simp only [Cache.isLocked, h.held]

/-- The flag set in the line's record (R38, R67). -/
theorem setRebase {r : AccountRecord} (h : c.justFilled a line (some r)) :
    (c.touch line).setRebase line =
      c.set line (some { tag := a, record := some { r with rebasePending := true }, dirty := true, locked := false }) := by
  rw [h.used]
  simp only [Cache.setRebase, h.held]

/-- A use of the line by a state that holds the cache. -/
theorem touch_eq {s : State} (h : s.cache.justFilled a line read) : s.touch line = s := by
  rw [State.touch, h.used]

end Cache.justFilled

/-! ### A command's last turn -/

section
variable {s t : State} {e : Executing}

/-- At rest a command whose turn answers it is done with the event. -/
theorem State.drive_of_answer (rest : s.resting) (rest' : t.resting) (he : t.link.executing = some e) {o : OutcomeClass}
    {d : Nat} {fl : List Byte} (turn : s.commandTurn = some (t.answer o d fl)) :
    s.drive = t.answered e.tag e.code o d fl := by
  rw [State.answer_of_executing he] at turn
  exact State.drive_of_ending rest (t := t.answered e.tag e.code o d fl) rest' turn rfl

/-- At rest a command whose turn leaves it with an operation to ask for is granted it. -/
theorem State.drive_of_command_op (rest : s.resting) (rest' : t.resting) (turn : s.commandTurn = some t)
    (still : t.commandTurn = none) {o : PortOp} (want : t.commandWant = some (.op o)) : s.drive = t.beginOp o := by
  rw [State.drive_of_one ((State.turn_of_resting rest).trans turn) ((State.turn_of_resting rest').trans still),
    State.grant_of_op rest'.freePort ((State.want_of_resting rest').trans want)]

end

/-! ### The commands -/

section
variable {s : State} {a line : Nat} {read : Option AccountRecord} {tag code : Byte}

/-- READ ACCOUNT served by its fill (R180). -/
theorem State.drive_of_readAccount (rest : s.resting) (filled : s.cache.justFilled a line read)
    (he : s.link.executing = some { tag := tag, code := code, run := .readAccount a }) :
    s.drive = s.answered tag code .done 0 (accountFields a read false) := by
  refine State.drive_of_answer rest rest he ?_
  have turn : s.commandTurn = s.readAccountTurn a := by simp only [State.commandTurn, State.run_of_executing he]
  rw [turn, State.readAccountTurn]
  rcases read with _ | r
  · rw [filled.damaged]
    dsimp only
    rw [filled.touch_eq]
  · rw [filled.good]
    dsimp only
    rw [filled.touch_eq, filled.isDirty]

/-- A SWEEP with the account in hand visited and its BLOCK built (R186). -/
def SweepRun.blocked (r : SweepRun) (a : Nat) (read : Option AccountRecord) : SweepRun :=
  { r with
    visited := r.visited + 1, damaged := if read.isNone then r.damaged + 1 else r.damaged, lastVisited := some a
    block := some (blockBody a r.blocks read false) }

/-- A SWEEP served by its fill, the record one that matches its filter: the BLOCK is built (R186). -/
theorem State.drive_of_sweep {r : SweepRun} (rest : s.resting) (filled : s.cache.justFilled a line read)
    (he : s.link.executing = some { tag := tag, code := code, run := .sweep r }) (hand : r.inHand = a)
    (unblocked : r.block = none) (hits : filterMatches r.order.filter read = true) :
    s.drive = s.executing tag code (.sweep (r.blocked a read)) := by
  have turn : s.commandTurn = s.sweepTurn r := by simp only [State.commandTurn, State.run_of_executing he]
  have visit : s.sweepTurn r = some (s.sweepVisit r read false) := by
    simp only [State.sweepTurn, unblocked, hand, Option.isSome_none, Bool.false_eq_true, if_false]
    rcases read with _ | x
    · simp only [filled.damaged, filled.touch_eq]
    · simp only [filled.good, filled.touch_eq, filled.isDirty]
  have block : s.sweepVisit r read false = s.executing tag code (.sweep (r.blocked a read)) := by
    simp only [State.sweepVisit, hits, if_true, State.setRun_of_executing he, hand, SweepRun.blocked]
  rw [visit, block] at turn
  exact State.drive_of_command rest (t := s.executing tag code (.sweep (r.blocked a read))) rest turn rfl rfl

/-- A SCAN's read of the account in hand goes on as its record says (R188). -/
theorem State.scanTurn_of_filled {r : ScanRun} (filled : s.cache.justFilled a line read) (hand : r.inHand = a)
    (tested : r.tested = true) :
    s.scanTurn r = some (read.elim
      (s.scanAdvance { r with visited := r.visited + 1, lastVisited := some a, damaged := r.damaged + 1 })
      (s.scanCompare { r with visited := r.visited + 1, lastVisited := some a })) := by
  simp only [State.scanTurn, tested, hand, Bool.not_true, Bool.false_and, Bool.false_eq_true, if_false]
  rcases read with _ | x
  · simp only [filled.damaged, filled.touch_eq, Option.elim_none]
  · simp only [filled.good, filled.touch_eq, Option.elim_some]

/-- A SCAN's comparison (R188, step 3). -/
def scanHolds (o : ScanOrder) (balance : Int) : Prop :=
  match o.comparison with
  | .equal => balance = o.threshold
  | .atMost => balance ≤ o.threshold
  | .atLeast => o.threshold ≤ balance

theorem comparisonHolds_iff (o : ScanOrder) (balance : Int) :
    comparisonHolds o.comparison balance o.threshold = true ↔ scanHolds o balance := by
  unfold scanHolds
  cases o.comparison <;> simp [comparisonHolds]

/-- A SCAN whose last account does not satisfy it ends NOT_SATISFIED (R188). -/
theorem State.scanAdvance_of_last {r : ScanRun} (going : r.ending = .goingOn) (last : r.order.last < r.inHand + r.order.step)
    (visited : r.lastVisited = some a) :
    s.scanAdvance r = s.answer .done 2 (scanFields r s.freeByte) := by
  simp only [State.scanAdvance, going, Nat.not_le.2 last, if_false, State.scanEnd, visited, Option.isNone_some,
    Bool.false_eq_true, List.nil_append]

/-- A SCAN served by its fill (R188). -/
theorem State.drive_of_scan {r : ScanRun} (rest : s.resting) (filled : s.cache.justFilled a line read)
    (he : s.link.executing = some { tag := tag, code := code, run := .scan r }) (hand : r.inHand = a)
    (tested : r.tested = true) (going : r.ending = .goingOn) :
    (∀ x, read = some x → scanHolds r.order x.balance →
      s.drive = s.answered tag code .done 1 (be 1 a ++ signedBe 6 x.balance ++
        (be 1 (r.visited + 1) ++ be 1 r.suspended ++ be 1 r.damaged ++ be 1 a))) ∧
    (∀ x, read = some x → ¬scanHolds r.order x.balance → r.order.last < a + r.order.step →
      s.drive = s.answered tag code .done 2 (be 1 (r.visited + 1) ++ be 1 r.suspended ++ be 1 r.damaged ++ be 1 a)) ∧
    (read = none → r.order.last < a + r.order.step →
      s.drive = s.answered tag code .done 2
        (be 1 (r.visited + 1) ++ be 1 r.suspended ++ be 1 (r.damaged + 1) ++ be 1 a)) := by
  have turn : s.commandTurn = s.scanTurn r := by simp only [State.commandTurn, State.run_of_executing he]
  rw [State.scanTurn_of_filled filled hand tested] at turn
  refine ⟨fun x hx satisfied => ?_, fun x hx unsatisfied last => ?_, fun hx last => ?_⟩ <;> subst hx <;>
    refine State.drive_of_answer rest rest he (turn.trans (congrArg some ?_))
  · have won := (comparisonHolds_iff r.order x.balance).2 satisfied
    simp only [Option.elim_some, State.scanCompare, going, won, decide_true, Bool.and_self, if_true, State.scanEnd,
      Option.isNone_some, Bool.false_eq_true, if_false, hand]
    rfl
  · have lost : comparisonHolds r.order.comparison x.balance r.order.threshold = false :=
      Bool.eq_false_iff.2 fun h => unsatisfied ((comparisonHolds_iff r.order x.balance).1 h)
    simp only [Option.elim_some, State.scanCompare, lost, Bool.and_false, Bool.false_eq_true, if_false]
    exact State.scanAdvance_of_last (a := a) going (hand ▸ last) rfl
  · exact State.scanAdvance_of_last (a := a) going (hand ▸ last) rfl

/-- A REBASE served by its fill (R38, steps 6 and 7). -/
theorem State.drive_of_rebaseRead (rest : s.resting) (filled : s.cache.justFilled a line read)
    (he : s.link.executing = some { tag := tag, code := code, run := .rebaseRead a }) :
    (∀ r, read = some r →
      s.drive = ({ s with
          cache := s.cache.set line (some { tag := a, record := some { r with rebasePending := true }, dirty := true,
                                            locked := false }) } : State).answered tag code .done
        (if r.rebasePending then 2 else 1) []) ∧
    (read = none → s.drive = s.answered tag code .refused 14 []) := by
  have turn : s.commandTurn = s.rebaseTurn a := by simp only [State.commandTurn, State.run_of_executing he]
  refine ⟨fun r hr => ?_, fun hr => ?_⟩ <;> subst hr
  · rw [State.rebaseTurn_of_good filled.good, filled.setRebase] at turn
    exact State.drive_of_answer (t := { s with cache := s.cache.set line _ }) rest rest he turn
  · rw [State.rebaseTurn_of_damaged filled.damaged, filled.used] at turn
    exact State.drive_of_answer rest rest he turn

/-- A REPAIR ACCOUNT served by its fill (R126, steps 5 and 6). -/
theorem State.drive_of_repairRead {o : RepairOrder} (rest : s.resting) (filled : s.cache.justFilled a line read)
    (he : s.link.executing = some { tag := tag, code := code, run := .repairRead o }) (account : o.account = a) :
    (∀ r, read = some r → s.drive = s.answered tag code .refused 17 []) ∧
    (read = none →
      s.drive = (s.executing tag code (.repairWrite o)).onPort (.repairRecord a (repairRecord o))) := by
  have turn : s.commandTurn = s.repairTurn o := by simp only [State.commandTurn, State.run_of_executing he]
  refine ⟨fun r hr => ?_, fun hr => ?_⟩ <;> subst hr <;> rw [State.repairTurn, account] at turn
  · rw [filled.good] at turn
    dsimp only at turn
    rw [filled.touch_eq] at turn
    exact State.drive_of_answer rest rest he turn
  · rw [filled.damaged] at turn
    dsimp only at turn
    rw [filled.touch_eq, State.setRun_of_executing he] at turn
    subst account
    exact State.drive_of_command_op (t := s.executing tag code (.repairWrite o)) rest rest turn rfl rfl

end

end Sys2Proof.Machine
end

section
/-! ## A fill completes (O46): TRANSFER -/

namespace Sys2Proof.Machine

/-- The standing of an account at a balance (R114). -/
def standingAt (t : TableSet) (account : Nat) (balance : Int) : Standing :=
  if account < 192 ∧ (t.entry account).kind ≠ .vacant ∧ balance < (t.entry account).creditFloor then .arrears else .current

theorem TableSet.standing_eq (t : TableSet) (account : Nat) (balance : Int) :
    t.standing account balance = standingAt t account balance := by
  simp only [TableSet.standing, standingAt, nonVacant, Bool.and_eq_true, decide_eq_true_eq, bne_iff_ne, ne_eq, and_assoc]
  rfl

/-- A TRANSFER's image of an account at its new balance (R124). -/
def imageAt (t : TableSet) (account : Nat) (r : AccountRecord) (balance : Int) : Image :=
  { account := account, changes := true, was := r.standing,
    record := { r with balance := balance, standing := standingAt t account balance } }

theorem transferImage_eq (t : TableSet) (account : Nat) (r : AccountRecord) (amount : Int) :
    transferImage t account r amount = imageAt t account r (r.balance + amount) := by
  rw [transferImage, TableSet.standing_eq]
  rfl

/-- A CHECKED TRANSFER would leave a participant below its credit floor (R123, step 4). -/
def transferShort (o : TransferOrder) (t : TableSet) (payer : AccountRecord) : Prop :=
  o.mode = .checked ∧ o.payer < 192 ∧ (t.entry o.payer).kind ≠ .vacant ∧
    payer.balance - o.amount < (t.entry o.payer).creditFloor

/-- What a TRANSFER that has read both accounts comes to, of a state whose lines are still locked; `next` tells which
state the event leaves (R123, R124). -/
def State.transferOutcome (s : State) (tag code : Byte) (o : TransferOrder) (x y : AccountRecord) (next : State → Prop) :
    Prop :=
  let refused (detail : Nat) (fields : List Byte) : Prop :=
    next (({ s with cache := s.cache.unlockAll } : State).answered tag code .refused detail fields)
  let payer := imageAt s.active o.payer x (x.balance - o.amount)
  let payee := imageAt s.active o.payee y (y.balance + o.amount)
  (balanceInRange (x.balance - o.amount) = false → refused 15 (be 1 o.payer)) ∧
  (balanceInRange (x.balance - o.amount) = true → balanceInRange (y.balance + o.amount) = false →
    refused 15 (be 1 o.payee)) ∧
  (balanceInRange (x.balance - o.amount) = true → balanceInRange (y.balance + o.amount) = true →
    (transferShort o s.active x →
      refused 16 (signedBe 6 x.balance ++ signedBe 6 (s.active.entry o.payer).creditFloor)) ∧
    (¬transferShort o s.active x →
      next ((s.executing tag code (.transferJournal o [payer, payee] 0)).onPort (.journalEntry .transfer 0 payer))))

section
variable {s : State} {e : Executing} {o : TransferOrder} {x y : AccountRecord}

/-- A TRANSFER refused: its locks are released (R123). -/
theorem State.transferRefuse_eq (he : s.link.executing = some e) (detail : Nat) (fields : List Byte) :
    s.transferRefuse detail fields =
      ({ s with cache := s.cache.unlockAll } : State).answered e.tag e.code .refused detail fields :=
  State.answer_of_executing (s := s.unlock) he .refused detail fields

/-- Steps 3 and 4 of R123 in their order. -/
theorem State.transferDecide_eq (he : s.link.executing = some e) (o : TransferOrder) (x y : AccountRecord)
    [Decidable (transferShort o s.active x)] :
    s.transferDecide o x y =
      if balanceInRange (x.balance - o.amount) = false then s.transferRefuse 15 (be 1 o.payer)
      else if balanceInRange (y.balance + o.amount) = false then s.transferRefuse 15 (be 1 o.payee)
      else if transferShort o s.active x then
        s.transferRefuse 16 (signedBe 6 x.balance ++ signedBe 6 (s.active.entry o.payer).creditFloor)
      else
        s.executing e.tag e.code (.transferJournal o
          [imageAt s.active o.payer x (x.balance - o.amount), imageAt s.active o.payee y (y.balance + o.amount)] 0) := by
  have short : (o.mode = .checked && decide (o.payer < Config.participants) && nonVacant (s.active.entry o.payer) &&
      decide (x.balance - o.amount < (s.active.entry o.payer).creditFloor)) = true ↔
      transferShort o s.active x := by
    simp only [transferShort, nonVacant, Bool.and_eq_true, decide_eq_true_eq, bne_iff_ne, ne_eq, and_assoc]
    rfl
  simp only [State.transferDecide, Bool.not_eq_true', short, State.setRun_of_executing he, transferImage_eq,
    ← Int.sub_eq_add_neg]
  rfl

/-- A TRANSFER has no turn left once it is decided: its event leaves what the grant makes of the decision. -/
theorem State.transferOutcome_of_grant {tag code : Byte} {run : Run} {next : State → Prop} (rest : s.resting)
    (he : s.link.executing = some { tag := tag, code := code, run := run })
    (decided : (s.transferDecide o x y).turn = none → next (s.transferDecide o x y).grant) :
    s.transferOutcome tag code o x y next := by
  classical
  have refused {detail : Nat} {fields : List Byte} (h : s.transferDecide o x y = s.transferRefuse detail fields) :
      next (({ s with cache := s.cache.unlockAll } : State).answered tag code .refused detail fields) := by
    have rest' : (({ s with cache := s.cache.unlockAll } : State).answered tag code .refused detail fields).resting := rest
    rw [h, State.transferRefuse_eq he] at decided
    have still := (State.turn_of_resting rest').trans (State.commandTurn_of_done rfl)
    have unasked := (State.want_of_resting rest').trans (State.commandWant_of_done rfl)
    rw [← State.grant_of_none unasked]
    exact decided still
  have whole := State.transferDecide_eq he o x y
  refine ⟨fun payer => refused ?_, fun payer payee => refused ?_, fun payer payee => ⟨fun short => refused ?_,
    fun unshort => ?_⟩⟩
  · rw [whole, if_pos payer]
  · rw [whole, if_neg (by rw [payer]; decide), if_pos payee]
  · rw [whole, if_neg (by rw [payer]; decide), if_neg (by rw [payee]; decide), if_pos short]
  · rw [if_neg (by rw [payer]; decide), if_neg (by rw [payee]; decide), if_neg unshort] at whole
    rw [whole] at decided
    have rest' : (s.executing tag code (.transferJournal o [imageAt s.active o.payer x (x.balance - o.amount),
      imageAt s.active o.payee y (y.balance + o.amount)] 0)).resting := rest
    have granted := State.grant_of_op rest'.freePort ((State.want_of_resting rest').trans rfl)
    have left := decided ((State.turn_of_resting rest').trans rfl)
    rw [granted] at left
    exact left

/-- A TRANSFER decided in the second turn of an event. -/
theorem State.transferOutcome_of_turns {t u : State} {tag code : Byte} {run : Run} (rest : s.resting) (rest' : t.resting)
    (rest'' : u.resting) (he : u.link.executing = some { tag := tag, code := code, run := run })
    (first : s.commandTurn = some t) (second : t.commandTurn = some (u.transferDecide o x y)) :
    u.transferOutcome tag code o x y (s.drive = ·) :=
  State.transferOutcome_of_grant rest'' he fun still =>
    State.drive_of_two ((State.turn_of_resting rest).trans first) ((State.turn_of_resting rest').trans second) still

/-- A TRANSFER decided in the first turn of an event. -/
theorem State.transferOutcome_of_turn {u : State} {tag code : Byte} {run : Run} (rest : s.resting) (rest' : u.resting)
    (he : u.link.executing = some { tag := tag, code := code, run := run })
    (turn : s.commandTurn = some (u.transferDecide o x y)) : u.transferOutcome tag code o x y (s.drive = ·) :=
  State.transferOutcome_of_grant rest' he fun still => State.drive_of_one ((State.turn_of_resting rest).trans turn) still

end

section
variable {s : State} {a line : Nat} {read : Option AccountRecord} {tag code : Byte} {o : TransferOrder}

/-- A TRANSFER refused in an event's only turn (R123). -/
theorem State.drive_of_refusedTransfer {u : State} {e : Executing} (rest : s.resting) (rest' : u.resting)
    (he : u.link.executing = some e) {detail : Nat} {fields : List Byte}
    (turn : s.commandTurn = some (u.transferRefuse detail fields)) :
    s.drive = ({ u with cache := u.cache.unlockAll } : State).answered e.tag e.code .refused detail fields :=
  State.drive_of_answer (t := u.unlock) rest rest' he turn

/-- The engine while a TRANSFER whose payer's line is locked reads its payee (R123, step 2). -/
def State.payerHeld (s : State) (tag code : Byte) (o : TransferOrder) (line : Nat) : State :=
  ({ s with cache := s.cache.setLock line true } : State).executing tag code (.transferPayee o)

/-- The payer's line served: locked when it is good, its account DAMAGED otherwise (R123, step 1). -/
theorem State.commandTurn_of_payer (filled : s.cache.justFilled a line read)
    (he : s.link.executing = some { tag := tag, code := code, run := .transferPayer o }) (account : o.payer = a) :
    s.commandTurn = some (read.elim (s.transferRefuse 14 (be 1 a)) fun _ => s.payerHeld tag code o line) := by
  have turn : s.commandTurn = s.payerTurn o := by simp only [State.commandTurn, State.run_of_executing he]
  rw [turn, State.payerTurn, account]
  rcases read with _ | x
  · rw [filled.damaged]
    dsimp only
    rw [filled.touch_eq]
    rfl
  · rw [filled.good]
    have locked : s.lockLine line = { s with cache := s.cache.setLock line true } := by rw [State.lockLine, filled.used]
    dsimp only
    rw [locked, State.setRun_of_executing (s := { s with cache := s.cache.setLock line true }) he]
    rfl

/-- The payee asked for while the payer's line is held (R123, step 2). -/
theorem State.payerHeld_commandTurn (line : Nat) :
    (s.payerHeld tag code o line).commandTurn = (s.payerHeld tag code o line).payeeTurn o := rfl

/-- A TRANSFER served by its payer's fill (R123). -/
theorem State.drive_of_transferPayer (rest : s.resting) (filled : s.cache.justFilled a line read)
    (he : s.link.executing = some { tag := tag, code := code, run := .transferPayer o }) (account : o.payer = a) :
    (read = none →
      s.drive = ({ s with cache := s.cache.unlockAll } : State).answered tag code .refused 14 (be 1 a)) ∧
    (∀ x, read = some x →
      (∀ free, s.cache.lookup o.payee = .miss → (s.cache.setLock line true).victim none = some free →
        s.drive = (({ s with cache := (s.cache.setLock line true).drop free } : State).executing tag code
          (.transferPayee o)).onPort (.fill .command o.payee free (dirtyRecord ((s.cache.setLock line true).line free)))) ∧
      (∀ j, s.cache.lookup o.payee = .damaged j →
        s.drive = ({ s with cache := ((s.cache.setLock line true).touch j).unlockAll } : State).answered tag code .refused
          14 (be 1 o.payee)) ∧
      (∀ j y, s.cache.lookup o.payee = .good j y →
        ({ s with cache := ((s.cache.setLock line true).touch j).setLock j true } : State).transferOutcome tag code o x y
          (s.drive = ·))) := by
  have first := State.commandTurn_of_payer filled he account
  refine ⟨fun hr => ?_, fun x hr => ?_⟩ <;> subst hr
  · exact State.drive_of_refusedTransfer rest rest he first
  rw [Option.elim_some] at first
  have restHeld : (s.payerHeld tag code o line).resting := rest
  have answers (b : Nat) : (s.payerHeld tag code o line).cache.lookup b = s.cache.lookup b :=
    Cache.lookup_setLock s.cache line true b
  have second := State.payerHeld_commandTurn (s := s) (tag := tag) (code := code) (o := o) line
  have payer : s.cache.lookup o.payer = .good line x := account ▸ filled.good
  rw [State.payeeTurn, answers, answers, payer] at second
  refine ⟨fun free miss hv => ?_, fun j damaged => ?_, fun j y good => ?_⟩
  · rw [miss] at second
    rw [State.drive_of_one ((State.turn_of_resting rest).trans first) ((State.turn_of_resting restHeld).trans second),
      State.grant_of_read restHeld.freePort (r := .command) (a := o.payee) ((State.want_of_resting restHeld).trans rfl),
      State.beginFill_of_victim (s := s.payerHeld tag code o line) hv]
    rfl
  · rw [damaged] at second
    exact State.drive_of_two_commands rest restHeld
      (u := ({ s with cache := ((s.cache.setLock line true).touch j).unlockAll } : State).answered tag code .refused 14
        (be 1 o.payee)) rest first second rfl
  · rw [good] at second
    exact State.transferOutcome_of_turns rest restHeld
      (u := ({ s with cache := ((s.cache.setLock line true).touch j).setLock j true } : State).executing tag code
        (.transferPayee o)) rest rfl first second

/-- A TRANSFER served by its payee's fill (R123). -/
theorem State.drive_of_transferPayee (rest : s.resting) (filled : s.cache.justFilled a line read)
    (he : s.link.executing = some { tag := tag, code := code, run := .transferPayee o }) (account : o.payee = a) :
    (read = none →
      s.drive = ({ s with cache := s.cache.unlockAll } : State).answered tag code .refused 14 (be 1 a)) ∧
    (∀ i x y, read = some y → s.cache.lookup o.payer = .good i x →
      ({ s with cache := s.cache.setLock line true } : State).transferOutcome tag code o x y (s.drive = ·)) := by
  have turn : s.commandTurn = s.payeeTurn o := by simp only [State.commandTurn, State.run_of_executing he]
  rw [State.payeeTurn, account] at turn
  refine ⟨fun hr => ?_, fun i x y hr payer => ?_⟩ <;> subst hr
  · rw [filled.damaged] at turn
    dsimp only at turn
    rw [filled.touch_eq] at turn
    exact State.drive_of_refusedTransfer rest rest he turn
  · have locked : s.lockLine line = { s with cache := s.cache.setLock line true } := by rw [State.lockLine, filled.used]
    rw [filled.good, payer] at turn
    dsimp only at turn
    rw [locked] at turn
    exact State.transferOutcome_of_turn rest (u := { s with cache := s.cache.setLock line true }) rest he turn

end

end Sys2Proof.Machine
end

section
/-! ## A fill completes (O46): the Settlement Unit, the checks, marking, and the Notice Builders -/

namespace Sys2Proof.Machine

section
variable {s : State} {a line : Nat} {read : Option AccountRecord}

/-! ### The Settlement Unit (R91) -/

/-- The record of a line just filled is found. -/
theorem State.found_of_filled (filled : s.cache.justFilled a line read) : s.found a = some (line, read) := by
  rcases read with _ | r
  · exact State.found_of_damaged filled.damaged
  · exact State.found_of_good filled.good

/-- The Settlement Unit's copy of an account taken into its work record (R91). -/
def State.copied (s : State) (w : Work) (a : Nat) (read : Option AccountRecord) (more : List Nat) : State :=
  { s with work := some { w with copies := (a, read) :: w.copies, toRead := more } }

/-- The Settlement Unit copies the record it waited for (R91). -/
theorem State.settleTurn_of_filled {w : Work} {b : Book} {more : List Nat} (filled : s.cache.justFilled a line read)
    (hw : s.work = some w) (hst : w.stage = .reading) (hr : w.toRead = a :: more) (hb : s.book w.book = some b)
    (settling : b.state = .settling) :
    s.settleTurn = some (s.copied w a read more) := by
  have copied : s.copyRecord w a line read = s.copied w a read more := by
    rw [State.copyRecord, filled.used, hr]
    rfl
  simp only [State.settleTurn, hw, hb, settling, hst, hr, State.found_of_filled filled, bne_self_eq_false,
    Bool.false_eq_true, if_false, Option.map_some, copied]

/-- A unit that takes a turn and then asks for an account: the fill is granted. -/
theorem State.othersRest.first_turn {t : State} (h : s.othersRest) (settle : s.settleTurn = some t) : s.turn = some t := by
  rw [h.turn_eq, settle]
  rfl

/-! ### The checks (R64, R65) -/

/-- The checks with the accounts left to read (R64). -/
def State.leftToCheck (s : State) (more : List Nat) : State :=
  { s with activation := { s.activation with toCheck := more } }

/-- The checks ended by a failure (R65). -/
def State.checksFailed (s : State) (f : CheckFailure) : State :=
  { s with
    activation := { s.activation with phase := .idle, toCheck := [], report := some f }
    attention := s.attention.raise (.activateFailed f.1 f.2) }

/-- Check 11 passes an account whose balance is 0 (R64). -/
theorem State.checkTurn_of_zero {r : AccountRecord} {more : List Nat} (filled : s.cache.justFilled a line (some r))
    (checking : s.activation.phase = .checking) (list : s.activation.toCheck = a :: more) (zero : r.balance = 0) :
    s.checkTurn = some (s.leftToCheck more) := by
  simp only [State.checkTurn, checking, list, filled.good, filled.used, zero, bne_self_eq_false, Bool.false_eq_true,
    if_false, if_true]
  rw [State.leftToCheck, ← checking]
  rfl

/-- Check 11 fails on a balance other than 0, and on damage (R64). -/
theorem State.checkTurn_of_fault {more : List Nat} (filled : s.cache.justFilled a line read)
    (checking : s.activation.phase = .checking) (list : s.activation.toCheck = a :: more)
    (fault : ∀ r, read = some r → r.balance ≠ 0) : s.checkTurn = some (s.failChecks (11, some a)) := by
  rcases read with _ | r
  · simp only [State.checkTurn, checking, list, filled.damaged, filled.used, bne_self_eq_false, Bool.false_eq_true,
      if_false]
  · simp only [State.checkTurn, checking, list, filled.good, filled.used, fault r rfl, bne_self_eq_false,
      Bool.false_eq_true, if_false]

/-- While check 11 waits for a record, there is no turn of the checks. -/
theorem State.checkTurn_of_miss {more : List Nat} (checking : s.activation.phase = .checking)
    (list : s.activation.toCheck = a :: more) (miss : s.cache.lookup a = .miss) : s.checkTurn = none := by
  simp only [State.checkTurn, checking, list, miss, bne_self_eq_false, Bool.false_eq_true, if_false]

/-- Failed checks with no boundary to take (R65, R73). -/
theorem State.failChecks_of_none (f : CheckFailure) (behind : ∀ start, s.clock.openStart = some start → s.candidate ≤ start) :
    s.failChecks f = s.checksFailed f :=
  congrArg Prod.fst (State.boundarySearch_of_none (s := s.checksFailed f) (.inr (.inr behind)))

/-! ### Marking (R67) -/

/-- The cache once the marking has passed an account whose line was just filled (R67). -/
def Cache.marked (c : Cache) (a line : Nat) (read : Option AccountRecord) : Cache :=
  match read with
  | some r => c.set line (some { tag := a, record := some { r with rebasePending := true }, dirty := true, locked := false })
  | none => c

/-- The engine once the marking has passed that account (R67). -/
def State.markingPassed (s : State) (a line : Nat) (read : Option AccountRecord) (more : List Nat) : State :=
  { s with cache := s.cache.marked a line read, activation := { s.activation with marking := more } }

/-- The marking sets the flag in a good record and passes over a DAMAGED one (R67). -/
theorem State.markTurn_of_filled {more : List Nat} (filled : s.cache.justFilled a line read) (ready : s.port.state = .ready)
    (list : s.activation.marking = a :: more) :
    s.markTurn = some (s.markingPassed a line read more) := by
  have isReady : s.memoryReady = true := beq_iff_eq.2 ready
  rcases read with _ | r
  · simp only [State.markTurn, isReady, list, filled.damaged, filled.used, Bool.not_true, Bool.false_eq_true, if_false]
    rfl
  · simp only [State.markTurn, isReady, list, filled.good, filled.isLocked, filled.setRebase, Bool.not_true,
      Bool.false_eq_true, if_false]
    rfl

/-! ### The Notice Builders (R136, R158) -/

/-- A prefetch served from the line just filled (R158). -/
theorem State.servePrefetch_of_filled (filled : s.cache.justFilled a line read) (f : Feeder) :
    s.servePrefetch f a =
      s.setPort f { s.ports[f] with prefetch := .arrived a (read.map (householdPart a)) } := by
  rcases read with _ | r
  · simp only [State.servePrefetch, filled.damaged, filled.used]
    rfl
  · simp only [State.servePrefetch, filled.good, filled.used]
    rfl

end

end Sys2Proof.Machine
end

section
/-! ## A fill completes (O46), whole -/

namespace Sys2Proof.Machine

/-- What a TRANSFER comes to, told in another way. -/
theorem State.transferOutcome.imp {s : State} {tag code : Byte} {o : TransferOrder} {x y : AccountRecord}
    {p q : State → Prop} (h : s.transferOutcome tag code o x y p) (pq : ∀ t, p t → q t) :
    s.transferOutcome tag code o x y q := by
  obtain ⟨payer, payee, inRange⟩ := h
  exact ⟨fun hp => pq _ (payer hp), fun hp hq => pq _ (payee hp hq), fun hp hq =>
    ⟨fun short => pq _ ((inRange hp hq).1 short), fun unshort => pq _ ((inRange hp hq).2 unshort)⟩⟩

/-- READ ACCOUNT's fields, of a clean line (R180). -/
theorem accountFields_clean (a : Nat) (read : Option AccountRecord) :
    accountFields a read false =
      match read with
      | some r => be 1 a ++ recordFields r ++ [0]
      | none => be 1 a ++ [1] := by
  cases read <;> rfl

/-- A BLOCK's body, of a clean line (R186). -/
theorem blockBody_clean (a blocks : Nat) (read : Option AccountRecord) :
    blockBody a blocks read false =
      be 1 a ++ be 1 blocks ++ (match read with | some x => [0] ++ recordFields x | none => [1]) := by
  rcases read with _ | r
  · rfl
  · exact List.append_assoc (be 1 a ++ be 1 blocks) [0] (recordFields r)

/-- A cut command's RESULT (R169). -/
theorem State.cutEnd_of_executing {s : State} {e : Executing} (he : s.link.executing = some e) (reason : CutReason)
    (flushed : Option Nat) :
    s.cutEnd reason flushed = s.answered e.tag e.code .cut (cutCode reason) (flushed.elim [] (be 1)) := by
  cases flushed <;> exact State.answer_of_executing he _ _ _

section
variable {s : State} {a line : Nat} {victim : Option (Nat × AccountRecord)} {returned : Option (List Byte)}

/-- The engine with its port freed. -/
def State.portFreed (s : State) : State := { s with port := { s.port with inProgress := none } }

/-- A fill that an uncut command waited for serves that command. -/
theorem exec_cacheFill_command {e : Executing} (h : s.port.inProgress = some (.fill .command a line victim))
    (rest : s.portFreed.resting) (he : s.link.executing = some e) (uncut : ∀ reason n, e.run ≠ .cutting reason n) {t : State}
    (served : (s.filledBy .command a line victim (s.fillRead a victim returned)).drive = t) :
    exec (.cacheFill returned) s = .next t := by
  have run : (s.filledBy .command a line victim (s.fillRead a victim returned)).run = some e.run :=
    State.run_of_executing he
  rw [exec_cacheFill_quiet h returned rest.noNotice, State.endCut_of_run run uncut, served]

/-- A command cut while it waited for its fill ends with it (R168, R169). -/
theorem exec_cacheFill_cut {tag code : Byte} {reason : CutReason} {flushed : Option Nat}
    (h : s.port.inProgress = some (.fill .command a line victim)) (rest : s.portFreed.resting)
    (he : s.link.executing = some { tag := tag, code := code, run := .cutting reason flushed }) :
    exec (.cacheFill returned) s = .next
      ((s.filledBy .command a line victim (s.fillRead a victim returned)).answered tag code .cut (cutCode reason)
        (flushed.elim [] (be 1))) := by
  have run : (s.filledBy .command a line victim (s.fillRead a victim returned)).run = some (.cutting reason flushed) :=
    State.run_of_executing he
  rw [exec_cacheFill_quiet h returned rest.noNotice, State.endCut, run]
  dsimp only
  rw [State.cutEnd_of_executing (s := s.filledBy .command a line victim (s.fillRead a victim returned)) he]
  exact congrArg Host.Outcome.next (State.drive_of_resting rest rfl)

/-- A fill that no command waited for, with none in its execution phase and no prefetch waiting. -/
theorem exec_cacheFill_unit {reader : Reader} (h : s.port.inProgress = some (.fill reader a line victim))
    (still : ∀ f : Feeder, s.ports[f].prefetch.isWaiting = false) (done : s.commandDone = true) {t : State}
    (served : (s.filledBy reader a line victim (s.fillRead a victim returned)).drive = t) :
    exec (.cacheFill returned) s = .next t := by
  have done' : (s.filledBy reader a line victim (s.fillRead a victim returned)).commandDone = true := done
  rw [exec_cacheFill_quiet h returned still, State.endCut_of_done done', served]

end

/-! ### The Settlement Unit, the checks and marking -/

section
variable {s : State} {a line : Nat} {read : Option AccountRecord}

/-- The Settlement Unit copies the record its fill brought and is granted its next read (R91). -/
theorem State.drive_of_settlementFill {w : Work} {b line' : Nat} {more : List Nat} {book : Book} (rest : s.othersRest)
    (filled : s.cache.justFilled a line read) (hw : s.work = some w) (hst : w.stage = .reading)
    (hr : w.toRead = a :: b :: more) (hb : s.book w.book = some book) (settling : book.state = .settling)
    (oldest : s.oldestOpen = some book) (hc : s.activation.phase ≠ .checking) (hm : s.activation.marking = [])
    (ready : s.port.state = .ready) (miss : s.cache.lookup b = .miss) (hv : s.cache.victim none = some line') :
    s.drive = ({ s with
      work := some { w with copies := (a, read) :: w.copies, toRead := b :: more }
      cache := s.cache.drop line' } : State).onPort (.fill .settlement b line' (dirtyRecord (s.cache.line line'))) := by
  have first := rest.first_turn (State.settleTurn_of_filled filled hw hst hr hb settling)
  have rest' : (s.copied w a read (b :: more)).othersRest := rest.congr rfl rfl rfl rfl rfl (fun _ => rfl) rest.noCommit
  have unadmitted : (s.copied w a read (b :: more)).admissible = none :=
    State.admissible_of_oldest (s := s.copied w a read (b :: more)) oldest (by rw [settling]; exact BookState.noConfusion)
  rw [State.drive_of_one first (rest'.turn_of_reading rfl hst rfl miss hc hm unadmitted),
    rest'.grant_of_settlement ready (State.settleWant_of_reading rfl hst rfl) hv]
  rfl

/-- With no book to settle, a turn of the checks comes first. -/
theorem State.othersRest.turn_of_check {t : State} (h : s.othersRest) (hw : s.work = none)
    (check : s.checkTurn = some t) : s.turn = some t := by
  rw [h.turn_eq, State.settleTurn_of_noWork hw, check]
  rfl

/-- With no book to settle and nothing to check, a turn of the marking comes first. -/
theorem State.othersRest.turn_of_mark {t : State} (h : s.othersRest) (hw : s.work = none)
    (hc : s.activation.phase ≠ .checking) (mark : s.markTurn = some t) : s.turn = some t := by
  rw [h.turn_eq, State.settleTurn_of_noWork hw, State.checkTurn_of_notChecking hc, mark]
  rfl

/-- While check 11 waits for a record, and nothing is to be settled, marked or admitted, there is no turn. -/
theorem State.othersRest.turn_of_checking {b : Nat} {more : List Nat} (h : s.othersRest) (hw : s.work = none)
    (checking : s.activation.phase = .checking) (list : s.activation.toCheck = b :: more) (miss : s.cache.lookup b = .miss)
    (hm : s.activation.marking = []) (hb : s.admissible = none) : s.turn = none := by
  rw [h.turn_eq, State.settleTurn_of_noWork hw, State.checkTurn_of_miss checking list miss, State.markTurn_of_nil hm, hb]
  rfl

/-- The checks go on to the accounts left with every other unit at rest. -/
theorem State.othersRest.leftToCheck (h : s.othersRest) (checking : s.activation.phase = .checking) (more : List Nat) :
    (s.leftToCheck more).othersRest := by
  have phase : (s.leftToCheck more).activation.phase = .checking := checking
  exact h.congr rfl rfl rfl rfl rfl (fun _ => rfl)
    (State.commitMoment_of_phase (by rw [phase]; exact ActivationPhase.noConfusion))

/-- A turn after which nothing is to be settled, checked, marked or admitted is an event's last. -/
theorem State.othersRest.drive_after_turn {t : State} (h : t.othersRest) (first : s.turn = some t) (hw : t.work = none)
    (hc : t.activation.phase ≠ .checking) (hm : t.activation.marking = []) (hb : t.admissible = none) : s.drive = t := by
  rw [State.drive_of_one first (h.turn_of_none hw hc hm hb), State.grant_of_none (h.want_of_none hw hc hm)]

/-- Check 11 passes an account and is granted its next read (R64). -/
theorem State.drive_of_passedCheck {r : AccountRecord} {b line' : Nat} {more : List Nat} (rest : s.othersRest)
    (filled : s.cache.justFilled a line read) (good : read = some r) (hw : s.work = none)
    (checking : s.activation.phase = .checking) (list : s.activation.toCheck = a :: b :: more)
    (hm : s.activation.marking = []) (hb : s.admissible = none)
    (ready : s.port.state = .ready) (zero : r.balance = 0) (miss : s.cache.lookup b = .miss)
    (hv : s.cache.victim none = some line') :
    s.drive = ({ s with
      activation := { s.activation with toCheck := b :: more }
      cache := s.cache.drop line' } : State).onPort (.fill .activation b line' (dirtyRecord (s.cache.line line'))) := by
  subst good
  have first := rest.turn_of_check hw (State.checkTurn_of_zero filled checking list zero)
  have rest' := rest.leftToCheck checking (b :: more)
  have wants : (s.leftToCheck (b :: more)).activationWant = some b := by
    rw [State.activationWant, if_pos (show (s.leftToCheck (b :: more)).activation.phase = .checking from checking)]
    rfl
  rw [State.drive_of_one first (rest'.turn_of_checking hw checking rfl miss hm hb),
    rest'.grant_of_activation ready hw wants hv]
  rfl

/-- Check 11 fails, and with no boundary to take the event ends (R65). -/
theorem State.drive_of_failedCheck {more : List Nat} (rest : s.othersRest) (filled : s.cache.justFilled a line read)
    (hw : s.work = none) (checking : s.activation.phase = .checking) (list : s.activation.toCheck = a :: more)
    (hm : s.activation.marking = []) (hb : s.admissible = none) (fault : ∀ r, read = some r → r.balance ≠ 0)
    (behind : ∀ start, s.clock.openStart = some start → s.candidate ≤ start) :
    s.drive = s.checksFailed (11, some a) := by
  have first : s.turn = some (s.checksFailed (11, some a)) :=
    rest.turn_of_check hw ((State.checkTurn_of_fault filled checking list fault).trans
      (congrArg some (State.failChecks_of_none (11, some a) behind)))
  have rest' : (s.checksFailed (11, some a)).othersRest := rest.congr rfl rfl rfl rfl rfl (fun _ => rfl)
    (State.commitMoment_of_phase (s := s.checksFailed (11, some a)) ActivationPhase.noConfusion)
  exact rest'.drive_after_turn first hw ActivationPhase.noConfusion hm hb

/-- Marking passes its last account (R67). -/
theorem State.drive_of_lastMark (rest : s.othersRest) (filled : s.cache.justFilled a line read) (hw : s.work = none)
    (hc : s.activation.phase ≠ .checking) (hq : s.activation.phase ≠ .awaitQuiet) (list : s.activation.marking = [a])
    (ready : s.port.state = .ready) (hb : ∀ t : State, t.books = s.books → t.admissible = none) :
    s.drive = s.markingPassed a line read [] := by
  have first := rest.turn_of_mark hw hc (State.markTurn_of_filled filled ready list)
  have rest' : (s.markingPassed a line read []).othersRest := rest.congr rfl rfl rfl rfl rfl (fun _ => rfl)
    (State.commitMoment_of_phase (s := s.markingPassed a line read []) hq)
  exact rest'.drive_after_turn first hw hc rfl (hb _ rfl)

end

end Sys2Proof.Machine
end

section
/-! ### The Notice Builders (R136, R158), and the whole (O46) -/

namespace Sys2Proof.Machine

section
variable {s : State} {a line : Nat} {victim : Option (Nat × AccountRecord)} {returned : Option (List Byte)}
  {reader : Reader} {f : Feeder}

/-- The engine with a Notice Builder's prefetch served by the fill (R158). -/
def State.arrivedBy (s : State) (reader : Reader) (a line : Nat) (victim : Option (Nat × AccountRecord))
    (read : Option AccountRecord) (f : Feeder) : State :=
  (s.filledBy reader a line victim read).setPort f
    { s.ports[f] with prefetch := .arrived a (read.map (householdPart a)) }

/-- A fill that one Notice Builder waited for serves it. -/
theorem exec_cacheFill_notice (h : s.port.inProgress = some (.fill reader a line victim)) (inCache : line < 32)
    (missing : s.cache.find a = none) (waits : s.ports[f].prefetch = .waiting a)
    (alone : ∀ g : Feeder, g ≠ f → s.ports[g].prefetch ≠ .waiting a) :
    exec (.cacheFill returned) s =
      .next (s.arrivedBy reader a line victim (s.fillRead a victim returned) f).completed := by
  rw [exec_cacheFill h, State.fillArrived_one (s.filledBy reader a line victim (s.fillRead a victim returned)) a f waits
    alone, State.servePrefetch_of_filled (Cache.fill_justFilled _ inCache missing)]
  rfl

/-- At rest otherwise, that is all (R158). -/
theorem State.completed_of_resting (rest : s.resting) (done : s.commandDone = true) : s.completed = s := by
  rw [State.completed, State.endCut_of_done done, State.drive_of_resting rest done]

/-- A RESTART sequence whose flush has ended, with no command: start-up's header read is granted (R175, R176). -/
theorem State.completed_of_flushed {keepHeld : Bool} (runs : s.isQuiesced = false) (flush : s.sequence = .flush keepHeld)
    (idle : s.link.executing = none) (free : s.port.inProgress = none) (clean : s.cache.dirtyAccounts = []) :
    s.completed = (s.beginStartup keepHeld).onPort .startupHeaderRead := by
  have done : s.commandDone = true := by simp only [State.commandDone, State.run, idle, Option.map_none]
  have asks : (s.beginStartup keepHeld).want = some (.op .startupHeaderRead) := State.want_of_sequence_startup runs rfl rfl
  rw [State.completed, State.endCut_of_done done, State.drive_of_one
    (State.turn_of_sequence_flush runs flush (State.flushed_of_free free clean)) (State.turn_of_sequence_startup runs rfl)]
  exact State.grant_of_op (s := s.beginStartup keepHeld) free asks

end

/-- Without a WAITING book none is admitted (R80). -/
theorem State.admissible_of_rested {s t : State} (rest : s.resting) (books : t.books = s.books) : t.admissible = none := by
  obtain ⟨_, _, _, _, _, _, _, _, _, waiting, _⟩ := rest
  exact State.admissible_of_none fun b hb => (waiting b (books ▸ hb)).1

/-- While the checks wait for a record that a fill brings, the other units are at rest. -/
theorem State.othersRest_of_checking {s : State} {a line : Nat} {victim : Option (Nat × AccountRecord)}
    {read : Option AccountRecord}
    (rest : (({ s with activation := { s.activation with phase := .idle } } : State).portFreed).resting)
    (done : s.commandDone = true) (checking : s.activation.phase = .checking) :
    (s.filledBy .activation a line victim read).othersRest := by
  have phase : (s.filledBy .activation a line victim read).activation.phase = .checking := checking
  exact (rest.othersRest done).congr rfl rfl rfl rfl rfl (fun _ => rfl)
    (State.commitMoment_of_phase (by rw [phase]; exact ActivationPhase.noConfusion))

/-- Settles O46: the line filled, then each reader served. -/
theorem cacheFillServesTheReadThatWaited : Obligations.CacheFillServesTheReadThatWaited := by
  intro s a line victim returned inCache missing
  have filled := Cache.fill_justFilled (s.fillRead a victim returned) inCache missing
  refine ⟨fun tag code h rest => ⟨fun he => ?readAccount, fun reason flushed he => ?cut,
      fun r he hand unblocked hits => ?sweep, fun r he hand tested going => ?scan⟩,
    fun tag code h rest => ⟨fun he => ?rebase, fun o he account => ?repair, fun o _ =>
      ⟨fun he account => ?payer, fun he account => ?payee⟩⟩,
    fun w b more line' b' h done hw hst hr hb settling oldest rest ready miss hv => ?settlement,
    fun b more line' h done checking list ready _ rest => ⟨fun r hr zero miss hv => ?passed, fun fault behind => ?failed⟩,
    fun h done list ready rest => ?marking,
    fun reader f h waits alone => ⟨fun rest done => ?notice, fun keepHeld runs flush idle clean => ?flush⟩⟩
  case readAccount =>
    refine exec_cacheFill_command h rest he (fun _ _ => Run.noConfusion)
      ((State.drive_of_readAccount (s := s.filledBy .command a line victim (s.fillRead a victim returned)) rest filled
        he).trans ?_)
    rw [accountFields_clean]
    rfl
  case cut =>
    refine (exec_cacheFill_cut h rest he).trans ?_
    cases reason <;> cases flushed <;> rfl
  case sweep =>
    refine exec_cacheFill_command h rest he (fun _ _ => Run.noConfusion)
      ((State.drive_of_sweep (s := s.filledBy .command a line victim (s.fillRead a victim returned)) rest filled he hand
        unblocked hits).trans ?_)
    rw [SweepRun.blocked, blockBody_clean]
    rfl
  case scan =>
    have served := State.drive_of_scan (s := s.filledBy .command a line victim (s.fillRead a victim returned)) rest
      filled he hand tested going
    obtain ⟨satisfied, unsatisfied, damaged⟩ := served
    have serve {t : State} := exec_cacheFill_command (returned := returned) (t := t) h rest he (fun _ _ => Run.noConfusion)
    exact ⟨fun x hx holds => serve (satisfied x hx holds), fun x hx fails last => serve (unsatisfied x hx fails last),
      fun hx last => serve (damaged hx last)⟩
  case rebase =>
    obtain ⟨good, damaged⟩ := State.drive_of_rebaseRead
      (s := s.filledBy .command a line victim (s.fillRead a victim returned)) rest filled he
    have serve {t : State} := exec_cacheFill_command (returned := returned) (t := t) h rest he (fun _ _ => Run.noConfusion)
    exact ⟨fun r hr => serve (good r hr), fun hr => serve (damaged hr)⟩
  case repair =>
    obtain ⟨good, damaged⟩ := State.drive_of_repairRead
      (s := s.filledBy .command a line victim (s.fillRead a victim returned)) rest filled he account
    have serve {t : State} := exec_cacheFill_command (returned := returned) (t := t) h rest he (fun _ _ => Run.noConfusion)
    subst account
    exact ⟨fun r hr => serve (good r hr), fun hr => serve (damaged hr)⟩
  case payer =>
    obtain ⟨damaged, good⟩ := State.drive_of_transferPayer
      (s := s.filledBy .command a line victim (s.fillRead a victim returned)) rest filled he account
    have serve {t : State} := exec_cacheFill_command (returned := returned) (t := t) h rest he (fun _ _ => Run.noConfusion)
    refine ⟨fun hr => serve (damaged hr), fun x hx => ?_⟩
    obtain ⟨payeeMiss, payeeDamaged, payeeGood⟩ := good x hx
    exact ⟨fun free miss hv => serve (payeeMiss free miss hv), fun j hj => serve (payeeDamaged j hj),
      fun j y hy => (payeeGood j y hy).imp fun _ => serve⟩
  case payee =>
    obtain ⟨damaged, good⟩ := State.drive_of_transferPayee
      (s := s.filledBy .command a line victim (s.fillRead a victim returned)) rest filled he account
    have serve {t : State} := exec_cacheFill_command (returned := returned) (t := t) h rest he (fun _ _ => Run.noConfusion)
    exact ⟨fun hr => serve (damaged hr), fun i x y hy payer => (good i x y hy payer).imp fun _ => serve⟩
  case settlement =>
    have units := rest.unitsRest
    have others : (s.filledBy .settlement a line victim (s.fillRead a victim returned)).othersRest :=
      (rest.othersRest done).congr rfl rfl rfl rfl rfl (fun _ => rfl)
        (State.commitMoment_of_phase (s := s.filledBy .settlement a line victim (s.fillRead a victim returned))
          units.notAwaiting)
    rw [Book.open_eq] at oldest
    exact exec_cacheFill_unit h rest.noNotice done (State.drive_of_settlementFill others filled hw hst hr hb settling oldest
      units.notChecking units.noMarking ready miss hv)
  case passed =>
    have units := rest.unitsRest
    exact exec_cacheFill_unit h rest.noNotice done (State.drive_of_passedCheck
      (State.othersRest_of_checking rest done checking) filled hr units.noWork checking list units.noMarking
      (State.admissible_of_rested rest rfl) ready zero miss hv)
  case failed =>
    have units := rest.unitsRest
    exact exec_cacheFill_unit h rest.noNotice done (State.drive_of_failedCheck
      (State.othersRest_of_checking rest done checking) filled units.noWork checking list units.noMarking
      (State.admissible_of_rested rest rfl) fault behind)
  case marking =>
    have units := rest.unitsRest
    have others : (s.filledBy .activation a line victim (s.fillRead a victim returned)).othersRest :=
      (rest.othersRest done).congr rfl rfl rfl rfl rfl (fun _ => rfl)
        (State.commitMoment_of_phase (s := s.filledBy .activation a line victim (s.fillRead a victim returned))
          units.notAwaiting)
    exact exec_cacheFill_unit h rest.noNotice done (State.drive_of_lastMark others filled units.noWork units.notChecking
      units.notAwaiting list ready fun _ books => State.admissible_of_rested rest books)
  case notice =>
    refine (exec_cacheFill_notice h inCache missing waits alone).trans (congrArg Host.Outcome.next ?_)
    exact State.completed_of_resting rest done
  case flush =>
    refine (exec_cacheFill_notice h inCache missing waits alone).trans (congrArg Host.Outcome.next ?_)
    refine (State.completed_of_flushed (s := s.arrivedBy reader a line victim (s.fillRead a victim returned) f) runs flush
      idle rfl clean).trans ?_
    rw [State.beginStartup, State.withdrawPrefetches_eq]
    rfl

end Sys2Proof.Machine
end

section
/-! ## The commit (O9): the feeders -/

namespace Sys2Proof.Machine

/-- A commit's effect on a feeder's port, its new entry enabled or not (R13). -/
def FeederPort.committed (p : FeederPort) (enabled : Bool) : FeederPort :=
  if p.state = .off ∧ enabled = true then
    { p with state := .running, window := .headDue, round := none, sending := [], driving := false }
  else if (p.state = .running ∨ p.state = .holdPending) ∧ p.round = none ∧ enabled = false then
    { p with state := .off, window := .shut, sending := [], driving := false }
  else p

/-- A port that a commit makes OFF has no enrolment LISTENING (R19). -/
def FeederPort.silent (p : FeederPort) (enabled : Bool) : Prop :=
  p.state = .running ∨ p.state = .holdPending →
    p.round ≠ none ∨ enabled = true ∨ p.enrolment.condition ≠ .listening

/-- A commit leaves a port's prefetch. -/
theorem FeederPort.committed_prefetch (p : FeederPort) (enabled : Bool) : (p.committed enabled).prefetch = p.prefetch := by
  unfold FeederPort.committed
  split
  · rfl
  · split <;> rfl

/-- A commit leaves a port's round number. -/
theorem FeederPort.committed_number (p : FeederPort) (enabled : Bool) : (p.committed enabled).number = p.number := by
  unfold FeederPort.committed
  split
  · rfl
  · split <;> rfl

section
variable {p : FeederPort} (enabled : Bool)

/-- A commit starts an OFF feeder that is enabled. -/
theorem FeederPort.committed_of_off (h : p.state = .off) : p.committed enabled = if enabled then p.newRound else p := by
  cases enabled <;> simp [FeederPort.committed, FeederPort.newRound, h]

/-- A commit leaves a HELD feeder. -/
theorem FeederPort.committed_of_held (h : p.state = .held) : p.committed enabled = p := by
  simp [FeederPort.committed, h]

/-- A commit stops a feeder that is disabled and has no round in progress. -/
theorem FeederPort.committed_of_active (h : p.state = .running ∨ p.state = .holdPending) :
    p.committed enabled =
      if p.round = none ∧ enabled = false then
        { p with state := .off, window := .shut, sending := [], driving := false }
      else p := by
  have on : ¬(p.state = .off ∧ enabled = true) := fun ⟨off, _⟩ => by simp [off] at h
  simp only [FeederPort.committed, on, h, if_false, true_and]

/-- An OFF feeder's state after a commit. -/
theorem FeederPort.committed_state_of_off (h : p.state = .off) :
    (p.committed enabled).state = if enabled then .running else .off := by
  rw [FeederPort.committed_of_off enabled h]
  cases enabled
  · exact h
  · rfl

end

/-- A port with no round in progress that goes OFF (R13). -/
theorem FeederPort.stop_of_noRound {p : FeederPort} (h : p.round = none) (st : FeederState) :
    p.stop st = { p with state := st, window := .shut, sending := [], driving := false } := by
  rw [FeederPort.stop, ← h]

section
variable {s : State} {f : Feeder}

/-- A commit's effect on a feeder that is neither OFF nor HELD (R13). -/
theorem State.commitActive_eq (active : s.ports[f].state = .running ∨ s.ports[f].state = .holdPending)
    (silent : s.ports[f].silent (s.enabled f)) :
    (if (!s.enabled f && s.ports[f].round.isNone) = true then s.feederOff f else s) =
      s.setPort f (s.ports[f].committed (s.enabled f)) := by
  have stops : (!s.enabled f && s.ports[f].round.isNone) = true ↔ s.ports[f].round = none ∧ s.enabled f = false := by
    simp [and_comm]
  rw [FeederPort.committed_of_active _ active]
  simp only [stops]
  split
  · rename_i off
    obtain ⟨noRound, disabled⟩ := off
    have deaf : s.ports[f].enrolment.condition ≠ .listening := by
      rcases silent active with round | enabled | deaf
      · exact absurd noRound round
      · rw [disabled] at enabled
        cases enabled
      · exact deaf
    rw [State.feederOff_eq]
    simp only [deaf, if_false, FeederPort.stop_of_noRound noRound]
  · exact (State.setPort_same s f).symm

/-- A commit's effect on one feeder (R13, R66 step 2). -/
theorem State.commitFeeder_eq (silent : s.ports[f].silent (s.enabled f)) :
    s.commitFeeder f = s.setPort f (s.ports[f].committed (s.enabled f)) := by
  cases hst : s.ports[f].state with
  | running =>
    rw [← State.commitActive_eq (.inl hst) silent, State.commitFeeder]
    simp only [hst]
  | holdPending =>
    rw [← State.commitActive_eq (.inr hst) silent, State.commitFeeder]
    simp only [hst]
  | off =>
    rw [State.commitFeeder, FeederPort.committed_of_off _ hst]
    simp only [hst]
    split
    · rfl
    · exact (State.setPort_same s f).symm
  | held =>
    rw [State.commitFeeder, FeederPort.committed_of_held _ hst, State.setPort_same]
    simp only [hst]

/-- The ports replaced as a whole. -/
def State.withPorts (s : State) (ports : Vector FeederPort 4) : State := { s with ports := ports }

/-- A commit's effect on the feeders of a list. -/
theorem State.foldl_commitFeeder (fs : List Feeder) (nodup : fs.Nodup) (s : State)
    (silent : ∀ f : Feeder, f ∈ fs → s.ports[f].silent (s.enabled f)) :
    fs.foldl State.commitFeeder s =
      s.withPorts (Vector.ofFn fun f : Feeder => if f ∈ fs then s.ports[f].committed (s.enabled f) else s.ports[f]) := by
  induction fs generalizing s with
  | nil => exact congrArg s.withPorts (Vector.ext fun i hi => by simp)
  | cons f fs ih =>
    obtain ⟨apart, nodup'⟩ := List.nodup_cons.1 nodup
    have other (g : Feeder) (hg : g ∈ fs) : (s.setPort f (s.ports[f].committed (s.enabled f))).ports[g] = s.ports[g] :=
      State.setPort_other s (fun e : f = g => apart (by rw [e]; exact hg)) _
    rw [List.foldl_cons, State.commitFeeder_eq (silent f List.mem_cons_self), ih nodup' _ fun g hg => by
      rw [other g hg]
      exact silent g (List.mem_cons_of_mem _ hg)]
    refine congrArg s.withPorts (Vector.ext fun i hi => ?_)
    rw [Vector.getElem_ofFn, Vector.getElem_ofFn]
    generalize (⟨i, hi⟩ : Feeder) = g
    by_cases same : g = f
    · subst same
      rw [if_neg apart, if_pos List.mem_cons_self, State.setPort_self]
    · have mem : g ∈ f :: fs ↔ g ∈ fs := by simp [same]
      simp only [mem]
      rw [State.setPort_other s (Ne.symm same)]
      rfl

/-- A commit's effect on the feeders (R66 step 2). -/
theorem State.commitFeeders_eq (silent : ∀ f : Feeder, s.ports[f].silent (s.enabled f)) :
    (List.finRange 4).foldl State.commitFeeder s =
      s.withPorts (Vector.ofFn fun f : Feeder => s.ports[f].committed (s.enabled f)) := by
  rw [State.foldl_commitFeeder _ (List.nodup_finRange 4) s fun f _ => silent f]
  simp only [List.mem_finRange, if_true]

end

end Sys2Proof.Machine
end

section
/-! ## The commit (O9), whole -/

namespace Sys2Proof.Machine

section
variable {s : State}

/-- The live-state records after a commit (R66, step 1). -/
def State.committedLive (s : State) : Vector LiveState 192 :=
  Vector.ofFn fun i : Fin 192 =>
    if meterChanged (s.active.entry i.val) (s.staged.entry i.val) then .initial else s.live[i]

/-- A feeder's port after a commit (R66 step 2, R151). -/
def State.committedPort (s : State) (f : Feeder) : FeederPort :=
  ({ s.ports[f] with queue := commitQueue s.active s.staged f.val s.ports[f].queue } : FeederPort).committed
    (s.staged.feeder f.val).enabled

/-- The engine with its sets exchanged and what reads them adjusted, before the phase and the report (R66, steps 1 and
2). -/
def State.tablesCommitted (s : State) : State :=
  { s with
    active := s.staged, staged := s.active, live := s.committedLive
    ports := Vector.ofFn fun f : Feeder => s.committedPort f }

/-- The first two steps of a commit (R66). -/
theorem State.commitFeeders_exchange (silent : ∀ f : Feeder, s.ports[f].silent (s.staged.feeder f.val).enabled) :
    (List.finRange 4).foldl State.commitFeeder s.exchange = s.tablesCommitted := by
  have ports (f : Feeder) : s.exchange.ports[f] =
      { s.ports[f] with queue := commitQueue s.active s.staged f.val s.ports[f].queue } :=
    Vector.getElem_ofFn f.isLt
  rw [State.commitFeeders_eq (s := s.exchange) fun f => by rw [ports f]; exact silent f]
  refine congrArg s.exchange.withPorts (congrArg Vector.ofFn (funext fun f => ?_))
  rw [ports f]
  rfl

/-- The engine a commit leaves, before the boundary search: the phase IDLE, what is to be marked, and ACTIVATED (R66). -/
def State.commitReported (s : State) (marking : List Nat) : State :=
  { s with
    activation := { s.activation with phase := .idle, toCheck := [], marking := marking }
    attention := s.attention.raise (.activated marking.length s.engine) }

/-- A commit in RUNNING with no boundary to take (R66). -/
theorem State.commit_of_running (running : s.engine = .running)
    (silent : ∀ f : Feeder, s.ports[f].silent (s.staged.feeder f.val).enabled)
    (behind : ∀ start, s.clock.openStart = some start → lastMultiple s.staged.general.interval s.clock.minute ≤ start) :
    s.commit = s.tablesCommitted.commitReported (markingList s.active s.staged) := by
  have still : s.tablesCommitted.becomeRunning = s.tablesCommitted :=
    if_neg fun h : s.engine = .unconfigured => by rw [running] at h; cases h
  rw [State.commit, State.commitFeeders_exchange silent, still]
  exact congrArg Prod.fst (State.boundarySearch_of_none
    (s := s.tablesCommitted.commitReported (markingList s.active s.staged)) (.inr (.inr behind)))

/-- The engine RUNNING, its first interval open (R72). -/
def State.opened (s : State) : State :=
  { s with
    engine := .running
    clock := { s.clock with openStart := some (lastMultiple s.active.general.interval s.clock.minute) } }

/-- A commit in UNCONFIGURED (R66, R72). -/
theorem State.commit_of_unconfigured (unconfigured : s.engine = .unconfigured)
    (silent : ∀ f : Feeder, s.ports[f].silent (s.staged.feeder f.val).enabled) :
    s.commit = s.tablesCommitted.opened.commitReported (markingList s.active s.staged) := by
  have opens : s.tablesCommitted.becomeRunning = s.tablesCommitted.opened := if_pos unconfigured
  rw [State.commit, State.commitFeeders_exchange silent, opens]
  refine congrArg Prod.fst (State.boundarySearch_of_none
    (s := s.tablesCommitted.opened.commitReported (markingList s.active s.staged)) (.inr (.inr fun start hs => ?_)))
  exact Nat.le_of_eq (Option.some.inj hs)

/-- A commit leaves the prefetches. -/
theorem State.tablesCommitted_prefetch (f : Feeder) : s.tablesCommitted.ports[f].prefetch = s.ports[f].prefetch := by
  have port : s.tablesCommitted.ports[f] = s.committedPort f := Vector.getElem_ofFn f.isLt
  rw [port, State.committedPort, FeederPort.committed_prefetch]

/-- A record that an event waits for gives marking no turn. -/
theorem State.markTurn_of_miss {i : Nat} {more : List Nat} (list : s.activation.marking = i :: more)
    (miss : s.cache.lookup i = .miss) : s.markTurn = none := by
  simp only [State.markTurn, list, miss, ite_self]

end

end Sys2Proof.Machine
end

section
/-! ### The two occasions of a commit (O9) -/

namespace Sys2Proof.Machine

section
variable {s : State}

/-- A meter has changed when its serial, kind, feeder or slot has (R24). -/
theorem meterChanged_iff (a b : ParticipantEntry) :
    meterChanged a b = true ↔ a.serial ≠ b.serial ∨ a.kind ≠ b.kind ∨ a.feeder ≠ b.feeder ∨ a.slot ≠ b.slot := by
  simp only [meterChanged, Bool.or_eq_true, bne_iff_ne, or_assoc]

/-- The live-state records after a commit, as the statement writes them. -/
theorem State.committedLive_eq (s : State) :
    s.committedLive = Vector.ofFn fun i : Fin 192 =>
      if (s.active.entry i).serial ≠ (s.staged.entry i).serial ∨ (s.active.entry i).kind ≠ (s.staged.entry i).kind ∨
         (s.active.entry i).feeder ≠ (s.staged.entry i).feeder ∨ (s.active.entry i).slot ≠ (s.staged.entry i).slot
      then .initial else s.live[i] := by
  simp only [State.committedLive, meterChanged_iff]

/-- While marking waits for its record, or has none left, there is no turn. -/
theorem State.othersRest.turn_of_marking (h : s.othersRest) (hw : s.work = none) (hc : s.activation.phase ≠ .checking)
    (miss : ∀ i more, s.activation.marking = i :: more → s.cache.lookup i = .miss) (hb : s.admissible = none) :
    s.turn = none := by
  have unmarked : s.markTurn = none := by
    rcases list : s.activation.marking with _ | ⟨i, more⟩
    · exact State.markTurn_of_nil list
    · exact State.markTurn_of_miss list (miss i more list)
  rw [h.turn_eq, State.settleTurn_of_noWork hw, State.checkTurn_of_notChecking hc, unmarked, hb]
  rfl

/-- The record that marking asks for (R67). -/
theorem State.activationWant_of_marking {i : Nat} {more : List Nat} (hc : s.activation.phase ≠ .checking)
    (ready : s.port.state = .ready) (list : s.activation.marking = i :: more) (miss : s.cache.lookup i = .miss) :
    s.activationWant = some i := by
  have isReady : s.memoryReady = true := beq_iff_eq.2 ready
  simp only [State.activationWant, hc, isReady, list, miss, if_false, if_true]

/-! ### In RUNNING: the last read of check 11 -/

/-- The engine a commit leaves whose last account check 11 has passed (R66). -/
def State.checksCommitted (s : State) : State :=
  (s.leftToCheck []).tablesCommitted.commitReported (markingList s.active s.staged)

/-- That engine, field by field. -/
theorem State.checksCommitted_eq (running : s.engine = .running) :
    s.checksCommitted =
      { s with
        active := s.staged, staged := s.active
        activation := { s.activation with phase := .idle, toCheck := [], marking := markingList s.active s.staged }
        attention := s.attention.raise (.activated (markingList s.active s.staged).length .running)
        live := Vector.ofFn fun i : Fin 192 =>
          if (s.active.entry i).serial ≠ (s.staged.entry i).serial ∨ (s.active.entry i).kind ≠ (s.staged.entry i).kind ∨
             (s.active.entry i).feeder ≠ (s.staged.entry i).feeder ∨ (s.active.entry i).slot ≠ (s.staged.entry i).slot
          then .initial else s.live[i]
        ports := Vector.ofFn fun f : Feeder => s.committedPort f } := by
  rw [← State.committedLive_eq, ← running]
  rfl

/-- With no account left to check, the checks' turn is the commit (R64, R66). -/
theorem State.checkTurn_of_passed (checking : s.activation.phase = .checking) (running : s.engine = .running)
    (silent : ∀ f : Feeder, s.ports[f].silent (s.staged.feeder f.val).enabled)
    (behind : ∀ start, s.clock.openStart = some start → lastMultiple s.staged.general.interval s.clock.minute ≤ start) :
    (s.leftToCheck []).checkTurn = some s.checksCommitted := by
  have phase : (s.leftToCheck []).activation.phase = .checking := checking
  have list : (s.leftToCheck []).activation.toCheck = [] := rfl
  have commits : (s.leftToCheck []).commit = s.checksCommitted :=
    State.commit_of_running (s := s.leftToCheck []) running silent behind
  simp only [State.checkTurn, phase, list, bne_self_eq_false, Bool.false_eq_true, if_false, commits]

/-- A commit leaves the other units at rest. -/
theorem State.checksCommitted_othersRest (rest : s.othersRest) : s.checksCommitted.othersRest :=
  rest.congr rfl rfl rfl rfl rfl (State.tablesCommitted_prefetch (s := s.leftToCheck []))
    (State.commitMoment_of_phase (s := s.checksCommitted) ActivationPhase.noConfusion)

/-- Check 11 passes its last account: the commit, and marking's first read (R64, R66, R67). -/
theorem State.drive_of_lastCheck {a line : Nat} {read : Option AccountRecord} {r : AccountRecord} (rest : s.othersRest)
    (filled : s.cache.justFilled a line read) (good : read = some r) (hw : s.work = none)
    (checking : s.activation.phase = .checking) (list : s.activation.toCheck = [a]) (running : s.engine = .running)
    (hb : ∀ t : State, t.books = s.books → t.admissible = none) (ready : s.port.state = .ready) (zero : r.balance = 0)
    (silent : ∀ f : Feeder, s.ports[f].silent (s.staged.feeder f.val).enabled)
    (behind : ∀ start, s.clock.openStart = some start → lastMultiple s.staged.general.interval s.clock.minute ≤ start) :
    (markingList s.active s.staged = [] → s.drive = s.checksCommitted) ∧
    (∀ i more free, markingList s.active s.staged = i :: more → s.cache.lookup i = .miss →
      s.cache.victim none = some free →
      s.drive = ({ s.checksCommitted with cache := s.cache.drop free } : State).onPort
        (.fill .activation i free (dirtyRecord (s.cache.line free)))) := by
  subst good
  have first := rest.turn_of_check hw (State.checkTurn_of_zero filled checking list zero)
  have second := (rest.leftToCheck checking []).turn_of_check hw
    (State.checkTurn_of_passed checking running silent behind)
  have rest' := State.checksCommitted_othersRest rest
  have idle : s.checksCommitted.activation.phase ≠ .checking := ActivationPhase.noConfusion
  have marks : s.checksCommitted.activation.marking = markingList s.active s.staged := rfl
  refine ⟨fun nil => ?unmarked, fun i more free cons miss hv => ?marked⟩
  case unmarked =>
    have still := rest'.turn_of_marking hw idle (fun i more h => by
      rw [marks, nil] at h
      cases h) (hb _ rfl)
    rw [State.drive_of_two first second still, State.grant_of_none (rest'.want_of_none hw idle (marks.trans nil))]
  case marked =>
    have still := rest'.turn_of_marking hw idle
      (fun j more' h => by rw [marks, cons] at h; cases h; exact miss) (hb _ rfl)
    rw [State.drive_of_two first second still,
      rest'.grant_of_activation ready hw (State.activationWant_of_marking idle ready (marks.trans cons) miss) hv]
    rfl

/-! ### In UNCONFIGURED: ACTIVATE -/

/-- The engine ACTIVATE leaves in UNCONFIGURED, before marking's first read (R60, R66, R72). -/
def State.activated (s : State) (tag : Byte) : State :=
  ((s.install tag 0x26).tablesCommitted.opened.commitReported (markingList s.active s.staged)).answered tag 0x26 .done 2 []

/-- With an empty cache the commit's event ends with marking's first read granted, or with nothing to mark. -/
theorem State.othersRest.drive_of_marking (h : s.othersRest) (hw : s.work = none) (hc : s.activation.phase ≠ .checking)
    (ready : s.port.state = .ready) (empty : s.cache = .empty) (hb : s.admissible = none) :
    ∃ cache port, s.drive = { s with cache := cache, port := port } := by
  have miss (i : Nat) : s.cache.lookup i = .miss := by
    rw [empty]
    exact Cache.empty_lookup i
  rw [State.drive_of_none (h.turn_of_marking hw hc (fun i _ _ => miss i) hb)]
  rcases list : s.activation.marking with _ | ⟨i, more⟩
  · exact ⟨s.cache, s.port, State.grant_of_none (h.want_of_none hw hc list)⟩
  · have line : s.cache.victim none = some 0 := by
      rw [empty]
      decide
    exact ⟨_, _, h.grant_of_activation ready hw (State.activationWant_of_marking hc ready list (miss i)) line⟩

/-- ACTIVATE in UNCONFIGURED, the checks passed (R60). -/
theorem exec_activate_of_passed {tag : Byte} (accepts : s.accepts) (unconfigured : s.engine = .unconfigured)
    (ready : s.port.state = .ready) (set : s.clock.isSet = true) (off : ∀ f : Feeder, s.ports[f].state = .off)
    (passed : firstFailure s.staged true = none) : exec (.activate tag) s = .next (s.activated tag).drive := by
  have silent (f : Feeder) : s.ports[f].silent (s.staged.feeder f.val).enabled := fun on => by
    rcases on with h | h <;> rw [off f] at h <;> cases h
  have isReady : (s.install tag 0x26).memoryReady = true := beq_iff_eq.2 ready
  have going : (s.install tag 0x26).engine ≠ .running := by
    rw [show (s.install tag 0x26).engine = _ from unconfigured]
    exact EngineState.noConfusion
  have checked : firstFailure (s.install tag 0x26).staged true = none := passed
  have isSet : (s.install tag 0x26).clock.isSet = true := set
  refine (exec_accepts accepts (c := .activate) rfl tag).trans (congrArg Host.Outcome.next ?_)
  change (s.install tag 0x26).startActivate = _
  simp only [State.startActivate, going, isReady, isSet, State.activateNow, checked, Bool.not_true, Bool.false_eq_true,
    if_false]
  rw [State.commit_of_unconfigured (s := s.install tag 0x26) unconfigured silent]
  rfl

/-- The engine ACTIVATE leaves has every unit at rest but marking. -/
theorem State.activated_othersRest {tag : Byte} (rest : s.resting) : (s.activated tag).othersRest := by
  have units := rest.unitsRest
  refine ⟨rfl, units.noSequence, units.noPosting, rest.freePort, units.noStartup, rfl,
    State.commitMoment_of_phase (s := s.activated tag) ActivationPhase.noConfusion, fun f => ?_⟩
  have kept : (s.activated tag).ports[f].prefetch = s.ports[f].prefetch :=
    State.tablesCommitted_prefetch (s := s.install tag 0x26) f
  rw [kept]
  exact rest.noNotice f

end

/-- Settles O9: the commit's effects, then what its event grants to the marking. -/
theorem activateCommitsAPassingSet : Obligations.ActivateCommitsAPassingSet := by
  refine ⟨fun s tag accepts rest unconfigured _ ready set empty off passed => ?unconfigured,
    fun s a line victim returned r running checking list _ h ready inCache missing done rest hr zero behind silent =>
      ?running⟩
  case unconfigured =>
    obtain ⟨cache, port, grants⟩ := (State.activated_othersRest (tag := tag) rest).drive_of_marking rest.unitsRest.noWork
      ActivationPhase.noConfusion ready empty (State.admissible_of_rested rest rfl)
    refine ⟨_, (exec_activate_of_passed accepts unconfigured ready set off passed).trans (congrArg Host.Outcome.next grants),
      rfl, rfl, rfl, rfl, rfl, rfl, rfl, fun i => ?live, fun f => ?ports, rfl, rfl, rfl, rfl⟩
    case live =>
      change (s.install tag 0x26).committedLive[i] = _
      rw [State.committedLive_eq]
      exact Vector.getElem_ofFn i.isLt
    case ports =>
      have port : (s.activated tag).ports[f] = (s.install tag 0x26).committedPort f := Vector.getElem_ofFn f.isLt
      change ((s.activated tag).ports[f].state = _ ∧ (s.activated tag).ports[f].number = _)
      rw [port]
      exact ⟨FeederPort.committed_state_of_off _ (off f), FeederPort.committed_number _ _⟩
  case running =>
    have units := rest.unitsRest
    have good : s.fillRead a victim returned = some r := hr
    have serve {t : State} (served : (s.filledBy .activation a line victim (some r)).drive = t) :
        exec (.cacheFill returned) s = .next t :=
      exec_cacheFill_unit h rest.noNotice done (by rw [good]; exact served)
    obtain ⟨unmarked, marked⟩ := State.drive_of_lastCheck (s := s.filledBy .activation a line victim (some r))
      (State.othersRest_of_checking rest done checking) (Cache.fill_justFilled _ inCache missing) rfl
      units.noWork checking list running (fun _ books => State.admissible_of_rested rest books) ready zero silent behind
    rw [State.checksCommitted_eq (s := s.filledBy .activation a line victim (some r)) running] at unmarked marked
    exact ⟨fun nil => serve (unmarked nil), fun i more free cons miss hv => serve (marked i more free cons miss hv)⟩

end Sys2Proof.Machine
end

section
/-! ## What checks 1 to 10 promise (O10) -/

namespace Sys2Proof.Machine

/-! ### The lists the checks go by -/

theorem TableSet.mem_occupied {t : TableSet} {i : Nat} : i ∈ t.occupied ↔ i < 192 ∧ nonVacant (t.entry i) = true := by
  simp only [TableSet.occupied, indices, List.mem_filter, List.mem_range]

theorem TableSet.mem_ofKind {t : TableSet} {k : ParticipantKind} {i : Nat} :
    i ∈ t.ofKind k ↔ i < 192 ∧ (t.entry i).kind = k := by
  simp only [TableSet.ofKind, indices, List.mem_filter, List.mem_range, beq_iff_eq]

/-- A symmetric relation in which no occupied entry stands to an earlier one holds between no two of them. -/
theorem TableSet.apart_of_noEarlier {t : TableSet} {rel : ParticipantEntry → ParticipantEntry → Bool}
    (symm : ∀ a b, rel a b = rel b a) (none : ∀ i ∈ t.occupied, t.earlier i rel = false) {i j : Nat}
    (hi : i ∈ t.occupied) (hj : j ∈ t.occupied) (differ : i ≠ j) : rel (t.entry i) (t.entry j) = false := by
  have ordered {a b : Nat} (ha : a ∈ t.occupied) (hb : b ∈ t.occupied) (lt : a < b) :
      rel (t.entry a) (t.entry b) = false := by
    have unrelated := List.any_eq_false.1 (none b hb) a ha
    simpa [lt] using unrelated
  rcases Nat.lt_or_gt_of_ne differ with lt | gt
  · exact ordered hi hj lt
  · rw [symm]
    exact ordered hj hi gt

/-- A check that reports the first faulty element of a list, and reports none, finds no element faulty. -/
theorem sound_of_noReport {α β : Type} {l : List α} {faulty : α → Bool} {report : α → β}
    (none : (l.find? faulty).map report = none) {a : α} (ha : a ∈ l) : faulty a = false :=
  eq_false_of_ne_true (List.find?_eq_none.1 (Option.map_eq_none_iff.1 none) a ha)

/-! ### Check by check (R64) -/

/-- A set with no failure passes each of the ten checks. -/
theorem checkFailure_of_passed {t : TableSet} {ready : Bool} (passed : firstFailure t ready = none) :
    ∀ n ∈ [1, 2, 3, 4, 5, 6, 7, 8, 9, 10], checkFailure t ready n = none :=
  List.findSome?_eq_none_iff.1 passed

section
variable {t : TableSet} {ready : Bool}

/-- Check 2 passes a set with one GRID_TIE. -/
theorem TableSet.gridTie_of_check2 (pass : checkFailure t ready 2 = none) : ∃ g, t.ofKind .gridTie = [g] := by
  simp only [checkFailure] at pass
  split at pass
  case h_2 g one => exact ⟨g, one⟩
  all_goals cases pass

/-- Check 3 passes a set with two stores at most. -/
theorem TableSet.stores_of_check3 (pass : checkFailure t ready 3 = none) : (t.ofKind .store).length ≤ 2 :=
  List.getElem?_eq_none_iff.1 (Option.map_eq_none_iff.1 pass)

/-- Check 4 passes a set whose serials stand alone. -/
theorem TableSet.serials_of_check4 (pass : checkFailure t ready 4 = none) {i j : Nat} (hi : i ∈ t.occupied)
    (hj : j ∈ t.occupied) (differ : i ≠ j) : (t.entry i).serial ≠ (t.entry j).serial :=
  beq_eq_false_iff_ne.1 (TableSet.apart_of_noEarlier (rel := fun a b => a.serial == b.serial) (fun _ _ => BEq.comm)
    (fun _ h => sound_of_noReport pass h) hi hj differ)

/-- An entry's place, as check 5 judges it: on an enabled feeder, within its slots, and taken by no earlier entry. -/
theorem TableSet.placeFails_eq_false {i : Nat} :
    placeFails t i = false ↔
      (t.feeder (t.entry i).feeder).enabled = true ∧ (t.entry i).slot < (t.feeder (t.entry i).feeder).slotCount ∧
      t.earlier i (fun a b => a.feeder == b.feeder && a.slot == b.slot) = false := by
  simp only [placeFails, Bool.or_eq_false_iff, Bool.not_eq_false', decide_eq_false_iff_not, Nat.not_le, and_assoc]

/-- Check 5 passes a set whose places stand alone. -/
theorem TableSet.places_of_check5 (pass : checkFailure t ready 5 = none) {i j : Nat} (hi : i ∈ t.occupied)
    (hj : j ∈ t.occupied) (differ : i ≠ j) :
    ¬((t.entry i).feeder = (t.entry j).feeder ∧ (t.entry i).slot = (t.entry j).slot) := by
  have untaken (k : Nat) (hk : k ∈ t.occupied) :
      t.earlier k (fun a b => a.feeder == b.feeder && a.slot == b.slot) = false := by
    obtain ⟨_, _, untaken⟩ := TableSet.placeFails_eq_false.1 (sound_of_noReport pass hk)
    exact untaken
  have apart := TableSet.apart_of_noEarlier (fun _ _ => congrArg₂ and BEq.comm BEq.comm) untaken hi hj differ
  rintro ⟨feeder, slot⟩
  simp [feeder, slot] at apart

/-- A link that check 6 passes leads to another entry, a household or a store. -/
theorem TableSet.target_of_linkPasses {i : Nat} (pass : linkPasses t i = true) {r : Redirect}
    (hr : (t.entry i).redirect = some r) :
    r.target ≠ i ∧ ((t.entry r.target).kind = .household ∨ (t.entry r.target).kind = .store) := by
  simpa [linkPasses, hr] using pass

/-- The entry at `a` links to the entry at `b` (R47). -/
def TableSet.links (t : TableSet) (a b : Nat) : Prop := ∃ r, (t.entry a).redirect = some r ∧ r.target = b

/-- The walk of check 7 follows a link while its bound allows one, to an entry not marked before. -/
theorem chainPasses_of_link {bound i : Nat} {marked : List Nat} {r : Redirect} (hr : (t.entry i).redirect = some r)
    (pass : chainPasses t bound marked i = true) :
    ∃ n, bound = n + 1 ∧ r.target ∉ marked ∧ chainPasses t n (r.target :: marked) r.target = true := by
  rw [chainPasses, hr] at pass
  rcases bound with _ | n
  · cases pass
  · obtain ⟨fresh, walk⟩ := Bool.and_eq_true_iff.1 pass
    exact ⟨n, rfl, by simpa using fresh, walk⟩

/-- A chain that the walk of check 7 passes is no longer than the walk's bound, and returns neither to an entry on it nor
to one marked before. -/
theorem TableSet.chain_of_chainPasses {rest : List Nat} {bound i : Nat} {marked : List Nat}
    (pass : chainPasses t bound marked i = true) (chain : (i :: rest).IsChain t.links) :
    rest.length ≤ bound ∧ rest.Nodup ∧ ∀ x ∈ rest, x ∉ marked := by
  induction rest generalizing bound i marked with
  | nil => exact ⟨Nat.zero_le _, List.nodup_nil, fun _ h => absurd h List.not_mem_nil⟩
  | cons j rest ih =>
    obtain ⟨⟨r, hr, rfl⟩, onward⟩ := List.isChain_cons_cons.1 chain
    obtain ⟨n, rfl, fresh, walk⟩ := chainPasses_of_link hr pass
    obtain ⟨short, nodup, unmarked⟩ := ih walk onward
    refine ⟨Nat.succ_le_succ short, List.nodup_cons.2 ⟨fun h => unmarked _ h List.mem_cons_self, nodup⟩, fun x hx => ?_⟩
    rcases List.mem_cons.1 hx with rfl | later
    · exact fresh
    · exact fun h => unmarked x later (List.mem_cons_of_mem _ h)

/-- Check 7 passes an occupied entry from which every chain of links has four links at most and no entry twice. -/
theorem TableSet.chains_of_check7 (pass : checkFailure t ready 7 = none) {i : Nat} (hi : i ∈ t.occupied) {rest : List Nat}
    (chain : (i :: rest).IsChain t.links) : (i :: rest).length ≤ 5 ∧ (i :: rest).Nodup := by
  have walk : chainPasses t 4 [i] i = true := by simpa using sound_of_noReport pass hi
  obtain ⟨short, nodup, unmarked⟩ := TableSet.chain_of_chainPasses walk chain
  exact ⟨Nat.succ_le_succ short, List.nodup_cons.2 ⟨fun h => unmarked i h List.mem_cons_self, nodup⟩⟩

/-- A class that has a band of start minute 0. -/
theorem TableSet.band_of_classServed {c : DayClass} (served : classServed t c = true) :
    ∃ p : Fin 12, ∃ b, t.bands[p] = some b ∧ bandServes b.dayClass c = true ∧ b.start = 0 := by
  obtain ⟨slot, member, first⟩ := List.any_eq_true.1 served
  obtain ⟨p, hp, rfl⟩ := Vector.mem_iff_getElem.1 (Vector.mem_toList_iff.1 member)
  split at first
  case h_1 b hb =>
    obtain ⟨serves, start⟩ := Bool.and_eq_true_iff.1 first
    exact ⟨⟨p, hp⟩, b, hb, serves, beq_iff_eq.1 start⟩
  case h_2 => cases first

/-- Check 8 passes a set that serves each day class from minute 0 on. -/
theorem TableSet.classServed_of_check8 (pass : checkFailure t ready 8 = none) (c : DayClass) : classServed t c = true := by
  have work : classServed t .work = true := by
    by_contra unserved
    simp [checkFailure, eq_false_of_ne_true unserved] at pass
  have rest : classServed t .rest = true := by
    by_contra unserved
    simp [checkFailure, work, eq_false_of_ne_true unserved] at pass
  cases c
  · exact work
  · exact rest

/-- Check 9 passes a set with no feed price above its grid price. -/
theorem TableSet.prices_of_check9 (pass : checkFailure t ready 9 = none) {p : Fin 12} {b : Band}
    (hb : t.bands[p] = some b) : b.feedPrice ≤ b.gridPrice := by
  have sound := sound_of_noReport pass (List.mem_range.2 p.isLt)
  have slot : t.bands[p.val] = some b := hb
  simpa [slot] using sound

/-- Check 10 passes a set whose grace is below the interval length. -/
theorem TableSet.grace_of_check10 (pass : checkFailure t ready 10 = none) :
    t.general.grace < t.general.interval * 60 := by
  by_contra long
  simp [checkFailure, long] at pass

end

/-- Settles O10: each term is what one of checks 2 to 10 has passed. -/
theorem passingChecksHoldTheActiveTablesTerms : Obligations.PassingChecksHoldTheActiveTablesTerms := by
  intro t passed
  have pass := checkFailure_of_passed passed
  have check5 := pass 5 (by decide)
  have check6 := pass 6 (by decide)
  refine ⟨?gridTie, TableSet.stores_of_check3 (pass 3 (by decide)), fun i hi j hj vi vj differ => ?alone,
    fun i hi vi => ?place, fun i hi vi chain head linked => ?chain,
    fun c => TableSet.band_of_classServed (TableSet.classServed_of_check8 (pass 8 (by decide)) c),
    fun p b hb => TableSet.prices_of_check9 (pass 9 (by decide)) hb, TableSet.grace_of_check10 (pass 10 (by decide))⟩
  case gridTie =>
    obtain ⟨g, only⟩ := TableSet.gridTie_of_check2 (pass 2 (by decide))
    have tie {i : Nat} : i = g ↔ i < 192 ∧ (t.entry i).kind = .gridTie := by
      rw [← TableSet.mem_ofKind, only, List.mem_singleton]
    obtain ⟨hg, kind⟩ := tie.1 rfl
    exact ⟨g, hg, kind, fun i hi hk => tie.2 ⟨hi, hk⟩⟩
  case alone =>
    have oi := TableSet.mem_occupied.2 ⟨hi, vi⟩
    have oj := TableSet.mem_occupied.2 ⟨hj, vj⟩
    exact ⟨TableSet.serials_of_check4 (pass 4 (by decide)) oi oj differ, TableSet.places_of_check5 check5 oi oj differ⟩
  case place =>
    have occupied := TableSet.mem_occupied.2 ⟨hi, vi⟩
    obtain ⟨enabled, slot, _⟩ := TableSet.placeFails_eq_false.1 (sound_of_noReport check5 occupied)
    have link : linkPasses t i = true := by simpa using sound_of_noReport check6 occupied
    exact ⟨enabled, slot, fun r hr => TableSet.target_of_linkPasses link hr⟩
  case chain =>
    obtain ⟨rest, rfl⟩ := List.head?_eq_some_iff.1 head
    refine TableSet.chains_of_check7 (pass 7 (by decide)) (TableSet.mem_occupied.2 ⟨hi, vi⟩) ?_
    refine List.isChain_iff_getElem.2 fun k hk => ?_
    exact linked k _ _ (List.getElem?_eq_getElem _) (List.getElem?_eq_getElem hk)

end Sys2Proof.Machine
end

section
/-! ## RELEASE BOOK and DISCARD BOOK (O13): the book acted on -/

namespace Sys2Proof.Machine

/-- The record of a HELD book once it is released (R85). -/
def Book.released (b : Book) : Book := { b with state := .waiting, holdReason := none, capture := none, figures := none }

/-- The record of a HELD book once it is discarded (R86). -/
def Book.discarded (b : Book) : Book := { b with state := .discarded, owed := true }

section
variable {s : State} {start : Nat} {b : Book}

/-- The book a start minute names has that start minute. -/
theorem State.start_of_book (named : s.book start = some b) : b.start = start := by
  simpa using List.find?_some named

/-! ### The refusals, and the book changed (R85, R86) -/

theorem State.ofHeld_of_none (unnamed : s.book start = none) (act : State → State) :
    s.ofHeld start act = s.refuse noBookCode := by
  simp only [State.ofHeld, unnamed]

theorem State.ofHeld_of_notHeld (named : s.book start = some b) (notHeld : b.state ≠ .held) (act : State → State) :
    s.ofHeld start act = s.refuse notHeldCode := by
  simp only [State.ofHeld, named, notHeld, if_false]

theorem State.ofHeld_of_held (named : s.book start = some b) (held : b.state = .held) (act : State → State) :
    s.ofHeld start act = act s := by
  simp only [State.ofHeld, named, held, if_true]

variable {tag : Byte}

/-- The engine with the book released and the RESULT built, before its follow-on work. -/
def State.bookReleased (s : State) (tag : Byte) (start : Nat) : State :=
  (s.updateBook start Book.released).answered tag 0x31 .done 1 []

/-- The engine with the book discarded and the RESULT built, before its follow-on work. -/
def State.bookDiscarded (s : State) (tag : Byte) (start : Nat) : State :=
  (s.updateBook start Book.discarded).answered tag 0x32 .done 1 []

theorem exec_releaseBook (accepts : s.accepts) (range : start ≤ 94371839) :
    exec (.releaseBook tag start) s = .next ((s.install tag 0x31).startReleaseBook start) :=
  exec_accepts accepts (c := .releaseBook start) (decide_eq_true range) tag

theorem exec_discardBook (accepts : s.accepts) (range : start ≤ 94371839) :
    exec (.discardBook tag start) s = .next ((s.install tag 0x32).startDiscardBook start) :=
  exec_accepts accepts (c := .discardBook start) (decide_eq_true range) tag

/-- RELEASE BOOK on a HELD book (R85). -/
theorem exec_releaseBook_of_held (accepts : s.accepts) (range : start ≤ 94371839) (named : s.book start = some b)
    (held : b.state = .held) : exec (.releaseBook tag start) s = .next (s.bookReleased tag start).drive := by
  rw [exec_releaseBook accepts range, State.startReleaseBook, State.ofHeld_of_held (s := s.install tag 0x31) named held]
  rfl

/-- DISCARD BOOK on a HELD book (R86). -/
theorem exec_discardBook_of_held (accepts : s.accepts) (range : start ≤ 94371839) (named : s.book start = some b)
    (held : b.state = .held) : exec (.discardBook tag start) s = .next (s.bookDiscarded tag start).drive := by
  rw [exec_discardBook accepts range, State.startDiscardBook, State.ofHeld_of_held (s := s.install tag 0x32) named held]
  rfl

/-! ### The units after a discard -/

/-- A book after a discard is DISCARDED, or it has another start minute and is as it was. -/
theorem State.bookDiscarded_books {x : Book} (hx : x ∈ (s.bookDiscarded tag start).books) :
    x.state = .discarded ∨ (x ∈ s.books ∧ x.start ≠ start) := by
  obtain ⟨y, hy, rfl⟩ := List.mem_map.1 hx
  by_cases same : y.start = start
  · exact .inl (by rw [if_pos same]; rfl)
  · exact .inr (by rw [if_neg same]; exact ⟨hy, same⟩)

/-- A discard leaves units at rest so. -/
theorem State.resting.bookDiscarded (rest : s.resting) : (s.bookDiscarded tag start).resting := by
  obtain ⟨hq, hs, hw, hpost, hport, hu, ha, hc, hm, books, hn⟩ := rest
  refine ⟨hq, hs, hw, hpost, hport, hu, ha, hc, hm, fun x hx => ?_, hn⟩
  rcases State.bookDiscarded_books hx with discarded | ⟨member, _⟩
  · simp [discarded]
  · exact books x member

/-! ### A released book enters SETTLING (R81) -/

/-- Where the first book of a start minute is the first that is not final, a change of that minute's books which leaves it
open leaves it the first. -/
theorem Book.find?_open_map {l : List Book} {f : Book → Book} (named : l.find? (fun x => x.start == start) = some b)
    (oldest : l.find? (fun x => !x.isFinal) = some b) (still : (f b).isFinal = false) :
    (l.map fun x => if x.start = start then f x else x).find? (fun x => !x.isFinal) = some (f b) := by
  induction l with
  | nil => cases oldest
  | cons x rest ih =>
    by_cases same : x.start = start
    · obtain rfl : x = b := by simpa [same] using named
      simp [same, still]
    · have final : x.isFinal = true := by
        by_contra notFinal
        obtain rfl : x = b := by simpa [notFinal] using oldest
        exact same (by simpa using List.find?_some named)
      simp only [List.find?_cons, beq_eq_false_iff_ne.2 same, final, Bool.not_true] at named oldest
      simpa [same, final] using ih named oldest

/-- A change that leaves the oldest book not final open leaves it the oldest (R81). -/
theorem State.updateBook_oldestOpen {f : Book → Book} (named : s.book start = some b) (oldest : s.oldestOpen = some b)
    (still : (f b).isFinal = false) : (s.updateBook start f).oldestOpen = some (f b) :=
  Book.find?_open_map named oldest still

/-- The engine with the released book in SETTLING and the RESULT built, before the first read is granted. -/
def State.releasedSettling (s : State) (tag : Byte) (start : Nat) (b : Book) : State :=
  ({ s.updateBook start (fun x => s.settlingAs start x.released) with
      work := some (Work.entered start b.members) } : State).answered tag 0x31 .done 1 []

/-- The released book enters SETTLING. -/
theorem State.bookReleased_enterSettling (named : s.book start = some b) :
    (s.bookReleased tag start).enterSettling b.released = s.releasedSettling tag start b := by
  have named' : b.released.start = start := State.start_of_book (s := s) (b := b) named
  have books : ((s.bookReleased tag start).books.map fun x =>
        if x.start = b.released.start then s.settlingAs x.start x else x) =
      (s.releasedSettling tag start b).books := by
    rw [named']
    refine List.map_map.trans (List.map_congr_left fun x _ => ?_)
    by_cases same : x.start = start
    · have kept : x.released.start = start := same
      simp only [Function.comp, if_pos same, kept, if_true]
    · simp only [Function.comp, if_neg same]
  have kept : (s.bookReleased tag start).settlingAs = s.settlingAs := rfl
  rw [State.enterSettling_eq, kept, books, named']
  rfl

/-- With an empty cache, a book that is admitted enters SETTLING and is granted its first read, of CLEARING into line 0
(R81, R91). -/
theorem State.othersRest.drive_of_admitted (h : s.othersRest) (hw : s.work = none) (hq : s.activation.phase ≠ .awaitQuiet)
    (hc : s.activation.phase ≠ .checking) (hm : s.activation.marking = []) (ready : s.port.state = .ready)
    (empty : s.cache = .empty) (admitted : s.admissible = some b) (settling : (s.enterSettling b).admissible = none) :
    s.drive = (s.enterSettling b).onPort (.fill .settlement 192 0 none) := by
  have entered : (s.enterSettling b).othersRest :=
    h.congr rfl rfl rfl rfl rfl (fun _ => rfl) (State.commitMoment_of_phase (s := s.enterSettling b) hq)
  have cache : (s.enterSettling b).cache = .empty := empty
  have dropped : Cache.empty.drop 0 = .empty := by decide
  have unused : dirtyRecord (Cache.empty.line 0) = none := by decide
  rw [State.drive_of_one (h.turn_of_admissible hw hc hm admitted)
      (entered.turn_of_reading rfl rfl rfl (by rw [cache]; exact Cache.empty_lookup 192) hc hm settling),
    entered.grant_of_settlement (line := 0) ready (State.settleWant_of_reading rfl rfl rfl) (by rw [cache]; decide), cache,
    dropped, unused, ← cache]

/-- A release leaves the units at rest but for its book. -/
theorem State.bookReleased_othersRest (rest : s.resting) : (s.bookReleased tag start).othersRest :=
  (State.resting.othersRest (s := s.answered tag 0x31 .done 1 []) rest rfl).congr rfl rfl rfl rfl rfl (fun _ => rfl)
    (State.commitMoment_of_phase (s := s.bookReleased tag start) rest.unitsRest.notAwaiting)

/-- While the memory is NOT_READY, a released book waits (R80). -/
theorem State.bookReleased_drive_of_notReady (rest : s.resting) (notReady : s.port.state = .notReady) :
    (s.bookReleased tag start).drive = s.bookReleased tag start := by
  have units := rest.unitsRest
  exact (State.bookReleased_othersRest rest).drive_of_none units.noWork units.notChecking units.noMarking
    (State.admissible_of_notReady (s := s.bookReleased tag start) notReady)

/-- A released book that is the oldest not final enters SETTLING at once (R81, R85). -/
theorem State.bookReleased_drive_of_ready (rest : s.resting) (named : s.book start = some b)
    (oldest : s.oldestOpen = some b) (ready : s.port.state = .ready) (empty : s.cache = .empty) :
    (s.bookReleased tag start).drive = (s.releasedSettling tag start b).onPort (.fill .settlement 192 0 none) := by
  have units := rest.unitsRest
  have others := State.bookReleased_othersRest (tag := tag) (start := start) rest
  have admitted : (s.bookReleased tag start).admissible = some b.released :=
    others.admissible_of_oldest (State.updateBook_oldestOpen named oldest rfl) rfl ready
      (show s.cache.anyLocked = false by rw [empty]; decide) units.noMarking
  have settling : (s.releasedSettling tag start b).admissible = none :=
    State.admissible_of_oldest (s := s.releasedSettling tag start b)
      (State.updateBook_oldestOpen (f := fun x => s.settlingAs start x.released) named oldest rfl) BookState.noConfusion
  have entered := State.bookReleased_enterSettling (tag := tag) named
  rw [others.drive_of_admitted units.noWork units.notAwaiting units.notChecking units.noMarking ready empty admitted
    (by rw [entered]; exact settling), entered]

end

end Sys2Proof.Machine
end

section
/-! ## The commit moment (O13): checks 1 to 10, and the first read of check 11 -/

namespace Sys2Proof.Machine

/-- The accounts check 11 reads, as the statements write them (R64). -/
theorem vacating_eq (active staged : TableSet) :
    vacating active staged =
      (List.range 192).filter fun i => (active.entry i).kind != .vacant && (staged.entry i).kind == .vacant :=
  List.filter_congr fun i _ => congrArg ((active.entry i).kind != .vacant && ·) (Bool.not_not _)

section
variable {s : State}

/-- No book that is not final: none can enter SETTLING. -/
theorem State.admissible_of_closed (closed : ∀ x ∈ s.books, x.isFinal = true) : s.admissible = none :=
  State.admissible_of_none fun x hx waiting => by
    have final := closed x hx
    rw [Book.isFinal, waiting] at final
    cases final

/-- A commit moment: the activation awaits it, every book is final, no TRANSFER is in its execution phase, and the other
units are at rest (R62). -/
structure State.atCommit (s : State) : Prop where
  awaiting : s.activation.phase = .awaitQuiet
  closed : ∀ x ∈ s.books, x.isFinal = true
  commandDone : s.commandDone = true
  quiet : ({ s with activation := { s.activation with phase := .idle } } : State).resting

/-- The engine with the phase CHECKING and the accounts of check 11 listed (R62, R64). -/
def State.checksBegun (s : State) : State :=
  { s with activation := { s.activation with phase := .checking, toCheck := vacating s.active s.staged } }

/-- The checks begun: 1 to 10 are decided at once, and the first that fails ends them (R64, R65). -/
theorem State.beginChecks_eq (s : State) :
    s.beginChecks = (firstFailure s.staged s.memoryReady).elim s.checksBegun s.checksBegun.failChecks := by
  dsimp only [State.beginChecks]
  split
  case h_1 f failed =>
    rw [show firstFailure s.staged s.memoryReady = some f from failed]
    rfl
  case h_2 passed =>
    rw [show firstFailure s.staged s.memoryReady = none from passed]
    rfl

/-- A command not in its execution phase is no TRANSFER in its execution phase. -/
theorem State.transferExecuting_of_done (done : s.commandDone = true) : s.transferExecuting = false := by
  simp only [State.commandDone, State.run] at done
  rcases he : s.link.executing with _ | e
  · simp only [State.transferExecuting, he]
  · simp only [he, Option.map_some] at done
    rcases hr : e.run <;> simp only [hr] at done <;> simp_all [State.transferExecuting]

namespace State.atCommit

/-- The commit moment has come (R62). -/
theorem commitMoment (h : s.atCommit) : s.commitMoment = true := by
  have units := h.quiet.unitsRest
  have marking : s.activation.marking = [] := units.noMarking
  have sequence : s.sequence = .none := units.noSequence
  simp [State.commitMoment, h.awaiting, List.all_eq_true.2 h.closed, State.transferExecuting_of_done h.commandDone,
    marking, sequence]

/-- The first turn begins the checks (R62). -/
theorem turn_eq (h : s.atCommit) : s.turn = some s.beginChecks := by
  have units := h.quiet.unitsRest
  have notQuiesced : s.isQuiesced = false := units.notQuiesced
  have sequence : s.sequence = .none := units.noSequence
  have checkNone : s.checkTurn = none :=
    State.checkTurn_of_notChecking (by rw [h.awaiting]; exact ActivationPhase.noConfusion)
  have command : s.commandOrBookTurn = none := by
    simp only [State.commandOrBookTurn, State.commandTurn_of_done h.commandDone, State.admissible_of_closed h.closed]
  have commit : s.commitTurn = some s.beginChecks := by simp only [State.commitTurn, h.commitMoment, if_true]
  simp only [State.turn, notQuiesced, sequence, State.settleTurn_of_noWork (s := s) units.noWork,
    State.postTurn_of_idle (s := s) units.noPosting, checkNone, State.markTurn_of_nil (s := s) units.noMarking, command,
    commit, Bool.false_eq_true, if_false]
  rfl

/-- The units that rest at a commit moment rest when the activation has left AWAIT_QUIET. -/
theorem othersRest {t : State} (h : s.atCommit) (engine : t.engine = s.engine) (sequence : t.sequence = s.sequence)
    (posting : t.posting = s.posting) (port : t.port = s.port) (link : t.link = s.link) (ports : t.ports = s.ports)
    (left : t.activation.phase ≠ .awaitQuiet) : t.othersRest :=
  (h.quiet.othersRest h.commandDone).congr engine sequence posting port link (fun f => by rw [ports])
    (State.commitMoment_of_phase left)

/-- Checks 1 to 10 pass: the first read of check 11 is granted (R64). -/
theorem drive_of_passed {i line : Nat} {rest : List Nat} (h : s.atCommit)
    (passed : firstFailure s.staged (s.port.state == .ready) = none) (list : vacating s.active s.staged = i :: rest)
    (miss : s.cache.lookup i = .miss) (hv : s.cache.victim none = some line) :
    s.drive = ({ s with
      activation := { s.activation with phase := .checking, toCheck := i :: rest }
      cache := s.cache.drop line } : State).onPort (.fill .activation i line (dirtyRecord (s.cache.line line))) := by
  have units := h.quiet.unitsRest
  have begun : s.beginChecks = s.checksBegun := by
    rw [State.beginChecks_eq, show firstFailure s.staged s.memoryReady = none from passed]
    rfl
  have ready : s.port.state = .ready := by
    have pass := checkFailure_of_passed passed 1 (by decide)
    by_contra notReady
    simp [checkFailure, notReady] at pass
  have others : s.checksBegun.othersRest := h.othersRest rfl rfl rfl rfl rfl rfl ActivationPhase.noConfusion
  have wants : s.checksBegun.activationWant = some i := by
    rw [State.activationWant, if_pos (show s.checksBegun.activation.phase = .checking from rfl), State.checksBegun, list,
      List.head?_cons]
  rw [State.drive_of_one (h.turn_eq.trans (congrArg some begun)) (others.turn_of_checking units.noWork rfl list miss
      units.noMarking (State.admissible_of_closed (s := s.checksBegun) h.closed)),
    others.grant_of_activation ready units.noWork wants hv, State.checksBegun, list]

/-- One of checks 1 to 10 fails, and there is no boundary to take: the checks end (R65). -/
theorem drive_of_failed {f : CheckFailure} (h : s.atCommit)
    (failed : firstFailure s.staged (s.port.state == .ready) = some f)
    (behind : ∀ start, s.clock.openStart = some start → s.candidate ≤ start) : s.drive = s.checksFailed f := by
  have units := h.quiet.unitsRest
  have ended : s.beginChecks = s.checksFailed f := by
    rw [State.beginChecks_eq, show firstFailure s.staged s.memoryReady = some f from failed]
    exact State.failChecks_of_none (s := s.checksBegun) f behind
  have others : (s.checksFailed f).othersRest := h.othersRest rfl rfl rfl rfl rfl rfl ActivationPhase.noConfusion
  exact others.drive_after_turn (h.turn_eq.trans (congrArg some ended)) units.noWork ActivationPhase.noConfusion
    units.noMarking (State.admissible_of_closed (s := s.checksFailed f) h.closed)

end State.atCommit

/-- The discard that leaves every book final is the commit moment of an activation in AWAIT_QUIET (R62, R86). -/
theorem State.bookDiscarded_atCommit {tag : Byte} {start : Nat} (awaiting : s.activation.phase = .awaitQuiet)
    (quiet : ({ s with activation := { s.activation with phase := .idle } } : State).resting)
    (others : ∀ x ∈ s.books, x.start ≠ start → x.state = .posted ∨ x.state = .discarded) :
    (s.bookDiscarded tag start).atCommit := by
  refine ⟨awaiting, fun x hx => ?_, rfl, quiet.bookDiscarded (tag := tag) (start := start)⟩
  rw [Book.isFinal, Bool.or_eq_true, beq_iff_eq, beq_iff_eq]
  rcases State.bookDiscarded_books hx with discarded | ⟨member, other⟩
  · exact .inr discarded
  · exact others x member other

end

/-- Settles O13: the refusals, the release and the discard at rest, and the discard that is the commit moment. -/
theorem heldBooksAreReleasedOrDiscarded : Obligations.HeldBooksAreReleasedOrDiscarded := by
  intro s tag start accepts range
  refine ⟨fun unnamed => ⟨?noRelease, ?noDiscard⟩, fun b named notHeld => ⟨?notReleased, ?notDiscarded⟩,
    fun b named held rest => ⟨fun notReady => ?wait, ?discard⟩,
    fun b named held rest ready empty oldest => ?settle, fun b named held awaiting quiet others =>
      ⟨fun i rest line passed list miss hv => ?passed, fun check object failed behind => ?failed⟩⟩
  case noRelease =>
    rw [exec_releaseBook accepts range, State.startReleaseBook, State.ofHeld_of_none (s := s.install tag 0x31) unnamed]
    rfl
  case noDiscard =>
    rw [exec_discardBook accepts range, State.startDiscardBook, State.ofHeld_of_none (s := s.install tag 0x32) unnamed]
    rfl
  case notReleased =>
    rw [exec_releaseBook accepts range, State.startReleaseBook,
      State.ofHeld_of_notHeld (s := s.install tag 0x31) named notHeld]
    rfl
  case notDiscarded =>
    rw [exec_discardBook accepts range, State.startDiscardBook,
      State.ofHeld_of_notHeld (s := s.install tag 0x32) named notHeld]
    rfl
  case wait =>
    rw [exec_releaseBook_of_held accepts range named held, State.bookReleased_drive_of_notReady rest notReady]
    rfl
  case discard =>
    rw [exec_discardBook_of_held accepts range named held, State.drive_of_resting rest.bookDiscarded rfl]
    rfl
  case settle =>
    rw [Book.open_eq] at oldest
    rw [exec_releaseBook_of_held accepts range named held,
      State.bookReleased_drive_of_ready rest named oldest ready empty]
    rfl
  case passed =>
    rw [← vacating_eq] at list
    rw [exec_discardBook_of_held accepts range named held,
      (State.bookDiscarded_atCommit awaiting quiet others).drive_of_passed passed list miss hv]
    rfl
  case failed =>
    rw [exec_discardBook_of_held accepts range named held,
      (State.bookDiscarded_atCommit awaiting quiet others).drive_of_failed failed behind]
    rfl

end Sys2Proof.Machine
end

section
/-! ## The order of refusals, staging, ACTIVATE and DISARM (O7, O8, O11, O27) -/

namespace Sys2Proof.Machine

/-! ### QUIESCED, ARMED and BAD_PARAMETER (R54, R166) -/

/-- A command code is its byte's value. -/
theorem commandCode_byte (c : Command) : (BitVec.ofNat 8 (commandCode c)).toNat = commandCode c := by
  cases c <;> rfl

/-- The ARMED step's test of a code's byte is a test of the command (R54). -/
theorem stagingCodes_contains (c : Command) :
    stagingCodes.contains (BitVec.ofNat 8 (commandCode c)).toNat = decide (commandCode c ∈ stagingCodes) := by
  rw [commandCode_byte, List.contains_eq_mem]

section
variable {s : State} {c : Command}

/-- While the engine is QUIESCED every command that is taken is REFUSED QUIESCED (R166, R177). -/
theorem exec_of_quiesced (free : s.link.executing = none) (taken : s.commandsHeld = false)
    (quiesced : s.isQuiesced = true) (tag : Byte) :
    exec (c.row tag) s = .next (s.answered tag (BitVec.ofNat 8 (commandCode c)) .refused quiescedCode []) := by
  have installed : (s.install tag (BitVec.ofNat 8 (commandCode c))).isQuiesced = true := quiesced
  rw [exec_row, State.arrive_free free taken]
  rcases range : commandInRange c with _ | _
  · rw [Request.ofCommand_outOfRange range]
    simp only [State.begin, State.decideFaulty, installed, if_true]
    rfl
  · rw [Request.ofCommand_inRange range]
    simp only [State.begin, installed, if_true]
    rfl

/-- A staging command with a parameter out of range: ARMED is decided first (R54). -/
theorem exec_staging_outOfRange (accepts : s.accepts) (staging : commandCode c ∈ stagingCodes)
    (range : commandInRange c = false) (tag : Byte) :
    exec (c.row tag) s =
      .next (s.answered tag (BitVec.ofNat 8 (commandCode c)) .refused
        (if s.isArmed then armedCode else badParameterCode) []) := by
  obtain ⟨free, taken, awake⟩ := accepts
  have installed : (s.install tag (BitVec.ofNat 8 (commandCode c))).isQuiesced = false := awake
  have kept : (s.install tag (BitVec.ofNat 8 (commandCode c))).isArmed = s.isArmed := rfl
  have listed : stagingCodes.contains (BitVec.ofNat 8 (commandCode c)).toNat = true :=
    (stagingCodes_contains c).trans (decide_eq_true staging)
  rw [exec_row, Request.ofCommand_outOfRange range, State.arrive_free free taken]
  simp only [State.begin, State.decideFaulty, installed, listed, kept, Bool.true_and, Bool.false_eq_true, if_false]
  cases s.isArmed <;> rfl

end

/-- Settles O27: QUIESCED comes first for every command; otherwise a parameter out of range is decided. -/
theorem commandsAreRefusedQuiescedThenBadParameter : Obligations.CommandsAreRefusedQuiescedThenBadParameter := by
  intro s tag c free taken
  refine ⟨fun quiesced => exec_of_quiesced free taken quiesced tag, fun awake other range => ?_⟩
  have unlisted := (stagingCodes_contains c).trans (decide_eq_false other)
  exact exec_outOfRange ⟨free, taken, awake⟩ range unlisted tag

/-! ### Staging (R54 to R58) -/

/-- What a staging command makes of the staged set, with the active set it may copy (R55 to R58). -/
def stagedBy (active : TableSet) : Command → TableSet → TableSet
  | .stageParticipant i e, t => { t with participants := t.participants.setIfInBounds i e }
  | .stageFeeder f e, t => { t with feeders := t.feeders.setIfInBounds f e }
  | .stageGeneral g week, t => { t with general := g, week := week }
  | .stageBand p b, t => { t with bands := t.bands.setIfInBounds p b }
  | .clearBands, t => { t with bands := Vector.replicate 12 none }
  | .stageCopy, _ => active
  | _, t => t

section
variable {s : State}

theorem State.isArmed_iff : s.isArmed = true ↔ s.activation.phase ≠ .idle := by
  rw [State.isArmed, bne_iff_ne]

theorem State.isArmed_eq_false : s.isArmed = false ↔ s.activation.phase = .idle := by
  rw [State.isArmed, bne_eq_false_iff_eq]

theorem State.stage_of_armed (armed : s.isArmed = true) (write : TableSet → TableSet) :
    s.stage write = s.refuse armedCode := by
  simp only [State.stage, armed, if_true]

theorem State.stage_of_idle (idle : s.isArmed = false) (write : TableSet → TableSet) :
    s.stage write = ({ s with staged := write s.staged } : State).finish 0 [] := by
  simp only [State.stage, idle, Bool.false_eq_true, if_false]

/-- The commands with a staging code are the six that stage a write. -/
theorem State.startCommand_of_staging {c : Command} (staging : commandCode c ∈ stagingCodes) (s : State) :
    s.startCommand c = s.stage (stagedBy s.active c) := by
  cases c
  case stageParticipant | stageFeeder | stageGeneral | stageBand | clearBands | stageCopy => rfl
  all_goals simp [commandCode, stagingCodes] at staging

/-- While an activation is armed a staging command is REFUSED ARMED, whatever its parameters (R54). -/
theorem exec_staging_of_armed {c : Command} (accepts : s.accepts) (staging : commandCode c ∈ stagingCodes)
    (armed : s.isArmed = true) (tag : Byte) :
    exec (c.row tag) s = .next (s.answered tag (BitVec.ofNat 8 (commandCode c)) .refused armedCode []) := by
  rcases range : commandInRange c with _ | _
  · rw [exec_staging_outOfRange accepts staging range, if_pos armed]
  · have armed' : (s.install tag (BitVec.ofNat 8 (commandCode c))).isArmed = true := armed
    rw [exec_accepts accepts range, State.startCommand_of_staging staging, State.stage_of_armed armed']
    rfl

/-- A staging command in range, with no activation armed, changes the staged set alone (R54). -/
theorem exec_staging_of_idle {c : Command} (accepts : s.accepts) (idle : s.isArmed = false)
    (range : commandInRange c = true) (staging : commandCode c ∈ stagingCodes) (tag : Byte) :
    exec (c.row tag) s =
      .next (({ s with staged := stagedBy s.active c s.staged } : State).answered tag
        (BitVec.ofNat 8 (commandCode c)) .done 0 []) := by
  have idle' : (s.install tag (BitVec.ofNat 8 (commandCode c))).isArmed = false := idle
  rw [exec_accepts accepts range, State.startCommand_of_staging staging, State.stage_of_idle idle']
  rfl

end

/-- Settles O7: each command's write, by its range; then ARMED before BAD_PARAMETER for all six. -/
theorem stagingCommandsWriteTheStagedSetAlone : Obligations.StagingCommandsWriteTheStagedSetAlone := by
  refine ⟨fun s tag accepts idle => ?_, fun s tag c accepts staging => ⟨fun armed => ?_, fun idle range => ?_⟩⟩
  · refine ⟨fun i e hi he => ?participant, fun f e hf hslots => ?feeder, fun g week hinterval low high => ?general,
      fun p b hp hb => ?band, ?clear, ?copy⟩
    case participant =>
      have range : commandInRange (.stageParticipant i e) = true := by simp [commandInRange, hi, he]
      exact exec_staging_of_idle accepts idle range (show 0x20 ∈ stagingCodes by decide) tag
    case feeder =>
      have range : commandInRange (.stageFeeder f e) = true := by simp [commandInRange, hf, hslots]
      exact exec_staging_of_idle accepts idle range (show 0x21 ∈ stagingCodes by decide) tag
    case general =>
      have range : commandInRange (.stageGeneral g week) = true := by
        rw [commandInRange, generalInRange, List.contains_iff_mem.2 hinterval, decide_eq_true low, decide_eq_true high]
        rfl
      exact exec_staging_of_idle accepts idle range (show 0x22 ∈ stagingCodes by decide) tag
    case band =>
      have range : commandInRange (.stageBand p b) = true := by
        cases b with
        | none => simp [commandInRange, hp]
        | some x => simp [commandInRange, hp, hb x rfl]
      exact exec_staging_of_idle accepts idle range (show 0x23 ∈ stagingCodes by decide) tag
    case clear => exact exec_staging_of_idle accepts idle (c := .clearBands) rfl (by decide) tag
    case copy => exact exec_staging_of_idle accepts idle (c := .stageCopy) rfl (by decide) tag
  · exact exec_staging_of_armed accepts staging armed tag
  · rw [exec_staging_outOfRange accepts staging range, idle]
    rfl

/-! ### ACTIVATE (R60, R65) -/

section
variable {s : State}

theorem State.startActivate_of_idle (running : s.engine = .running) (idle : s.activation.phase = .idle) :
    s.startActivate = (s.setActivation { s.activation with phase := .awaitBoundary }).finish 1 [] := by
  simp only [State.startActivate, running, State.isArmed_eq_false.2 idle, Bool.false_eq_true, if_false, if_true]

theorem State.startActivate_of_armed (running : s.engine = .running) (armed : s.activation.phase ≠ .idle) :
    s.startActivate = s.refuse armedCode := by
  simp only [State.startActivate, running, State.isArmed_iff.2 armed, if_true]

theorem State.startActivate_of_notReady (unconfigured : s.engine = .unconfigured) (notReady : s.port.state = .notReady) :
    s.startActivate = s.refuse notReadyCode := by
  simp [State.startActivate, State.memoryReady, unconfigured, notReady]

theorem State.startActivate_of_unset (unconfigured : s.engine = .unconfigured) (ready : s.port.state = .ready)
    (unset : s.clock.isSet = false) : s.startActivate = s.refuse clockUnsetCode := by
  simp [State.startActivate, State.memoryReady, unconfigured, ready, unset]

/-- In UNCONFIGURED a failed check is followed by no boundary (R65, R73). -/
theorem State.failChecks_of_unconfigured (unconfigured : s.engine = .unconfigured) (f : CheckFailure) :
    s.failChecks f = s.checksFailed f := by
  have stopped : (s.checksFailed f).engine ≠ .running := by
    rw [show (s.checksFailed f).engine = .unconfigured from unconfigured]
    exact EngineState.noConfusion
  exact congrArg Prod.fst (State.boundarySearch_of_none (.inl stopped))

theorem State.startActivate_of_failed {f : CheckFailure} (unconfigured : s.engine = .unconfigured)
    (ready : s.port.state = .ready) (set : s.clock.isSet = true) (failed : firstFailure s.staged true = some f) :
    s.startActivate = (s.checksFailed f).answer .cut checkFailedCode (failureFields f) := by
  have isReady : s.memoryReady = true := beq_iff_eq.2 ready
  have runs : s.startActivate = s.activateNow := by simp [State.startActivate, unconfigured, isReady, set]
  rw [runs, State.activateNow, isReady, failed]
  exact congrArg (State.answer · .cut checkFailedCode (failureFields f)) (State.failChecks_of_unconfigured unconfigured f)

theorem exec_activate (accepts : s.accepts) (tag : Byte) :
    exec (.activate tag) s = .next (s.install tag 0x26).startActivate :=
  exec_accepts accepts (c := .activate) rfl tag

end

/-- Settles O8: the two answers in RUNNING, then the refusals and the failed check in UNCONFIGURED. -/
theorem activateArmsOrReportsItsFailure : Obligations.ActivateArmsOrReportsItsFailure := by
  intro s tag accepts
  have activate := exec_activate accepts tag
  refine ⟨fun running idle => ?arms, fun running armed => ?armed, fun unconfigured notReady => ?notReady,
    fun unconfigured ready unset => ?unset, fun check object unconfigured ready set failed => ?failed⟩
  case arms => exact activate.trans (congrArg _ (State.startActivate_of_idle (s := s.install tag 0x26) running idle))
  case armed => exact activate.trans (congrArg _ (State.startActivate_of_armed (s := s.install tag 0x26) running armed))
  case notReady =>
    exact activate.trans (congrArg _ (State.startActivate_of_notReady (s := s.install tag 0x26) unconfigured notReady))
  case unset =>
    exact activate.trans (congrArg _ (State.startActivate_of_unset (s := s.install tag 0x26) unconfigured ready unset))
  case failed =>
    exact activate.trans (congrArg _
      (State.startActivate_of_failed (s := s.install tag 0x26) unconfigured ready set failed))

/-! ### DISARM (R61, R63) -/

section
variable {s : State}

/-- The engine with its activation disarmed (R61). -/
def State.disarmed (s : State) : State := s.setActivation { s.activation with phase := .idle, toCheck := [] }

theorem State.startDisarm_of_idle (idle : s.activation.phase = .idle) : s.startDisarm = s.refuse notArmedCode := by
  simp only [State.startDisarm, State.isArmed_eq_false.2 idle, Bool.not_false, if_true]

theorem State.startDisarm_of_waiting (awaits : s.activation.phase = .awaitBoundary ∨ s.activation.phase = .awaitQuiet) :
    s.startDisarm = s.disarmed.finish 0 [] := by
  have armed : s.isArmed = true := State.isArmed_iff.2 fun idle => by simp [idle] at awaits
  have notChecking : s.activation.phase ≠ .checking := fun checking => by simp [checking] at awaits
  simp only [State.startDisarm, armed, notChecking, Bool.not_true, Bool.false_eq_true, if_false]
  rfl

/-- Leaving CHECKING with no boundary to take (R61, R73). -/
theorem State.startDisarm_of_checking (checking : s.activation.phase = .checking)
    (behind : ∀ start, s.clock.openStart = some start → s.candidate ≤ start) :
    s.startDisarm = (s.disarmed.finish 0 []).drive := by
  have armed : s.isArmed = true := State.isArmed_iff.2 (by rw [checking]; exact ActivationPhase.noConfusion)
  have search : s.disarmed.boundarySearch.1 = s.disarmed :=
    congrArg Prod.fst (State.boundarySearch_of_none (s := s.disarmed) (.inr (.inr behind)))
  simp only [State.startDisarm, armed, checking, Bool.not_true, Bool.false_eq_true, if_false, if_true]
  exact congrArg (fun t => (State.finish t 0 []).drive) search

theorem exec_disarm (accepts : s.accepts) (tag : Byte) :
    exec (.disarm tag) s = .next (s.install tag 0x27).startDisarm :=
  exec_accepts accepts (c := .disarm) rfl tag

/-- A RESULT built beside units that rest, or that wait while an operation holds the port, has no follow-on work. -/
theorem State.answered_drive {tag code : Byte} {outcome : OutcomeClass} {detail : Nat} {fields : List Byte}
    (still : s.resting ∨ (s.answered tag code outcome detail fields).blocked) :
    (s.answered tag code outcome detail fields).drive = s.answered tag code outcome detail fields := by
  rcases still with rest | waits
  · exact State.drive_of_resting (s := s.answered tag code outcome detail fields) rest rfl
  · exact State.drive_of_blocked waits

end

/-- Settles O11: the refusal in IDLE, then the phase left at once, or from CHECKING with the follow-on work. -/
theorem disarmLeavesTheSetsAlone : Obligations.DisarmLeavesTheSetsAlone := by
  intro s tag accepts
  have disarm := exec_disarm accepts tag
  refine ⟨fun idle => ?idle, fun awaits => ?awaits, fun start checking still hs behind => ?checking⟩
  case idle => exact disarm.trans (congrArg _ (State.startDisarm_of_idle (s := s.install tag 0x27) idle))
  case awaits => exact disarm.trans (congrArg _ (State.startDisarm_of_waiting (s := s.install tag 0x27) awaits))
  case checking =>
    have noBoundary : ∀ x, s.clock.openStart = some x → s.candidate ≤ x := fun x hx => by
      rw [hs, Option.some.injEq] at hx
      exact hx ▸ behind
    refine disarm.trans (congrArg Host.Outcome.next ?_)
    rw [State.startDisarm_of_checking (s := s.install tag 0x27) checking noBoundary]
    exact State.answered_drive (s := s.disarmed) still

end Sys2Proof.Machine
end

section
/-! ## The clock's tick (O43) -/

namespace Sys2Proof.Machine

/-! ### The clock advanced (R69) -/

section
variable {c : DayClock}

theorem DayClock.stopped_iff : c.stopped = true ↔ c.day = 65535 ∧ c.second = 86399 := by
  simp only [DayClock.stopped, Bool.and_eq_true, beq_iff_eq]

/-- Before midnight the second alone advances. -/
theorem DayClock.advance_of_within (h : c.second < 86399) : c.advance = { c with second := c.second + 1 } := by
  have notLast : c.second ≠ 86399 := Nat.ne_of_lt h
  have going : ¬c.stopped = true := fun stopped => notLast (DayClock.stopped_iff.1 stopped).2
  rw [DayClock.advance, if_neg going, if_neg notLast]

/-- At midnight the next day begins. -/
theorem DayClock.advance_of_midnight (day : c.day ≠ 65535) (h : c.second = 86399) :
    c.advance = { c with day := c.day + 1, second := 0 } := by
  have going : ¬c.stopped = true := fun stopped => day (DayClock.stopped_iff.1 stopped).1
  rw [DayClock.advance, if_neg going, if_pos h]

/-- The minute count at midnight. -/
theorem DayClock.minute_of_midnight (c : DayClock) (day : Nat) :
    ({ c with day := day, second := 0 } : DayClock).minute = day * 1440 := by
  simp only [DayClock.minute, Nat.zero_div, Nat.add_zero]

end

/-! ### The tick -/

section
variable {s : State}

/-- The engine with its clock advanced, noting a multiple of the interval length that it reaches (R69, R73). -/
def State.clockAdvanced (s : State) : State :=
  { s with clock := { s.clock.advance with
      boundaryDue := s.clock.advance.second % 60 == 0 && s.clock.advance.minute % s.active.general.interval == 0 } }

/-- With nothing to serve first, the tick is the clock's advance (log 9). -/
theorem exec_clockTick (unserved : s.clock.boundaryDue = false)
    (ahead : ∀ b ∈ s.books, b.state = .collecting → s.clock.time < b.deadline) :
    exec .clockTick s = .next s.advanceClock := by
  refine congrArg (fun t : State => Host.Outcome.next t.advanceClock) (if_neg ?_)
  rw [State.deadlineReached_of_ahead ahead, unserved]
  exact Bool.false_ne_true

/-- A clock at its last second stays there. -/
theorem State.advanceClock_of_stopped (unserved : s.clock.boundaryDue = false) (stopped : s.clock.stopped = true) :
    s.advanceClock = s := by
  have still : s.clock.advance = s.clock := if_pos stopped
  have due : ({ s.clock with boundaryDue := false } : DayClock) = s.clock := by rw [← unserved]
  simp only [State.advanceClock, still, stopped, unserved, Bool.not_true, Bool.false_and, Bool.or_false, due]

/-- A clock before its last second advances. -/
theorem State.advanceClock_of_going (unserved : s.clock.boundaryDue = false) (going : s.clock.stopped = false) :
    s.advanceClock = s.clockAdvanced := by
  simp only [State.advanceClock, going, unserved, Bool.not_false, Bool.true_and, Bool.false_or]
  rfl

end

/-- Settles O43: the last second, midnight, and every other second. -/
theorem clockTickAdvancesOneSecond : Obligations.ClockTickAdvancesOneSecond := by
  intro s unserved ahead
  rw [exec_clockTick unserved ahead]
  refine ⟨fun day second => ?last, fun day second => ?midnight, fun within => ?within⟩
  case last => rw [State.advanceClock_of_stopped unserved (DayClock.stopped_iff.2 ⟨day, second⟩)]
  case midnight =>
    have going : s.clock.stopped = false := Bool.eq_false_iff.2 fun stopped => day (DayClock.stopped_iff.1 stopped).1
    rw [State.advanceClock_of_going unserved going, State.clockAdvanced, DayClock.advance_of_midnight day second,
      DayClock.minute_of_midnight]
    rfl
  case within =>
    have going : s.clock.stopped = false :=
      Bool.eq_false_iff.2 fun stopped => Nat.ne_of_lt within (DayClock.stopped_iff.1 stopped).2
    rw [State.advanceClock_of_going unserved going, State.clockAdvanced, DayClock.advance_of_within within]
    rfl

end Sys2Proof.Machine
end

section
/-! ## The STATEMENT of the oldest owed book (O35) -/

namespace Sys2Proof.Machine

/-! ### Its bytes (section 12.3) -/

/-- An optional field has its presence byte and its bytes. -/
theorem presence_length {α : Type} {size : Nat} {code : α → List Byte} (sized : ∀ v, (code v).length = size)
    (v : Option α) : (presence size code v).length = size + 1 := by
  cases v with
  | none => simp [presence]
  | some v => simp [presence, sized]

theorem captureFields_length (k : Capture) : (captureFields k).length = 15 := by simp [captureFields]

theorem countFields_length (f : Figures) : (countFields f).length = 6 := by simp [countFields]

theorem gridFields_length (g : Option GridFigures) : (gridFields g).length = 14 :=
  presence_length (fun _ => by simp) g

theorem energyFields_length (f : Figures) : (energyFields f).length = 64 := by
  simp [energyFields, gridFields_length]

theorem statementBody_length (b : Book) : (statementBody b).length = 97 := by
  simp [statementBody, captureFields_length, countFields_length, energyFields_length]

/-- The byte of the flag that tells a discarded book from a posted one. -/
theorem be_discarded (b : Book) :
    be 1 (if b.state = .discarded then 1 else 0) = [if b.state = .discarded then 1 else 0] := by
  by_cases h : b.state = .discarded
  · simp only [h, if_true]; rfl
  · simp only [h, if_false]; rfl

/-- The byte of a hold reason, 0 for none. -/
theorem be_holdReasonCode (r : Option HoldReason) :
    be 1 (holdReasonCode r) = [match r with | none => 0 | some .range => 1 | some .systemDamaged => 2] := by
  rcases r with _ | r
  · rfl
  · cases r <;> rfl

/-- The grid-tie figures, 0 where there are none. -/
theorem gridFields_eq (g : Option GridFigures) :
    gridFields g =
      match g with
      | some g => ([1] : List Byte) ++ be 4 g.gridImport ++ be 4 g.gridExport ++ signedBe 5 g.loss
      | none => List.replicate 14 0 := by
  cases g <;> rfl

/-- The body of a book whose settling has left its capture and its figures, field by field. -/
theorem statementBody_of_settled {b : Book} {k : Capture} {f : Figures} (hk : b.capture = some k)
    (hf : b.figures = some f) :
    statementBody b =
      be 4 b.start ++ be 4 b.close ++ be 1 b.mark.toNat ++ be 1 (if b.state = .discarded then 1 else 0) ++
      be 1 (holdReasonCode b.holdReason) ++ be 1 k.band ++ be 3 k.gridPrice ++ be 3 k.feedPrice ++ be 2 k.share ++
      be 3 k.fee ++ be 3 k.localPrice ++ be 1 f.settled ++ be 1 f.missing ++ be 1 f.rebased ++ be 1 f.suspended ++
      be 1 f.excluded ++ be 1 f.clamped ++ be 1 b.counterFaults ++ be 4 f.totalSale ++ be 4 f.totalPurchase ++
      be 4 f.localMatch ++ be 4 f.excludedExport ++ be 4 f.excludedImport ++ gridFields f.grid ++ be 6 f.residue ++
      be 6 f.localDebits ++ be 6 f.localCredits ++ be 6 f.gridDebits ++ be 6 f.gridCredits := by
  simp only [statementBody, hk, hf, Option.getD_some, captureFields, countFields, energyFields, List.append_assoc]

/-! ### Its turn (R87, R171) -/

section
variable {s : State}

theorem StationLink.hasRoom_iff {l : StationLink} : l.hasRoom = true ↔ l.outbound.length < 4 := decide_eq_true_iff

theorem StationLink.restartUnsent_iff {l : StationLink} :
    l.restartUnsent = true ↔ ∃ f ∈ l.outbound, f.restart ≠ .absent := by
  simp only [StationLink.restartUnsent, List.any_eq_true, bne_iff_ne]

/-- With room and no frame that goes before it, the oldest owed book's STATEMENT is due. -/
theorem State.statementDue_of_free (room : s.link.hasRoom = true) (noFrame : s.frameWaiting = false)
    (noRestart : s.link.restartUnsent = false) : s.statementDue = s.books.find? Book.owed := by
  simp only [State.statementDue, room, noFrame, noRestart, Bool.not_false, Bool.and_self, if_true]

/-- Without room, behind another frame, or with no book that owes one, no STATEMENT is due. -/
theorem State.statementDue_of_held
    (h : s.link.hasRoom = false ∨ s.frameWaiting = true ∨ s.link.restartUnsent = true ∨ ∀ b ∈ s.books, b.owed = false) :
    s.statementDue = none := by
  have noneOwed (paid : ∀ b ∈ s.books, b.owed = false) : s.books.find? Book.owed = none :=
    List.find?_eq_none.2 fun b hb => by rw [paid b hb]; exact Bool.false_ne_true
  rcases h with full | waiting | unsent | paid
  · simp [State.statementDue, full]
  · simp [State.statementDue, waiting]
  · simp [State.statementDue, unsent]
  · rw [State.statementDue, noneOwed paid, ite_self]

theorem exec_statement_of_due {b : Book} (due : s.statementDue = some b) :
    exec .statement s = .next
      { s.updateBook b.start (fun x => { x with owed := false }) with link := s.link.push (statementFrame b) } := by
  change Host.Outcome.next s.queueStatement = _
  simp only [State.queueStatement, due]

theorem exec_statement_of_none (due : s.statementDue = none) : exec .statement s = .next s := by
  change Host.Outcome.next s.queueStatement = _
  simp only [State.queueStatement, due]

end

/-- Settles O35: the body's length and its fields, then the queue with and without what goes before a STATEMENT. -/
theorem theOldestOwedStatementIsQueued : Obligations.TheOldestOwedStatementIsQueued := by
  refine ⟨statementBody_length, fun b k f hk hf => ?fields, fun s =>
    ⟨fun b room noFrame noRestart owed => ?queued, fun held => ?held⟩⟩
  case fields =>
    have body := statementBody_of_settled hk hf
    rw [be_discarded, be_holdReasonCode, gridFields_eq] at body
    exact body
  case queued =>
    have sent : s.link.restartUnsent = false := Bool.eq_false_iff.2 fun unsent =>
      let ⟨f, hf, restart⟩ := StationLink.restartUnsent_iff.1 unsent
      restart (noRestart f hf)
    exact exec_statement_of_due ((State.statementDue_of_free (StationLink.hasRoom_iff.2 room) noFrame sent).trans owed)
  case held =>
    refine exec_statement_of_none (State.statementDue_of_held ?_)
    rcases held with full | waiting | unsent | paid
    · exact .inl (Bool.eq_false_iff.2 fun room => Nat.not_lt.2 full (StationLink.hasRoom_iff.1 room))
    · exact .inr (.inl waiting)
    · exact .inr (.inr (.inl (StationLink.restartUnsent_iff.2 unsent)))
    · exact .inr (.inr (.inr paid))

end Sys2Proof.Machine
end

section
/-! ## SET CLOCK (O12) -/

namespace Sys2Proof.Machine

/-! ### What a forward step serves (R71) -/

section
variable {s : State} {b : Book} {before start : Nat}

theorem State.deadlineReached_of_collecting (hb : s.collecting = some b) (reached : b.deadline ≤ s.clock.time) :
    s.deadlineReached = true := by
  simp only [State.deadlineReached, hb, reached, decide_true]

theorem State.passedMultiple_iff : s.passedMultiple before = true ↔ before < s.candidate * 60 := decide_eq_true_iff

/-- A step that reaches neither a deadline nor a multiple serves nothing. -/
theorem State.stepForward_of_none (ahead : s.deadlineReached = false) (short : s.candidate * 60 ≤ before) :
    s.stepForward before = (s, false, false) := by
  have noMultiple : ¬s.passedMultiple before = true := fun passed => Nat.not_lt.2 short (State.passedMultiple_iff.1 passed)
  simp only [State.stepForward, ahead, Bool.false_eq_true, if_false, noMultiple]

/-- A step that reaches the deadline alone ends the collection. -/
theorem State.stepForward_of_deadline {t : State} (reached : s.deadlineReached = true) (ended : s.endCollection = t)
    (short : t.candidate * 60 ≤ before) : s.stepForward before = (t, true, false) := by
  have noMultiple : ¬t.passedMultiple before = true := fun passed => Nat.not_lt.2 short (State.passedMultiple_iff.1 passed)
  simp only [State.stepForward, reached, if_true, ended, noMultiple, Bool.false_eq_true, if_false]

/-- A step that reaches a multiple alone searches for its boundary, with no collection that could end in it. -/
theorem State.stepForward_of_multiple (closed : ∀ x ∈ s.books, x.state ≠ .collecting) (passed : before < s.candidate * 60) :
    s.stepForward before = (s.boundarySearch.1, false, s.boundarySearch.2) := by
  have ahead : s.deadlineReached = false := State.deadlineReached_of_ahead fun x hx hc => absurd hc (closed x hx)
  have none : s.collecting = none := List.find?_eq_none.2 fun x hx => by simpa using closed x hx
  simp only [State.stepForward, ahead, Bool.false_eq_true, if_false, State.passedMultiple_iff.2 passed, if_true, none,
    Option.isSome_none, Bool.and_false, Bool.or_false]

/-- A step that reaches both ends the collection and then searches for the boundary. -/
theorem State.stepForward_of_both {t : State} (reached : s.deadlineReached = true) (ended : s.endCollection = t)
    (passed : before < t.candidate * 60) : s.stepForward before = (t.boundarySearch.1, true, t.boundarySearch.2) := by
  simp only [State.stepForward, reached, if_true, ended, State.passedMultiple_iff.2 passed, Bool.true_or]

/-- A search with no collection open and room in the list takes its boundary (R73, R74). -/
theorem State.boundarySearch_of_room (running : s.engine = .running) (notChecking : s.activation.phase ≠ .checking)
    (noSequence : s.sequence = .none) (hs : s.clock.openStart = some start) (beyond : start < s.candidate)
    (room : s.books.length < 8) (closed : ∀ x ∈ s.books, x.state ≠ .collecting) (someone : s.active.expectedSet ≠ []) :
    s.boundarySearch = (s.bookOpened s.books start s.candidate, true) := by
  have few : ¬Config.books ≤ s.books.length := Nat.not_le.2 room
  rw [State.boundarySearch_of_beyond running notChecking noSequence hs beyond, if_neg (by simp [few]),
    State.takeBoundary_eq (State.endCollection_of_none closed) (freeRecord_of_room room) closed someone]

/-- Once the one collection open has ended, no book is COLLECTING. -/
theorem State.collectionEnded_closed (alone : ∀ x ∈ s.books, x.state = .collecting → x = b) :
    ∀ x ∈ (s.collectionEnded b fun x => x).books, x.state ≠ .collecting := by
  intro x hx
  obtain ⟨y, hy, rfl⟩ := List.mem_map.1 hx
  by_cases h : y.start = b.start ∧ y.state = .collecting
  · rw [if_pos h]
    exact BookState.noConfusion
  · rw [if_neg h]
    exact fun collecting => h ⟨congrArg Book.start (alone y hy collecting), collecting⟩

end

/-! ### The command (R70) -/

section
variable {s : State} {day second weekday : Nat}

/-- The engine with the clock's values set, and nothing served (R70, log 45). -/
def State.clockMoved (s : State) (day second weekday : Nat) : State :=
  { s with clock := s.clock.setTo day second weekday }

/-- The step of SET CLOCK, in seconds (R70). -/
def State.clockStep (s : State) (day second : Nat) : Int := ((day * 86400 + second : Nat) : Int) - s.clock.time

theorem State.startSetClock_of_unconfigured (unconfigured : s.engine = .unconfigured) :
    s.startSetClock day second weekday =
      ({ s with clock := { s.clock.setTo day second weekday with isSet := true } } : State).finish 0
        (clockStepFields (day * 86400 + second) 0 false false) := if_pos unconfigured

/-- In RUNNING the step decides: it is refused, or serves what it reaches, or moves the clock alone (R71). -/
theorem State.startSetClock_of_running (running : s.engine = .running) :
    s.startSetClock day second weekday =
      if s.clockStep day second < -120 ∨ 120 < s.clockStep day second then s.refuse stepTooLargeCode
      else if 0 < s.clockStep day second then
        (((s.clockMoved day second weekday).stepForward s.clock.time).1.finish 0
          (clockStepFields (day * 86400 + second) (s.clockStep day second)
            ((s.clockMoved day second weekday).stepForward s.clock.time).2.1
            ((s.clockMoved day second weekday).stepForward s.clock.time).2.2)).drive
      else
        (s.clockMoved day second weekday).finish 0
          (clockStepFields (day * 86400 + second) (s.clockStep day second) false false) := by
  have configured : s.engine ≠ .unconfigured := by rw [running]; exact EngineState.noConfusion
  rw [State.startSetClock]
  simp only [configured, if_false, Bool.or_eq_true, decide_eq_true_eq]
  rfl

/-- A step beyond 120 s is refused (R71). -/
theorem State.startSetClock_of_tooLarge (running : s.engine = .running)
    (large : s.clockStep day second < -120 ∨ 120 < s.clockStep day second) :
    s.startSetClock day second weekday = s.refuse stepTooLargeCode := by
  rw [State.startSetClock_of_running running, if_pos large]

/-- A step backward or of 0 moves the clock alone (R71). -/
theorem State.startSetClock_of_backward (running : s.engine = .running) (small : -120 ≤ s.clockStep day second)
    (backward : s.clockStep day second ≤ 0) :
    s.startSetClock day second weekday =
      (s.clockMoved day second weekday).finish 0
        (clockStepFields (day * 86400 + second) (s.clockStep day second) false false) := by
  rw [State.startSetClock_of_running running, if_neg (by omega), if_neg (Int.not_lt.2 backward)]

/-- A forward step serves what it reaches (R71). -/
theorem State.startSetClock_of_forward {t : State} {ended taken : Bool} (running : s.engine = .running)
    (forward : 0 < s.clockStep day second) (small : s.clockStep day second ≤ 120)
    (serves : (s.clockMoved day second weekday).stepForward s.clock.time = (t, ended, taken)) :
    s.startSetClock day second weekday =
      (t.finish 0 (clockStepFields (day * 86400 + second) (s.clockStep day second) ended taken)).drive := by
  rw [State.startSetClock_of_running running, if_neg (by omega), if_pos forward, serves]

variable {tag : Byte}

theorem exec_setClock (accepts : s.accepts) (hd : day ≤ 65535) (hs : second ≤ 86399) (hw : weekday ≤ 6) :
    exec (.setClock tag day second weekday) s = .next ((s.install tag 0x30).startSetClock day second weekday) :=
  exec_accepts accepts (c := .setClock day second weekday) (by simp [commandInRange, hd, hs, hw]) tag

/-- The RESULT of a forward step. -/
def State.clockAnswered (s : State) (tag : Byte) (now : Nat) (step : Int) (ended taken : Bool) : State :=
  s.answered tag 0x30 .done 0 (clockStepFields now step ended taken)

/-- SET CLOCK with a forward step: what the step serves, its RESULT, and the units' turns. -/
theorem exec_setClock_of_forward {t : State} {ended taken : Bool} (accepts : s.accepts) (hd : day ≤ 65535)
    (hs : second ≤ 86399) (hw : weekday ≤ 6) (running : s.engine = .running) (forward : 0 < s.clockStep day second)
    (small : s.clockStep day second ≤ 120)
    (serves : ((s.install tag 0x30).clockMoved day second weekday).stepForward s.clock.time = (t, ended, taken))
    (executing : t.link.executing = (s.install tag 0x30).link.executing) :
    exec (.setClock tag day second weekday) s = .next
      (t.clockAnswered tag (day * 86400 + second) (s.clockStep day second) ended taken).drive := by
  rw [exec_setClock accepts hd hs hw,
    State.startSetClock_of_forward (s := s.install tag 0x30) running forward small serves, State.finish,
    State.answer_of_executing executing]
  rfl

end

/-! ### The units after a forward step -/

section
variable {s : State} {b : Book} {tag : Byte} {now start : Nat} {step : Int}

theorem State.clockAnswered_drive_of_none (rest : s.resting) :
    (s.clockAnswered tag now step false false).drive = s.clockAnswered tag now step false false :=
  State.drive_of_resting (s := s.clockAnswered tag now step false false) rest rfl

theorem State.clockAnswered_drive_of_ended (rest : s.resting) (notReady : s.port.state = .notReady) :
    ((s.collectionEnded b fun x => x).clockAnswered tag now step true false).drive =
      (s.collectionEnded b fun x => x).clockAnswered tag now step true false :=
  State.collectionEnded_drive_of_notReady (s := s.clockAnswered tag now step true false) rest rfl notReady

theorem State.clockAnswered_drive_of_taken {candidate : Nat} (rest : s.resting) :
    ((s.bookOpened s.books start candidate).clockAnswered tag now step false true).drive =
      (s.bookOpened s.books start candidate).clockAnswered tag now step false true := by
  have rest' : (s.clockAnswered tag now step false true).resting := rest
  have units := rest'.unitsRest
  refine State.bookOpened_drive (rest'.othersRest rfl) units.noWork units.notChecking units.noMarking
    (State.admissible_of_none fun x hx => ?_)
  rcases List.mem_append.1 hx with old | new
  · obtain ⟨_, _, _, _, _, _, _, _, _, books, _⟩ := rest
    exact (books x old).1
  · rw [List.mem_singleton.1 new]
    exact BookState.noConfusion

theorem State.clockAnswered_drive_of_both {candidate : Nat} {kept : List Book} (rest : s.resting)
    (notReady : s.port.state = .notReady) :
    (((s.collectionEnded b fun x => x).bookOpened kept start candidate).clockAnswered tag now step true true).drive =
      ((s.collectionEnded b fun x => x).bookOpened kept start candidate).clockAnswered tag now step true true := by
  have rest' : (s.clockAnswered tag now step true true).resting := rest
  have units := rest'.unitsRest
  have ended := State.collectionEnded_othersRest (b := b) rest' rfl fun x => x
  exact State.bookOpened_drive ended units.noWork units.notChecking units.noMarking
    (State.admissible_of_notReady (s := ((s.clockAnswered tag now step true true).collectionEnded b
      fun x => x).bookOpened kept start candidate) notReady)

end

/-- Settles O12: the clock set, refused or moved alone; then the forward steps by what they reach. -/
theorem setClockTakesStepsUpTo120Seconds : Obligations.SetClockTakesStepsUpTo120Seconds := by
  intro s tag day second weekday accepts hd hs hw
  have command := exec_setClock (tag := tag) accepts hd hs hw
  refine ⟨fun unconfigured => ?unconfigured, fun running large => ?large, fun running small backward => ?backward,
    fun running forward small rest ahead short => ?alone, fun running forward small rest => ⟨fun b ends short => ?ends,
      fun start takes closed => ?takes, fun b start ends alone takes => ?both⟩⟩
  case unconfigured =>
    rw [command, State.startSetClock_of_unconfigured (s := s.install tag 0x30) unconfigured]
    rfl
  case large =>
    rw [command, State.startSetClock_of_tooLarge (s := s.install tag 0x30) running large]
    rfl
  case backward =>
    rw [command, State.startSetClock_of_backward (s := s.install tag 0x30) running small backward]
    rfl
  all_goals
    have step {t : State} {ended taken : Bool} := exec_setClock_of_forward (tag := tag) (t := t) (ended := ended)
      (taken := taken) accepts hd hs hw running forward small
  case alone =>
    have nothing : ((s.install tag 0x30).clockMoved day second weekday).stepForward s.clock.time = (_, false, false) :=
      State.stepForward_of_none (State.deadlineReached_of_ahead ahead) short
    rw [step nothing rfl,
      State.clockAnswered_drive_of_none (s := (s.install tag 0x30).clockMoved day second weekday) rest]
    rfl
  case ends =>
    obtain ⟨hb, reached, notReady, nodup, _⟩ := ends
    have serves := State.stepForward_of_deadline (s := (s.install tag 0x30).clockMoved day second weekday)
      (State.deadlineReached_of_collecting hb reached) (State.endCollection_eq hb rest.unitsRest.notQuiesced nodup) short
    rw [step serves rfl,
      State.clockAnswered_drive_of_ended (s := (s.install tag 0x30).clockMoved day second weekday) rest notReady,
      State.collectionEnded_eq]
    rfl
  case takes =>
    obtain ⟨opened, passed, beyond, someone, room⟩ := takes
    have taken := State.boundarySearch_of_room (s := (s.install tag 0x30).clockMoved day second weekday) running
      rest.unitsRest.notChecking rest.unitsRest.noSequence opened beyond room closed someone
    have serves := State.stepForward_of_multiple (s := (s.install tag 0x30).clockMoved day second weekday) closed passed
    rw [taken] at serves
    rw [step serves rfl,
      State.clockAnswered_drive_of_taken (s := (s.install tag 0x30).clockMoved day second weekday) rest,
      State.bookOpened, Activation.boundaryTaken_eq]
    rfl
  case both =>
    obtain ⟨hb, reached, notReady, nodup, _⟩ := ends
    obtain ⟨opened, passed, beyond, someone, room⟩ := takes
    have room' : (((s.install tag 0x30).clockMoved day second weekday).collectionEnded b fun x => x).books.length < 8 := by
      rw [State.collectionEnded, List.length_map]
      exact room
    have taken := State.boundarySearch_of_room
      (s := ((s.install tag 0x30).clockMoved day second weekday).collectionEnded b fun x => x) running
      rest.unitsRest.notChecking rest.unitsRest.noSequence opened beyond room' (State.collectionEnded_closed alone) someone
    have serves := State.stepForward_of_both (s := (s.install tag 0x30).clockMoved day second weekday)
      (State.deadlineReached_of_collecting hb reached) (State.endCollection_eq hb rest.unitsRest.notQuiesced nodup) passed
    rw [taken] at serves
    rw [step serves rfl,
      State.clockAnswered_drive_of_both (s := (s.install tag 0x30).clockMoved day second weekday) rest notReady,
      State.bookOpened, Activation.boundaryTaken_eq, State.collectionEnded_eq]
    rfl

end Sys2Proof.Machine
end

section
/-! ## What a reconciliation pass leaves (R120, R121) -/

namespace Sys2Proof.Machine

/-- The pass changes queues, the recheck list and the Attention List alone, and no Notice Builder's request. -/
def State.reconciled (s t : State) : Prop :=
  ∃ (ports : Vector FeederPort 4) (recheck : List (Nat × Standing)) (attention : AttentionList),
    (∀ f : Feeder, ports[f].prefetch = s.ports[f].prefetch) ∧
    t = { s with ports := ports, posting := { s.posting with recheck := recheck }, attention := attention }

theorem State.reconciled_self (s : State) : s.reconciled s := ⟨s.ports, s.posting.recheck, s.attention, fun _ => rfl, rfl⟩

theorem State.reconciled_setRecheck (s : State) (l : List (Nat × Standing)) : s.reconciled (s.setRecheck l) :=
  ⟨s.ports, l, s.attention, fun _ => rfl, rfl⟩

namespace State.reconciled

variable {s t u : State}

theorem trans (h : s.reconciled t) (h' : t.reconciled u) : s.reconciled u := by
  obtain ⟨ports, recheck, attention, kept, rfl⟩ := h
  obtain ⟨ports', recheck', attention', kept', rfl⟩ := h'
  exact ⟨ports', recheck', attention', fun f => (kept' f).trans (kept f), rfl⟩

/-! What a pass leaves as it was. -/

theorem active : s.reconciled t → t.active = s.active := fun ⟨_, _, _, _, e⟩ => e ▸ rfl

theorem staged : s.reconciled t → t.staged = s.staged := fun ⟨_, _, _, _, e⟩ => e ▸ rfl

theorem activation : s.reconciled t → t.activation = s.activation := fun ⟨_, _, _, _, e⟩ => e ▸ rfl

theorem clock : s.reconciled t → t.clock = s.clock := fun ⟨_, _, _, _, e⟩ => e ▸ rfl

theorem books : s.reconciled t → t.books = s.books := fun ⟨_, _, _, _, e⟩ => e ▸ rfl

theorem port : s.reconciled t → t.port = s.port := fun ⟨_, _, _, _, e⟩ => e ▸ rfl

theorem cache : s.reconciled t → t.cache = s.cache := fun ⟨_, _, _, _, e⟩ => e ▸ rfl

theorem link : s.reconciled t → t.link = s.link := fun ⟨_, _, _, _, e⟩ => e ▸ rfl

/-- A pass leaves units at rest at rest. -/
theorem resting (h : s.reconciled t) (rest : s.resting) : t.resting := by
  obtain ⟨ports, recheck, attention, kept, rfl⟩ := h
  obtain ⟨hq, hs, hw, hp, hi, hu, ha, hc, hm, hb, hn⟩ := rest
  exact ⟨hq, hs, hw, hp, hi, hu, ha, hc, hm, hb, fun f => (congrArg Prefetch.isWaiting (kept f)).trans (hn f)⟩

/-- A pass leaves the executing command where it is. -/
theorem run (h : s.reconciled t) : t.run = s.run := by rw [State.run, h.link, State.run]

theorem commandDone (h : s.reconciled t) : t.commandDone = s.commandDone := by
  rw [State.commandDone, h.run, State.commandDone]

/-- A pass goes by nothing of the Activation Unit. -/
theorem withActivation (h : s.reconciled t) (a : Activation) :
    ({ s with activation := a } : State).reconciled { t with activation := a } := by
  obtain ⟨ports, recheck, attention, kept, rfl⟩ := h
  exact ⟨ports, recheck, attention, kept, rfl⟩

/-- A pass leaves a commit moment one. -/
theorem atCommit (h : s.reconciled t) (commit : s.atCommit) : t.atCommit := by
  refine ⟨by rw [h.activation]; exact commit.awaiting, by rw [h.books]; exact commit.closed,
    h.commandDone.trans commit.commandDone, ?_⟩
  rw [h.activation]
  exact (h.withActivation _).resting commit.quiet

end State.reconciled

/-- One visit (R120, R121). -/
theorem State.reconcileAt_reconciled (s : State) (i : Nat) (st : Standing) : s.reconciled (s.reconcileAt i st) := by
  simp only [State.reconcileAt]
  split
  case isTrue => exact s.reconciled_setRecheck _
  case isFalse =>
    split
    case h_1 => exact s.reconciled_setRecheck _
    case h_2 p hp =>
      split
      case isFalse => exact s.reconciled_setRecheck _
      case isTrue =>
        split
        case h_1 q _ =>
          refine ⟨_, _, s.attention, fun f => ?_, rfl⟩
          by_cases here : (s.active.entry i).feeder = f.val
          · have port : s.ports[f] = p := by simpa [here] using hp
            simp [here, port]
          · simp [here]
        case h_2 => exact ⟨s.ports, _, _, fun _ => rfl, rfl⟩

/-- A whole pass. -/
theorem State.reconcile_reconciled (s : State) (concerned : List (Nat × Standing)) :
    s.reconciled (s.reconcile concerned) := by
  have visits (l : List Nat) (t : State) (h : s.reconciled t) :
      s.reconciled (l.foldl (fun u i =>
        match u.passStanding concerned i with
        | some st => u.reconcileAt i st
        | none => u) t) := by
    induction l generalizing t with
    | nil => exact h
    | cons i rest ih =>
      rw [List.foldl_cons]
      refine ih _ ?_
      split
      · exact h.trans (t.reconcileAt_reconciled i _)
      · exact h
  exact visits indices s s.reconciled_self

end Sys2Proof.Machine
end

section
/-! ## A cleared journal and a repair record (O49) -/

namespace Sys2Proof.Machine

/-! ### A command that waited for the posting goes on (R38, R122, R126) -/

section
variable {s : State} {tag code : Byte}

/-- A state whose executing command stands where it is put. -/
theorem State.executing_same {run : Run} (he : s.link.executing = some { tag := tag, code := code, run := run }) :
    s.executing tag code run = s := by
  rw [State.executing, ← he]

/-- A REBASE that waited meets a good line (R38). -/
theorem State.drive_of_rebaseWait {i line : Nat} {r : AccountRecord} {dirty locked : Bool} (rest : s.resting)
    (he : s.link.executing = some { tag := tag, code := code, run := .rebaseWait i }) (found : s.cache.find i = some line)
    (held : s.cache.line line = some { tag := i, record := some r, dirty := dirty, locked := locked }) :
    s.drive =
      ({ s with
          cache := (s.cache.set line (some { tag := i, record := some { r with rebasePending := true }, dirty := true,
                                             locked := locked })).touch line } : State).answered
        tag code .done (if r.rebasePending then 2 else 1) [] := by
  have second := State.rebaseTurn_of_good (s := s.executing tag code (.rebaseRead i)) (Cache.lookup_of_line found held)
  have driven := State.drive_of_rebase rest (t := ({ s with cache := (s.cache.touch line).setRebase line } : State).answered
    tag code .done (if r.rebasePending then 2 else 1) []) rest rfl second
  rw [State.executing_same he, Cache.setRebase_touch held] at driven
  exact driven

/-- A TRANSFER that waited misses its payer (R122, R123). -/
theorem State.drive_of_transferWait {o : TransferOrder} {free : Nat} (rest : s.resting)
    (he : s.link.executing = some { tag := tag, code := code, run := .transferWait o })
    (miss : s.cache.lookup o.payer = .miss) (hv : s.cache.victim none = some free) :
    s.drive =
      (({ s with cache := s.cache.drop free } : State).executing tag code (.transferPayer o)).onPort
        (.fill .command o.payer free (dirtyRecord (s.cache.line free))) := by
  have first : s.commandTurn = some (s.executing tag code (.transferPayer o)) := by
    simp only [State.commandTurn, State.run_of_executing he, rest.notBusy, State.setRun_of_executing he,
      beq_eq_false_iff_ne.2 rest.unitsRest.notChecking, Bool.or_self, Bool.false_eq_true, if_false]
  have second : (s.executing tag code (.transferPayer o)).commandTurn = none := by
    change State.payerTurn _ o = none
    rw [State.payerTurn, show (s.executing tag code (.transferPayer o)).cache.lookup o.payer = .miss from miss]
  have rest' : (s.executing tag code (.transferPayer o)).resting := rest
  rw [State.drive_of_one ((State.turn_of_resting rest).trans first) ((State.turn_of_resting rest').trans second),
    State.grant_of_read rest'.freePort (r := .command) (a := o.payer) ((State.want_of_resting rest').trans rfl),
    State.beginFill_of_victim (s := s.executing tag code (.transferPayer o)) hv]
  rfl

/-- A REPAIR ACCOUNT that waited meets a DAMAGED line (R126). -/
theorem State.drive_of_repairWait {o : RepairOrder} {line : Nat} (rest : s.resting)
    (he : s.link.executing = some { tag := tag, code := code, run := .repairWait o })
    (damaged : s.cache.lookup o.account = .damaged line) :
    s.drive =
      (({ s with cache := s.cache.touch line } : State).executing tag code (.repairWrite o)).onPort
        (.repairRecord o.account (repairRecord o)) := by
  have first : s.commandTurn = some (s.executing tag code (.repairRead o)) := by
    simp only [State.commandTurn, State.run_of_executing he, rest.notBusy, State.setRun_of_executing he,
      Bool.false_eq_true, if_false]
  have second : (s.executing tag code (.repairRead o)).commandTurn =
      some (({ s with cache := s.cache.touch line } : State).executing tag code (.repairWrite o)) := by
    change State.repairTurn _ o = _
    rw [State.repairTurn, show (s.executing tag code (.repairRead o)).cache.lookup o.account = .damaged line from damaged]
    rfl
  have rest₁ : (s.executing tag code (.repairRead o)).resting := rest
  have rest₂ : (({ s with cache := s.cache.touch line } : State).executing tag code (.repairWrite o)).resting := rest
  rw [State.drive_of_two ((State.turn_of_resting rest).trans first) ((State.turn_of_resting rest₁).trans second)
      ((State.turn_of_resting rest₂).trans rfl),
    State.grant_of_op rest₂.freePort (o := .repairRecord o.account (repairRecord o))
      ((State.want_of_resting rest₂).trans rfl)]
  rfl

end

/-! ### The completions (R118, R124, R126) -/

section
variable {s : State} {h : Header}

/-- At rest a command answered at its operation's completion is done with the event. -/
theorem State.completed_of_answer {e : Executing} (rest : s.resting) (he : s.link.executing = some e) (o : OutcomeClass)
    (d : Nat) (fl : List Byte) : (s.answer o d fl).completed = s.answered e.tag e.code o d fl := by
  rw [State.answer_of_executing he]
  exact State.completed_of_resting (s := s.answered e.tag e.code o d fl) rest rfl

/-- The engine once the cleared header is written, with the header copy (R130). -/
def State.headerCleared (s : State) (h : Header) : State :=
  { s with memory := writeUnit s.memory 0 (headerBytes 0x3D6A h),
           port := { s.port with inProgress := none, header := some h } }

theorem exec_journalHeaderClear {user : JournalUser} (op : s.port.inProgress = some (.journalClear user h)) :
    exec .journalHeaderClear s = .next ((s.headerCleared h).afterClear user).completed := by
  change Host.Outcome.next s.journalClearDone = _
  simp only [State.journalClearDone, op]
  rfl

/-- The clear of a TRANSFER ends it: locks released, the pass, both new balances (R124). -/
theorem exec_journalHeaderClear_of_transfer {tag code : Byte} {o : TransferOrder} {p q : Image}
    (he : s.link.executing = some { tag := tag, code := code, run := .transferClear o [p, q] })
    (op : s.port.inProgress = some (.journalClear .transfer h)) (rest : (s.headerCleared h).resting) :
    exec .journalHeaderClear s = .next
      (((s.headerCleared h).unlock.reconcile
        [(p.account, p.record.standing), (q.account, q.record.standing)]).answered tag code .done 0
          (signedBe 6 p.record.balance ++ signedBe 6 q.record.balance)) := by
  have pass := (s.headerCleared h).unlock.reconcile_reconciled
    [(p.account, p.record.standing), (q.account, q.record.standing)]
  have run : (s.headerCleared h).run = some (.transferClear o [p, q]) :=
    State.run_of_executing (s := s.headerCleared h) he
  rw [exec_journalHeaderClear op]
  simp only [State.afterClear, run, State.transferDone, List.map_cons, List.map_nil, List.flatMap_cons, List.flatMap_nil,
    List.append_nil]
  exact congrArg Host.Outcome.next (State.completed_of_answer (pass.resting rest) (by rw [pass.link]; exact he) _ _ _)

/-- The engine at the end of a posting, before its reconciliation pass (R83, R90). -/
def State.postingEnded (s : State) (h : Header) (start : Nat) : State :=
  { s.headerCleared h with
    books := s.books.map fun b => if b.start = start then { b with state := .posted, owed := true } else b
    work := none
    posting := { phase := .idle, book := none, cursor := 0, images := [], durable := false, recheck := s.posting.recheck } }

/-- The engine at the end of a posting, the pass over (R118, R120). -/
def State.postingReconciled (s : State) (h : Header) (start : Nat) : State :=
  (s.postingEnded h start).reconcile
    ((s.posting.images.filter fun i => i.changes).map fun i => (i.account, i.record.standing))

theorem State.postingEnded_reconciled (s : State) (h : Header) (start : Nat) :
    (s.postingEnded h start).reconciled (s.postingReconciled h start) := State.reconcile_reconciled _ _

/-- The clear of a posting ends it, and the units go on. -/
theorem exec_journalHeaderClear_of_posting {start : Nat} (phase : s.posting.phase = .clear)
    (book : s.posting.book = some start) (op : s.port.inProgress = some (.journalClear .posting h))
    (notQuiesced : s.isQuiesced = false) (uncut : ∀ reason n, s.run ≠ some (.cutting reason n)) :
    exec .journalHeaderClear s = .next (s.postingReconciled h start).drive := by
  have ended : (s.headerCleared h).afterClear .posting = s.postingReconciled h start := by
    have phase' : (s.headerCleared h).posting.phase = .clear := phase
    have book' : (s.headerCleared h).posting.book = some start := book
    have awake : (s.headerCleared h).isQuiesced = false := notQuiesced
    simp only [State.afterClear, phase', book', awake, Bool.false_eq_true, if_false]
    rfl
  have run : (s.postingReconciled h start).run = s.run := (s.postingEnded_reconciled h start).run
  have still : (s.postingReconciled h start).endCut = s.postingReconciled h start := by
    rcases hr : (s.postingReconciled h start).run with _ | r
    · simp only [State.endCut, hr]
    · exact State.endCut_of_run hr fun reason n e => uncut reason n (run.symm.trans (hr.trans (congrArg some e)))
  rw [exec_journalHeaderClear op, ended, State.completed, still]

/-- The clear of a posting beside no command in its execution phase. -/
theorem exec_journalHeaderClear_of_done {start : Nat} (phase : s.posting.phase = .clear)
    (book : s.posting.book = some start) (op : s.port.inProgress = some (.journalClear .posting h))
    (notQuiesced : s.isQuiesced = false) (done : s.commandDone = true) :
    exec .journalHeaderClear s = .next (s.postingReconciled h start).drive :=
  exec_journalHeaderClear_of_posting phase book op notQuiesced fun reason n cut => by
    simp [State.commandDone, cut] at done

/-- The clear of a posting beside a command that has not been cut. -/
theorem exec_journalHeaderClear_of_executing {start : Nat} {e : Executing} (phase : s.posting.phase = .clear)
    (book : s.posting.book = some start) (op : s.port.inProgress = some (.journalClear .posting h))
    (notQuiesced : s.isQuiesced = false) (he : s.link.executing = some e)
    (uncut : ∀ reason n, e.run ≠ .cutting reason n) :
    exec .journalHeaderClear s = .next (s.postingReconciled h start).drive :=
  exec_journalHeaderClear_of_posting phase book op notQuiesced fun reason n cut =>
    uncut reason n (Option.some.inj ((State.run_of_executing he).symm.trans cut))

/-- The line that holds the account takes the record (R126). -/
theorem State.repairLine_of_found {account line : Nat} (found : s.cache.find account = some line) (r : AccountRecord) :
    s.repairLine account r =
      { s with
        cache := s.cache.set line (some { tag := account, record := some r, dirty := false, locked := false }) } := by
  simp only [State.repairLine, found]

/-- The engine once REPAIR ACCOUNT's record is in the memory (R126, R129). -/
def State.recordWritten (s : State) (account : Nat) (r : AccountRecord) : State :=
  { s with memory := writeUnit s.memory (32 + 32 * account) (recordBytes account r),
           port := { s.port with inProgress := none } }

/-- The engine once the line that holds the account has the record too (R126). -/
def State.recordRepaired (s : State) (account line : Nat) (r : AccountRecord) : State :=
  { s.recordWritten account r with
    cache := s.cache.set line (some { tag := account, record := some r, dirty := false, locked := false }) }

/-- The record's write ends REPAIR ACCOUNT (R126). -/
theorem exec_repairRecordWrite {tag code : Byte} {o : RepairOrder} {r : AccountRecord} {line : Nat}
    (he : s.link.executing = some { tag := tag, code := code, run := .repairWrite o })
    (op : s.port.inProgress = some (.repairRecord o.account r)) (found : s.cache.find o.account = some line)
    (rest : (s.recordRepaired o.account line r).resting) :
    exec .repairRecordWrite s = .next
      ((if o.account < 192 then (s.recordRepaired o.account line r).reconcile [(o.account, o.standing)]
        else s.recordRepaired o.account line r).answered tag code .done 0 []) := by
  have written : (s.idlePort.writeRecord o.account r).repairLine o.account r = s.recordRepaired o.account line r := by
    rw [State.repairLine_of_found (s := s.idlePort.writeRecord o.account r) found]
    rfl
  have run : (s.recordRepaired o.account line r).run = some (.repairWrite o) :=
    State.run_of_executing (s := s.recordRepaired o.account line r) he
  change Host.Outcome.next s.repairDone = _
  simp only [State.repairDone, op, written, State.afterRepair, run, Config.participants]
  have pass : (s.recordRepaired o.account line r).reconciled
      (if o.account < 192 then (s.recordRepaired o.account line r).reconcile [(o.account, o.standing)]
        else s.recordRepaired o.account line r) := by
    split
    · exact State.reconcile_reconciled _ _
    · exact State.reconciled_self _
  exact congrArg Host.Outcome.next (State.completed_of_answer (pass.resting rest) (by rw [pass.link]; exact he) _ _ _)

end

/-- Settles O49: the clear of a TRANSFER; the clear of a posting as the commit moment, with no command or with one that
waited for it; the repair record. -/
theorem clearedJournalsAndRepairsEndTheirWork : Obligations.ClearedJournalsAndRepairsEndTheirWork := by
  intro s
  refine ⟨fun tag code o p q h he op rest => ?transfer, fun start h phase book op => ?posting,
    fun tag code o r line he op found rest => ?repair⟩
  case transfer =>
    have ended := exec_journalHeaderClear_of_transfer he op rest
    exact ended
  case repair => exact exec_repairRecordWrite he op found rest
  case posting =>
    have pass := s.postingEnded_reconciled h start
    refine ⟨fun quiet awaiting done closed => ?commit, fun rest => ⟨fun done => ?done,
      fun tag code i line r dirty locked he found held => ?rebase, fun tag code o free he miss hv => ?transferWait,
      fun tag code o line he damaged => ?repairWait⟩⟩
    case commit =>
      have commit : (s.postingReconciled h start).atCommit := pass.atCommit
        ⟨awaiting, fun x hx => by simpa [Book.isFinal] using closed x hx, done, quiet⟩
      have ready : (s.postingReconciled h start).port.state = s.port.state := by rw [pass.port]; rfl
      have awake : s.isQuiesced = false := quiet.unitsRest.notQuiesced
      rw [exec_journalHeaderClear_of_done phase book op awake done]
      refine ⟨fun i rest line passed list miss hv => ?_, fun check object failed behind => ?_⟩
      · rw [← vacating_eq] at list
        rw [commit.drive_of_passed (by rw [pass.staged, ready]; exact passed) (by rw [pass.active, pass.staged]; exact list)
          (by rw [pass.cache]; exact miss) (by rw [pass.cache]; exact hv), pass.activation, pass.cache]
        rfl
      · rw [commit.drive_of_failed (f := (check, object)) (by rw [pass.staged, ready]; exact failed)
          (by rw [State.candidate, pass.active, pass.clock]; exact behind), State.checksFailed, pass.activation]
        rfl
    case done =>
      rw [exec_journalHeaderClear_of_done phase book op rest.unitsRest.notQuiesced done,
        State.drive_of_resting (pass.resting rest) (pass.commandDone.trans done)]
      rfl
    case rebase =>
      rw [exec_journalHeaderClear_of_executing phase book op rest.unitsRest.notQuiesced he fun _ _ => Run.noConfusion,
        State.drive_of_rebaseWait (pass.resting rest) (pass.link ▸ he) (pass.cache ▸ found) (pass.cache ▸ held), pass.cache]
      rfl
    case transferWait =>
      rw [exec_journalHeaderClear_of_executing phase book op rest.unitsRest.notQuiesced he fun _ _ => Run.noConfusion,
        State.drive_of_transferWait (pass.resting rest) (pass.link ▸ he) (pass.cache ▸ miss) (pass.cache ▸ hv), pass.cache]
      rfl
    case repairWait =>
      rw [exec_journalHeaderClear_of_executing phase book op rest.unitsRest.notQuiesced he fun _ _ => Run.noConfusion,
        State.drive_of_repairWait (pass.resting rest) (pass.link ▸ he) (pass.cache ▸ damaged), pass.cache]
      rfl

end Sys2Proof.Machine
end

section
/-! ## The division of the local match by largest remainder (O58) -/

namespace Sys2Proof.Machine

/-! ### Ranks in a strict order -/

section
variable {α : Type} {l : List α} {before : α → α → Prop} [DecidableRel before]

/-- How many of a list stand before one of its members. -/
def rankIn (l : List α) (before : α → α → Prop) [DecidableRel before] (g : α) : Nat :=
  (l.filter fun x => before x g).length

/-- A strict order ranks what stands before strictly lower. -/
theorem rankIn_lt {x y : α} (hx : x ∈ l) (irrefl : ∀ g, ¬before g g) (trans : ∀ a b c, before a b → before b c → before a c)
    (h : before x y) : rankIn l before x < rankIn l before y := by
  have sub : (l.filter fun z => before z x).Sublist (l.filter fun z => before z y) :=
    List.monotone_filter_right l fun z hz => by simpa using trans z x y (by simpa using hz) h
  refine Nat.lt_of_le_of_ne sub.length_le fun same => ?_
  have mem : x ∈ l.filter fun z => before z x := by
    rw [sub.eq_of_length same]
    simpa using ⟨hx, h⟩
  exact irrefl x (by simpa using (List.mem_filter.1 mem).2)

/-- In a list of distinct members that a strict order puts in a row, as many have a rank below a bound as the bound
says. -/
theorem length_filter_rankIn (nodup : l.Nodup) (irrefl : ∀ g, ¬before g g)
    (trans : ∀ a b c, before a b → before b c → before a c)
    (total : ∀ a ∈ l, ∀ b ∈ l, a ≠ b → before a b ∨ before b a) {n : Nat} (h : n ≤ l.length) :
    (l.filter fun g => rankIn l before g < n).length = n := by
  have bounded (g : α) (hg : g ∈ l) : rankIn l before g < l.length :=
    List.length_filter_lt_length_iff_exists.2 ⟨g, hg, by simpa using irrefl g⟩
  have ranks : (l.map (rankIn l before)).Nodup := by
    refine (List.nodup_map_iff_inj_on nodup).2 fun a ha b hb same => ?_
    by_contra apart
    rcases total a ha b hb apart with lower | lower
    · exact absurd (rankIn_lt ha irrefl trans lower) (by omega)
    · exact absurd (rankIn_lt hb irrefl trans lower) (by omega)
  have perm : (l.map (rankIn l before)).Perm (List.range l.length) :=
    (List.subperm_of_subset ranks fun r hr => by
      obtain ⟨g, hg, rfl⟩ := List.mem_map.1 hr
      exact List.mem_range.2 (bounded g hg)).perm_of_length_le (by simp)
  calc (l.filter fun g => rankIn l before g < n).length
      = ((l.map (rankIn l before)).filter fun r => r < n).length := by
        rw [List.filter_map, List.length_map]; rfl
    _ = ((List.range l.length).filter fun r => r < n).length := (perm.filter _).length_eq
    _ = n := by
        rw [← List.Ico.zero_bot, List.Ico.filter_lt, List.Ico.length, Nat.min_eq_right h, Nat.sub_zero]

end

/-! ### The division (R95) -/

section
variable {m total : Nat} {group : List (Nat × Nat)}

/-- A member's remainder in the division of `m` (R95, step 2). -/
def remainderOf (m total : Nat) (g : Nat × Nat) : Nat := m * g.2 % total

/-- What the floors of the division leave of `m` (R95, step 3). -/
def shortfallOf (m total : Nat) (group : List (Nat × Nat)) : Nat := m - (group.map fun g => m * g.2 / total).sum

/-- The order of R95, step 4: by descending remainder, and by ascending index among equal remainders. -/
abbrev standsBefore (m total : Nat) (x g : Nat × Nat) : Prop :=
  remainderOf m total g < remainderOf m total x ∨ (remainderOf m total x = remainderOf m total g ∧ x.1 < g.1)

/-- A member's place in that order. -/
def placeOf (m total : Nat) (group : List (Nat × Nat)) (g : Nat × Nat) : Nat := rankIn group (standsBefore m total) g

/-- Without a local match there is no share (R95, step 1). -/
theorem shareOf_zero (total : Nat) (group : List (Nat × Nat)) (index x : Nat) : shareOf 0 total group index x = 0 := rfl

/-- The share of a member: its floor, and 1 Wh more for the first of the order (R95, steps 2 to 4). -/
theorem shareOf_eq (nonzero : m ≠ 0) (total : Nat) (group : List (Nat × Nat)) (g : Nat × Nat) :
    shareOf m total group g.1 g.2 =
      m * g.2 / total + if placeOf m total group g < shortfallOf m total group then 1 else 0 := by
  have place : rankBefore (group.map fun x => (x.1, m * x.2 % total)) g.1 (m * g.2 % total) = placeOf m total group g := by
    simp only [rankBefore, List.filter_map, List.length_map]
    exact congrArg List.length (List.filter_congr fun x _ => by
      rw [Bool.eq_iff_iff, decide_eq_true_iff, standsBefore]
      simp [remainderOf])
  rw [← place, shareOf, if_neg nonzero]
  rfl

/-- The remainders sum to the shortfall times the total (R95). -/
theorem sum_remainderOf (sums : (group.map Prod.snd).sum = total) :
    (group.map (remainderOf m total)).sum = shortfallOf m total group * total := by
  have split : (group.map fun g => m * g.2 / total).sum * total + (group.map (remainderOf m total)).sum = m * total := by
    calc (group.map fun g => m * g.2 / total).sum * total + (group.map (remainderOf m total)).sum
        = (group.map fun g => m * g.2 / total * total + remainderOf m total g).sum := by
          rw [List.sum_map_add, List.sum_map_mul_right]
      _ = (group.map fun g => m * g.2).sum := by simp only [remainderOf, Nat.div_add_mod']
      _ = m * total := by rw [← sums]; exact List.sum_map_mul_left group Prod.snd m
  rw [shortfallOf, Nat.sub_mul, ← split, Nat.add_sub_cancel_left]

/-- Each remainder is below the total, so there are more members than the shortfall (R95, step 3). -/
theorem shortfallOf_lt (sums : (group.map Prod.snd).sum = total) (positive : 0 < total) :
    shortfallOf m total group < group.length := by
  have nonempty : group ≠ [] := by
    rintro rfl
    exact positive.ne sums
  have below : (group.map (remainderOf m total)).sum < (group.map fun _ => total).sum := by
    obtain ⟨g, hg⟩ := List.exists_mem_of_ne_nil group nonempty
    exact List.sum_lt_sum _ _ (fun g _ => (Nat.mod_lt _ positive).le) ⟨g, hg, Nat.mod_lt _ positive⟩
  rw [sum_remainderOf sums, List.map_const', List.sum_replicate, smul_eq_mul] at below
  exact Nat.lt_of_mul_lt_mul_right below

/-- The first of the order have a remainder above 0: those without one stand behind all that have one, and these are no
fewer than the shortfall (R95). -/
theorem remainderOf_pos (sums : (group.map Prod.snd).sum = total) (positive : 0 < total) {g : Nat × Nat}
    (first : placeOf m total group g < shortfallOf m total group) : 0 < remainderOf m total g := by
  by_contra none
  have zero : remainderOf m total g = 0 := Nat.eq_zero_of_not_pos none
  have ahead : group.countP (fun x => decide (0 < remainderOf m total x)) ≤ placeOf m total group g := by
    rw [placeOf, rankIn, ← List.countP_eq_length_filter]
    exact List.countP_mono_left fun x _ hx => by simp_all
  have bounded : (group.map (remainderOf m total)).sum ≤
      group.countP (fun x => decide (0 < remainderOf m total x)) * total := by
    calc (group.map (remainderOf m total)).sum
        ≤ (group.map fun x => if 0 < remainderOf m total x then total else 0).sum :=
          List.sum_le_sum fun x _ => by
            by_cases some : 0 < remainderOf m total x
            · rw [if_pos some]
              exact (Nat.mod_lt _ positive).le
            · rw [if_neg some]
              exact Nat.not_lt.1 some
      _ = group.countP (fun x => decide (0 < remainderOf m total x)) * total := by
          rw [List.sum_map_ite]
          simp [List.countP_eq_length_filter]
  rw [sum_remainderOf sums] at bounded
  exact absurd (Nat.le_of_mul_le_mul_right bounded positive) (by omega)

/-- A floor with a remainder is below the own amount, where no more is divided than the group owns (R95). -/
theorem floor_lt_own {x : Nat} (within : m ≤ total) (rest : 0 < m * x % total) : m * x / total < x := by
  refine Nat.div_lt_of_lt_mul (Nat.lt_of_le_of_ne (Nat.mul_le_mul_right x within) fun whole => ?_)
  rw [whole, Nat.mul_mod_right] at rest
  exact Nat.lt_irrefl 0 rest

variable (sums : (group.map Prod.snd).sum = total) (positive : 0 < total) (within : m ≤ total)
include sums positive within

/-- No member's share is above its own amount (R95). -/
theorem shareOf_le {g : Nat × Nat} : shareOf m total group g.1 g.2 ≤ g.2 := by
  rcases Nat.eq_zero_or_pos m with rfl | nonzero
  · exact Nat.zero_le _
  rw [shareOf_eq nonzero.ne']
  split
  case isTrue first => exact floor_lt_own within (remainderOf_pos sums positive first)
  case isFalse => exact Nat.div_le_of_le_mul (Nat.mul_le_mul_right g.2 within)

/-- The shares sum to what is divided (R95). -/
theorem sum_shareOf (nodup : (group.map Prod.fst).Nodup) : (group.map fun g => shareOf m total group g.1 g.2).sum = m := by
  rcases Nat.eq_zero_or_pos m with rfl | nonzero
  · simp [shareOf_zero]
  have distinct {a b : Nat × Nat} (ha : a ∈ group) (hb : b ∈ group) (ne : a ≠ b) : a.1 ≠ b.1 := fun same =>
    ne (List.inj_on_of_nodup_map nodup ha hb same)
  have more : (group.filter fun g => placeOf m total group g < shortfallOf m total group).length = shortfallOf m total group :=
    length_filter_rankIn nodup.of_map (fun g => by simp) (fun a b c => by omega)
      (fun a ha b hb ne => by have := distinct ha hb ne; omega) (shortfallOf_lt sums positive).le
  have floors : (group.map fun g => m * g.2 / total).sum ≤ m := by
    refine Nat.le_of_mul_le_mul_right (c := total) ?_ positive
    calc (group.map fun g => m * g.2 / total).sum * total
        = (group.map fun g => m * g.2 / total * total).sum := (List.sum_map_mul_right ..).symm
      _ ≤ (group.map fun g => m * g.2).sum := List.sum_le_sum fun g _ => Nat.div_mul_le_self _ _
      _ = m * total := by rw [← sums]; exact List.sum_map_mul_left group Prod.snd m
  calc (group.map fun g => shareOf m total group g.1 g.2).sum
      = (group.map fun g => m * g.2 / total).sum + shortfallOf m total group := by
        simp only [shareOf_eq nonzero.ne', List.sum_map_add, List.sum_map_ite]
        simpa using more
    _ = m := Nat.add_sub_cancel' floors

end

end Sys2Proof.Machine
end

section
/-! ## The rows of a book (O57, O58, O59): what allocation decides and what it leaves -/

namespace Sys2Proof.Machine

/-! ### Allocation, group by group (R94 to R99) -/

/-- A row without what allocation decides: its share, its grid part and its amounts. -/
def MemberRow.unallocated (r : MemberRow) : MemberRow :=
  { r with localShare := 0, gridPart := 0, localAmount := 0, gridAmount := 0 }

/-- A group's own amounts by index. -/
def ownAmounts (rows : List MemberRow) (g : Group) (own : MemberRow → Nat) : List (Nat × Nat) :=
  (rows.filter fun r => r.group == g).map fun r => (r.index, own r)

/-- The local share of a member of a group that keeps its own amounts, or shares `m` by them (R94). -/
def localShareOf (keeps : Prop) [Decidable keeps] (m total : Nat) (group : List (Nat × Nat)) (g : Nat × Nat) : Nat :=
  if keeps then g.2 else shareOf m total group g.1 g.2

section
variable (k : Capture) (s d : Nat) (sellers buyers : List (Nat × Nat)) {r : MemberRow}

/-- A row in NEITHER is left as it is (R94). -/
theorem allocate_of_neither (h : r.group = .neither) : allocate k s d sellers buyers r = r := by
  simp only [allocate, h]

/-- A seller keeps its sale in the SHORT case and shares in the LONG case (R94, R96, R99). -/
theorem allocate_of_seller (h : r.group = .seller) :
    allocate k s d sellers buyers r =
      let share := localShareOf (s ≤ d) (min s d) s sellers (r.index, r.sale)
      { r with localShare := share, gridPart := r.sale - share, localAmount := amountDown share k.localPrice,
               gridAmount := amountDown (r.sale - share) k.feedPrice } := by
  simp only [allocate, h]
  rfl

/-- A buyer shares in the SHORT case and keeps its purchase in the LONG case (R94, R96, R98). -/
theorem allocate_of_buyer (h : r.group = .buyer) :
    allocate k s d sellers buyers r =
      let share := localShareOf (d < s) (min s d) d buyers (r.index, r.purchase)
      { r with localShare := share, gridPart := r.purchase - share, localAmount := amountUp share (k.localPrice + k.fee),
               gridAmount := amountUp (r.purchase - share) k.gridPrice } := by
  have share : (if s ≤ d then shareOf (min s d) d buyers r.index r.purchase else r.purchase) =
      localShareOf (d < s) (min s d) d buyers (r.index, r.purchase) := by
    by_cases short : s ≤ d
    · rw [if_pos short, localShareOf, if_neg (Nat.not_lt.2 short)]
    · rw [if_neg short, localShareOf, if_pos (Nat.not_le.1 short)]
  simp only [allocate, h, share]

/-- Allocation decides the share, the grid part and the amounts, and no more. -/
theorem allocate_unallocated (r : MemberRow) : (allocate k s d sellers buyers r).unallocated = r.unallocated := by
  rcases h : r.group
  · rw [allocate_of_seller k s d sellers buyers h]; rfl
  · rw [allocate_of_buyer k s d sellers buyers h]; rfl
  · rw [allocate_of_neither k s d sellers buyers h]

/-- What allocation leaves alone of a row. -/
theorem allocate_keeps {β : Type} {f : MemberRow → β} (h : ∀ r : MemberRow, f r = f r.unallocated) (r : MemberRow) :
    f (allocate k s d sellers buyers r) = f r := by
  rw [h, allocate_unallocated, ← h]

theorem allocate_group (r : MemberRow) : (allocate k s d sellers buyers r).group = r.group :=
  allocate_keeps k s d sellers buyers (f := MemberRow.group) (fun _ => rfl) r

end

/-! ### The rows of a book -/

section
variable (t : TableSet) (b : Book) (k : Capture) (c : Copies)

/-- What allocation leaves alone is read off the rows before it. -/
theorem settleRows_map {β : Type} {f : MemberRow → β} (h : ∀ r : MemberRow, f r = f r.unallocated) :
    (settleRows t b k c).map f = (b.members.map (memberRow t b c)).map f := by
  rw [settleRows, List.map_map]
  exact List.map_congr_left fun r _ => allocate_keeps k _ _ _ _ h r

/-- A group's own amounts are read off the rows before allocation. -/
theorem ownAmounts_settleRows (g : Group) {own : MemberRow → Nat} (h : ∀ r : MemberRow, own r = own r.unallocated) :
    ownAmounts (settleRows t b k c) g own = ownAmounts (b.members.map (memberRow t b c)) g own := by
  have pick (rows : List MemberRow) : ownAmounts rows g own =
      ((rows.map fun r => (r.group, r.index, own r)).filter fun x => x.1 == g).map Prod.snd := by
    rw [List.filter_map, List.map_map]
    rfl
  rw [pick, pick, settleRows_map t b k c fun r => by rw [h]; rfl]

/-- S of a book's rows (R93). -/
abbrev bookSale : Nat := ((settleRows t b k c).map MemberRow.sale).sum

/-- D of a book's rows (R93). -/
abbrev bookPurchase : Nat := ((settleRows t b k c).map MemberRow.purchase).sum

/-- The rows of a book are its members' rows, each allocated by the totals and own amounts of the rows themselves. -/
theorem settleRows_eq :
    settleRows t b k c = (b.members.map (memberRow t b c)).map
      (allocate k (bookSale t b k c) (bookPurchase t b k c) (ownAmounts (settleRows t b k c) .seller MemberRow.sale)
        (ownAmounts (settleRows t b k c) .buyer MemberRow.purchase)) := by
  rw [ownAmounts_settleRows t b k c .seller fun _ => rfl, ownAmounts_settleRows t b k c .buyer fun _ => rfl, bookSale,
    bookPurchase, settleRows_map t b k c (f := MemberRow.sale) fun _ => rfl,
    settleRows_map t b k c (f := MemberRow.purchase) fun _ => rfl]
  rfl

/-- A row of a book is a member's, allocated. -/
theorem mem_settleRows {r : MemberRow} (h : r ∈ settleRows t b k c) :
    ∃ m ∈ b.members, r = allocate k (bookSale t b k c) (bookPurchase t b k c)
      (ownAmounts (settleRows t b k c) .seller MemberRow.sale) (ownAmounts (settleRows t b k c) .buyer MemberRow.purchase)
      (memberRow t b c m) := by
  rw [settleRows_eq, List.map_map] at h
  obtain ⟨m, hm, rfl⟩ := List.mem_map.1 h
  exact ⟨m, hm, rfl⟩

end

/-! ### A member's row before allocation (R32 to R36, R92) -/

/-- A good copy is one that was read whole. -/
theorem goodCopy_eq_some {c : Copies} {a : Nat} {r : AccountRecord} :
    goodCopy c a = some r ↔ c.lookup a = some (some r) := by
  rw [goodCopy, Option.join_eq_some_iff]

theorem goodCopy_eq_none {c : Copies} {a : Nat} : goodCopy c a = none ↔ ∀ r, c.lookup a ≠ some (some r) := by
  simp only [Option.eq_none_iff_forall_ne_some, ne_eq, goodCopy_eq_some]

/-- The row of a member that settles no energy: it may take a new baseline. -/
def MemberRow.still (index : Nat) (kind : ParticipantKind) (treatment : Treatment) (baseline : Option NewBaseline) :
    MemberRow :=
  { index := index, kind := kind, treatment := treatment, exportDelta := 0, importDelta := 0, clamped := none,
    baseline := baseline, sale := 0, purchase := 0, group := .neither, localShare := 0, gridPart := 0, localAmount := 0,
    gridAmount := 0 }

/-- The baseline a snapshot leaves (R33, R36). -/
def Snapshot.baseline (x : Snapshot) (minute : Nat) : NewBaseline :=
  { exported := x.exported, imported := x.imported, minute := minute, clears := true }

/-- The group of a net sale and a net purchase (R92). -/
def groupOf (sale purchase : Nat) : Group := if 0 < sale then .seller else if 0 < purchase then .buyer else .neither

/-- The group tells which of the two is above 0, where one is 0. -/
theorem groupOf_cases {sale purchase : Nat} (h : sale = 0 ∨ purchase = 0) :
    (groupOf sale purchase = .seller ∧ 0 < sale ∧ purchase = 0) ∨
    (groupOf sale purchase = .buyer ∧ sale = 0 ∧ 0 < purchase) ∨
    (groupOf sale purchase = .neither ∧ sale = 0 ∧ purchase = 0) := by
  unfold groupOf
  split
  · exact .inl ⟨rfl, by omega, by omega⟩
  · split
    · exact .inr (.inl ⟨rfl, by omega, by omega⟩)
    · exact .inr (.inr ⟨rfl, by omega, by omega⟩)

/-- The row of a settled or suspended member: clamped deltas, netted when it takes part (R32, R34 to R36, R92). -/
def countedRow (index : Nat) (e : ParticipantEntry) (x : Snapshot) (r : AccountRecord) (limit minute : Nat) : MemberRow :=
  let rawE := rawDelta x.exported r.baseExport
  let rawI := rawDelta x.imported r.baseImport
  let settles : Bool := e.status != .suspended && (e.kind == .household || e.kind == .store)
  let sale := if settles then min rawE limit - min rawI limit else 0
  let purchase := if settles then min rawI limit - min rawE limit else 0
  { index := index, kind := e.kind, treatment := if e.status = .suspended then .suspended else .settled
    exportDelta := min rawE limit, importDelta := min rawI limit
    clamped := if limit < rawE ∨ limit < rawI then some (rawE, rawI, limit) else none
    baseline := some (x.baseline minute), sale := sale, purchase := purchase, group := groupOf sale purchase
    localShare := 0, gridPart := 0, localAmount := 0, gridAmount := 0 }

section
variable (t : TableSet) (b : Book) {c : Copies} {m : Member} {x : Snapshot} {r : AccountRecord}

/-- A member without a snapshot is missing (R32). -/
theorem memberRow_of_missing (hx : m.snapshot = none) :
    memberRow t b c m = .still m.index (t.entry m.index).kind .missing none := by
  simp only [memberRow, treatmentOf, hx]
  rfl

/-- A member whose record is DAMAGED is excluded (R32). -/
theorem memberRow_of_excluded (hx : m.snapshot = some x) (hc : goodCopy c m.index = none) :
    memberRow t b c m = .still m.index (t.entry m.index).kind .excluded none := by
  simp only [memberRow, treatmentOf, hx, hc]
  rfl

/-- A member whose record holds no baseline, or waits to be rebased, takes a new baseline alone (R32, R33). -/
theorem memberRow_of_rebased (hx : m.snapshot = some x) (hc : goodCopy c m.index = some r)
    (rebases : r.baseMinute = none ∨ r.rebasePending = true) :
    memberRow t b c m =
      .still m.index (t.entry m.index).kind .rebased (some (x.baseline (laterMinute r.baseMinute b.close))) := by
  have rebased : treatmentOf t c m = .rebased := by
    simp only [treatmentOf, hx, hc]
    exact if_pos (by simpa using rebases)
  simp only [memberRow, rebased, hx, hc]
  rfl

/-- Every other member is counted (R32, R34 to R36, R92). -/
theorem memberRow_of_counted {base : Nat} (hx : m.snapshot = some x) (hc : goodCopy c m.index = some r)
    (based : r.baseMinute = some base) (steady : r.rebasePending = false) :
    memberRow t b c m =
      countedRow m.index (t.entry m.index) x r
        (allowed (t.entry m.index).ceiling (if base < b.close then b.close - base else b.close - b.start))
        (max base b.close) := by
  have treatment : treatmentOf t c m = if (t.entry m.index).status = .suspended then .suspended else .settled := by
    simp only [treatmentOf, hx, hc, based, steady]
    rfl
  rcases status : (t.entry m.index).status <;>
    simp only [status, reduceCtorEq, if_true, if_false] at treatment <;>
    simp [memberRow, treatment, hx, hc, countedRow, status, elapsed, based, laterMinute, Snapshot.baseline, groupOf]

/-- What a member's row is before allocation: with a net sale or a net purchase and not both, grouped by it (R92), and
with nothing allocated. -/
structure MemberRow.netted (r : MemberRow) : Prop where
  group : r.group = groupOf r.sale r.purchase
  oneSide : r.sale = 0 ∨ r.purchase = 0
  unallocated : r.unallocated = r

theorem MemberRow.still_netted (index : Nat) (kind : ParticipantKind) (treatment : Treatment)
    (baseline : Option NewBaseline) : (MemberRow.still index kind treatment baseline).netted := ⟨rfl, .inl rfl, rfl⟩

/-- The deltas of one member are netted against each other, so one side at most is above 0 (R92). -/
theorem countedRow_netted (index : Nat) (e : ParticipantEntry) (x : Snapshot) (r : AccountRecord) (limit minute : Nat) :
    (countedRow index e x r limit minute).netted := by
  refine ⟨rfl, ?_, rfl⟩
  simp only [countedRow]
  split <;> omega

/-- Every member's row is so. -/
theorem memberRow_netted (t : TableSet) (b : Book) (c : Copies) (m : Member) : (memberRow t b c m).netted := by
  rcases hx : m.snapshot with _ | x
  · rw [memberRow_of_missing t b hx]
    exact MemberRow.still_netted ..
  rcases hc : goodCopy c m.index with _ | r
  · rw [memberRow_of_excluded t b hx hc]
    exact MemberRow.still_netted ..
  by_cases rebases : r.baseMinute = none ∨ r.rebasePending = true
  · rw [memberRow_of_rebased t b hx hc rebases]
    exact MemberRow.still_netted ..
  · obtain ⟨based, steady⟩ := not_or.1 rebases
    obtain ⟨base, based⟩ := Option.ne_none_iff_exists'.1 based
    rw [memberRow_of_counted t b hx hc based (by simpa using steady)]
    exact countedRow_netted ..

end

end Sys2Proof.Machine
end

section
/-! ## Local energy and the local price of a book (O57, O58, O59) -/

namespace Sys2Proof.Machine

/-! ### One side of the allocation (R94 to R96) -/

section
variable {m total : Nat} {group : List (Nat × Nat)}

/-- A group with a member owns something. -/
theorem total_pos (sums : (group.map Prod.snd).sum = total) (own : ∀ g ∈ group, 0 < g.2) {g : Nat × Nat}
    (hg : g ∈ group) : 0 < total := by
  rw [← sums]
  exact (own g hg).trans_le (List.le_sum_of_mem (List.mem_map_of_mem hg))

variable {keeps : Prop} [Decidable keeps] (sums : (group.map Prod.snd).sum = total) (own : ∀ g ∈ group, 0 < g.2)
  (within : m ≤ total)
include sums own within

/-- No local share is above its member's own amount, whether its group keeps or shares (R95, R96). -/
theorem localShareOf_le {g : Nat × Nat} (hg : g ∈ group) : localShareOf keeps m total group g ≤ g.2 := by
  unfold localShareOf
  split
  · exact Nat.le_refl _
  · exact shareOf_le sums (total_pos sums own hg) within

/-- The local shares of a group sum to the local match, whether it keeps or shares (R94 to R96). -/
theorem sum_localShareOf (nodup : (group.map Prod.fst).Nodup) (kept : keeps → total = m) :
    (group.map (localShareOf keeps m total group)).sum = m := by
  by_cases h : keeps
  · rw [show localShareOf keeps m total group = Prod.snd from funext fun g => if_pos h]
    exact sums.trans (kept h)
  · rw [show localShareOf keeps m total group = fun g => shareOf m total group g.1 g.2 from funext fun g => if_neg h]
    rcases hg : group with _ | ⟨g, rest⟩
    · subst hg
      have nothing : 0 = total := sums
      exact (Nat.eq_zero_of_le_zero (nothing ▸ within)).symm
    · rw [← hg]
      exact sum_shareOf sums (total_pos sums own (hg ▸ List.mem_cons_self)) within nodup

end

/-! ### Rows by group -/

namespace MemberRow.netted

variable {r : MemberRow}

theorem sells (h : r.netted) (g : r.group = .seller) : 0 < r.sale ∧ r.purchase = 0 := by
  have group := h.group
  rcases groupOf_cases h.oneSide with ⟨e, amounts⟩ | ⟨e, _⟩ | ⟨e, _⟩ <;> simp_all

theorem buys (h : r.netted) (g : r.group = .buyer) : r.sale = 0 ∧ 0 < r.purchase := by
  have group := h.group
  rcases groupOf_cases h.oneSide with ⟨e, _⟩ | ⟨e, amounts⟩ | ⟨e, _⟩ <;> simp_all

theorem idle (h : r.netted) (g : r.group = .neither) : r.sale = 0 ∧ r.purchase = 0 := by
  have group := h.group
  rcases groupOf_cases h.oneSide with ⟨e, _⟩ | ⟨e, _⟩ | ⟨e, amounts⟩ <;> simp_all

end MemberRow.netted

section
variable {t : TableSet} {b : Book} {k : Capture} {c : Copies} {r : MemberRow}

/-- What a row of a book is without its allocation is a member's netted row. -/
theorem settleRows_netted (h : r ∈ settleRows t b k c) : r.unallocated.netted := by
  obtain ⟨m, -, rfl⟩ := mem_settleRows t b k c h
  have row := memberRow_netted t b c m
  rw [allocate_unallocated, row.unallocated]
  exact row

/-- A seller's row: its share of M, the rest to the grid, and the amounts rounded down (R94 to R96, R99). -/
theorem settleRows_of_seller (h : r ∈ settleRows t b k c) (g : r.group = .seller) :
    r.localShare = localShareOf (bookSale t b k c ≤ bookPurchase t b k c) (min (bookSale t b k c) (bookPurchase t b k c))
      (bookSale t b k c) (ownAmounts (settleRows t b k c) .seller MemberRow.sale) (r.index, r.sale) ∧
    r.gridPart = r.sale - r.localShare ∧ r.localAmount = amountDown r.localShare k.localPrice ∧
    r.gridAmount = amountDown r.gridPart k.feedPrice := by
  obtain ⟨m, -, rfl⟩ := mem_settleRows t b k c h
  rw [allocate_group] at g
  rw [allocate_of_seller k _ _ _ _ g]
  exact ⟨rfl, rfl, rfl, rfl⟩

/-- A buyer's row: its share of M, the rest from the grid, and the amounts rounded up (R94 to R96, R98). -/
theorem settleRows_of_buyer (h : r ∈ settleRows t b k c) (g : r.group = .buyer) :
    r.localShare = localShareOf (bookPurchase t b k c < bookSale t b k c)
      (min (bookSale t b k c) (bookPurchase t b k c)) (bookPurchase t b k c)
      (ownAmounts (settleRows t b k c) .buyer MemberRow.purchase) (r.index, r.purchase) ∧
    r.gridPart = r.purchase - r.localShare ∧ r.localAmount = amountUp r.localShare (k.localPrice + k.fee) ∧
    r.gridAmount = amountUp r.gridPart k.gridPrice := by
  obtain ⟨m, -, rfl⟩ := mem_settleRows t b k c h
  rw [allocate_group] at g
  rw [allocate_of_buyer k _ _ _ _ g]
  exact ⟨rfl, rfl, rfl, rfl⟩

/-- A row in NEITHER has nothing allocated (R94). -/
theorem settleRows_of_neither (h : r ∈ settleRows t b k c) (g : r.group = .neither) : r.unallocated = r := by
  obtain ⟨m, -, rfl⟩ := mem_settleRows t b k c h
  rw [allocate_group] at g
  rw [allocate_of_neither k _ _ _ _ g]
  exact (memberRow_netted t b c m).unallocated

/-- A sum over rows is one over those that are not 0. -/
theorem groupSum_of_zero {rows : List MemberRow} {g : Group} {f : MemberRow → Nat}
    (h : ∀ r ∈ rows, r.group ≠ g → f r = 0) : groupSum rows g f = (rows.map f).sum := by
  unfold groupSum sumOf
  induction rows with
  | nil => rfl
  | cons r rest ih =>
    have rest' := ih fun x hx => h x (List.mem_cons_of_mem r hx)
    by_cases same : r.group = g
    · simp [same, rest']
    · simp [same, rest', h r List.mem_cons_self same]

/-- Only sellers sell (R92). -/
theorem groupSum_sale : groupSum (settleRows t b k c) .seller MemberRow.sale = bookSale t b k c :=
  groupSum_of_zero fun r hr other => by
    have row := settleRows_netted hr
    rcases g : r.group
    · exact absurd g other
    · exact (row.buys g).1
    · exact (row.idle g).1

/-- Only buyers buy (R92). -/
theorem groupSum_purchase : groupSum (settleRows t b k c) .buyer MemberRow.purchase = bookPurchase t b k c :=
  groupSum_of_zero fun r hr other => by
    have row := settleRows_netted hr
    rcases g : r.group
    · exact (row.sells g).2
    · exact absurd g other
    · exact (row.idle g).2

theorem memberRow_index (t : TableSet) (b : Book) (c : Copies) (m : Member) : (memberRow t b c m).index = m.index := by
  dsimp only [memberRow]
  split <;> rfl

theorem memberRow_kind (t : TableSet) (b : Book) (c : Copies) (m : Member) :
    (memberRow t b c m).kind = (t.entry m.index).kind := by
  dsimp only [memberRow]
  split <;> rfl

/-- The rows stand for the members, index by index. -/
theorem settleRows_index : (settleRows t b k c).map MemberRow.index = b.members.map Member.index := by
  rw [settleRows_map t b k c fun _ => rfl, List.map_map]
  exact List.map_congr_left fun m _ => memberRow_index t b c m

/-- A member of a group stands in the group's own amounts. -/
theorem mem_ownAmounts {rows : List MemberRow} {g : Group} (own : MemberRow → Nat) (h : r ∈ rows) (hg : r.group = g) :
    (r.index, own r) ∈ ownAmounts rows g own :=
  List.mem_map.2 ⟨r, List.mem_filter.2 ⟨h, by simp [hg]⟩, rfl⟩

/-- Every seller's own amount is above 0 (R92). -/
theorem ownAmounts_sale_pos : ∀ g ∈ ownAmounts (settleRows t b k c) .seller MemberRow.sale, 0 < g.2 := by
  intro g hg
  obtain ⟨r, hr, rfl⟩ := List.mem_map.1 hg
  obtain ⟨hr, seller⟩ := List.mem_filter.1 hr
  exact ((settleRows_netted hr).sells (show r.group = .seller by simpa using seller)).1

/-- Every buyer's own amount is above 0 (R92). -/
theorem ownAmounts_purchase_pos : ∀ g ∈ ownAmounts (settleRows t b k c) .buyer MemberRow.purchase, 0 < g.2 := by
  intro g hg
  obtain ⟨r, hr, rfl⟩ := List.mem_map.1 hg
  obtain ⟨hr, buyer⟩ := List.mem_filter.1 hr
  exact ((settleRows_netted hr).buys (show r.group = .buyer by simpa using buyer)).2

/-- The own amounts of a group sum to its figure. -/
theorem sum_ownAmounts (rows : List MemberRow) (g : Group) (own : MemberRow → Nat) :
    ((ownAmounts rows g own).map Prod.snd).sum = groupSum rows g own := by
  rw [ownAmounts, List.map_map]
  rfl

/-- The own amounts of a group stand under distinct indices. -/
theorem ownAmounts_nodup (nodup : (b.members.map Member.index).Nodup) (g : Group) (own : MemberRow → Nat) :
    ((ownAmounts (settleRows t b k c) g own).map Prod.fst).Nodup := by
  rw [ownAmounts, List.map_map]
  rw [← settleRows_index (t := t) (k := k) (c := c)] at nodup
  exact nodup.sublist (List.filter_sublist.map _)

/-! ### The balance (R96) -/

/-- No seller's share is above its sale (R96). -/
theorem seller_share_le (h : r ∈ settleRows t b k c) (g : r.group = .seller) : r.localShare ≤ r.sale := by
  rw [(settleRows_of_seller h g).1]
  exact localShareOf_le ((sum_ownAmounts ..).trans groupSum_sale) ownAmounts_sale_pos (Nat.min_le_left _ _)
    (mem_ownAmounts MemberRow.sale h g)

/-- No buyer's share is above its purchase (R96). -/
theorem buyer_share_le (h : r ∈ settleRows t b k c) (g : r.group = .buyer) : r.localShare ≤ r.purchase := by
  rw [(settleRows_of_buyer h g).1]
  exact localShareOf_le ((sum_ownAmounts ..).trans groupSum_purchase) ownAmounts_purchase_pos (Nat.min_le_right _ _)
    (mem_ownAmounts MemberRow.purchase h g)

/-- A figure over a group is a sum over its own amounts. -/
theorem groupSum_eq_sum_ownAmounts {rows : List MemberRow} {g : Group} {f own : MemberRow → Nat} {share : Nat × Nat → Nat}
    (h : ∀ r ∈ rows, r.group = g → f r = share (r.index, own r)) :
    groupSum rows g f = ((ownAmounts rows g own).map share).sum := by
  rw [ownAmounts, List.map_map]
  refine congrArg List.sum (List.map_congr_left fun r hr => ?_)
  obtain ⟨hr, group⟩ := List.mem_filter.1 hr
  exact h r hr (by simpa using group)

variable (nodup : (b.members.map Member.index).Nodup)
include nodup

/-- The sellers' shares sum to M (R96). -/
theorem sum_seller_share : groupSum (settleRows t b k c) .seller MemberRow.localShare =
    min (bookSale t b k c) (bookPurchase t b k c) := by
  rw [groupSum_eq_sum_ownAmounts fun r hr g => (settleRows_of_seller hr g).1]
  exact sum_localShareOf ((sum_ownAmounts ..).trans groupSum_sale) ownAmounts_sale_pos (Nat.min_le_left _ _)
    (ownAmounts_nodup nodup ..) fun short => (Nat.min_eq_left short).symm

/-- The buyers' shares sum to M (R96). -/
theorem sum_buyer_share : groupSum (settleRows t b k c) .buyer MemberRow.localShare =
    min (bookSale t b k c) (bookPurchase t b k c) := by
  rw [groupSum_eq_sum_ownAmounts fun r hr g => (settleRows_of_buyer hr g).1]
  exact sum_localShareOf ((sum_ownAmounts ..).trans groupSum_purchase) ownAmounts_purchase_pos (Nat.min_le_right _ _)
    (ownAmounts_nodup nodup ..) fun long => (Nat.min_eq_right long.le).symm

end

/-- A figure that splits each row's figure in two splits the sum. -/
theorem groupSum_add {rows : List MemberRow} {g : Group} {f f' own : MemberRow → Nat}
    (h : ∀ r ∈ rows, r.group = g → f r + f' r = own r) : groupSum rows g f + groupSum rows g f' = groupSum rows g own := by
  unfold groupSum sumOf
  rw [← List.sum_map_add]
  refine congrArg List.sum (List.map_congr_left fun r hr => ?_)
  obtain ⟨hr, group⟩ := List.mem_filter.1 hr
  exact h r hr (by simpa using group)

end Sys2Proof.Machine
end

section
/-! ## The settlement arithmetic settled (O57, O58, O59) -/

namespace Sys2Proof.Machine

/-! ### The local price (R97) -/

/-- L is between F and B, and at their ends where the rule says so (R97). -/
theorem localPrice_between {grid feed share : Nat} (spread : feed ≤ grid) (within : share ≤ 256) :
    feed ≤ localPrice grid feed share ∧ localPrice grid feed share ≤ grid := by
  have part : (grid - feed) * share / 256 ≤ grid - feed := Nat.div_le_of_le_mul (Nat.mul_comm 256 _ ▸ Nat.mul_le_mul_left _ within)
  unfold localPrice
  omega

/-- At entry into SETTLING a book captures the prices of its band with L (R53, R97). -/
theorem State.enterSettling_capture {s : State} {b : Book} {i : Nat} {band : Band}
    (selected : s.active.bandFor s.clock.weekday b.start = some (i, band)) {x : Book} (hx : x ∈ (s.enterSettling b).books)
    (start : x.start = b.start) : x.capture = some (captureOf i band) := by
  rw [State.enterSettling_eq] at hx
  obtain ⟨y, -, rfl⟩ := List.mem_map.1 hx
  by_cases same : y.start = b.start
  · simp only [same, if_true, State.settlingAs, TableSet.captureFor, selected]
  · rw [if_neg same] at start
    exact absurd start same

/-- Settles O57: the price is an interpolation between F and B, and every book's rows are priced by its capture. -/
theorem theLocalPriceLiesBetweenTheBandsPrices : Obligations.TheLocalPriceLiesBetweenTheBandsPrices := by
  refine ⟨fun grid feed share spread within => ?between, fun b range spread => ?dearest,
    fun s b i band selected x hx start => State.enterSettling_capture selected hx start,
    ⟨fun k s d sellers buyers r => ⟨allocate_group .., fun h => ?buyer, fun h => ?seller⟩,
      fun t b k c r hr => ⟨⟨fun h => ?rowBuyer, fun h => ?rowSeller⟩, fun h => ?rowNeither⟩⟩,
    fun b k captured => ?statement⟩
  case between =>
    refine ⟨rfl, (localPrice_between spread within).1, (localPrice_between spread within).2, fun floor => ?_, fun whole => ?_⟩
    · rcases floor with rfl | rfl <;> simp [localPrice]
    · subst whole
      rw [localPrice, Nat.mul_div_cancel _ (by decide)]
      omega
  case dearest =>
    simp only [bandInRange, Bool.and_eq_true, decide_eq_true_eq] at range
    obtain ⟨⟨⟨⟨-, grid⟩, -⟩, share⟩, fee⟩ := range
    have := (localPrice_between spread share).2
    omega
  case buyer =>
    rw [allocate_group] at h
    rw [allocate_of_buyer k s d sellers buyers h]
    exact ⟨rfl, rfl⟩
  case seller =>
    rw [allocate_group] at h
    rw [allocate_of_seller k s d sellers buyers h]
    exact ⟨rfl, rfl⟩
  case rowBuyer => exact (settleRows_of_buyer hr h).2.2
  case rowSeller => exact (settleRows_of_seller hr h).2.2
  case rowNeither =>
    rw [← settleRows_of_neither hr h]
    exact ⟨rfl, rfl⟩
  case statement =>
    refine ⟨be 4 b.start ++ be 4 b.close ++ be 1 b.mark.toNat ++ be 1 (if b.state = .discarded then 1 else 0) ++
      be 1 (holdReasonCode b.holdReason) ++ be 1 k.band ++ be 3 k.gridPrice ++ be 3 k.feedPrice ++ be 2 k.share ++
      be 3 k.fee,
      countFields (b.figures.getD noFigures) ++ be 1 b.counterFaults ++ energyFields (b.figures.getD noFigures), by simp, ?_⟩
    simp only [statementBody, captured, Option.getD_some, captureFields, List.append_assoc]

/-! ### The shares (R95) -/

/-- Settles O58: the shares are those of the largest remainder, in the side that shares the match. -/
theorem theSharingGroupDividesTheLocalMatch : Obligations.TheSharingGroupDividesTheLocalMatch := by
  refine ⟨fun m group nodup own => ⟨fun none g _ => ?_, fun some g _ => shareOf_eq some _ group g,
    fun member within => ?_⟩, fun t b k c r hr => ⟨fun h short => ?_, fun h long => ?_⟩⟩
  · subst none
    rfl
  · obtain ⟨g, hg⟩ := List.exists_mem_of_ne_nil group member
    have positive := total_pos rfl own hg
    exact ⟨shortfallOf_lt rfl positive, sum_shareOf rfl positive within nodup, sum_remainderOf rfl,
      fun g _ => ⟨shareOf_le rfl positive within, fun first =>
        have rest := remainderOf_pos (g := g) rfl positive first
        ⟨rest, floor_lt_own within rest⟩⟩⟩
  · have share := (settleRows_of_buyer hr h).1
    rwa [localShareOf, if_neg (Nat.not_lt.2 short), Nat.min_eq_left short] at share
  · have share := (settleRows_of_seller hr h).1
    rwa [localShareOf, if_neg (Nat.not_le.2 long), Nat.min_eq_right long.le] at share

/-! ### The balance (R96) and the rows (R32 to R36, R92, R93, R102) -/

/-- The raw delta of a counter in numbers (R34). -/
theorem rawDelta_eq (now base : Counter) : rawDelta now base = (now.toNat + 4294967296 - base.toNat) % 4294967296 := by
  rw [rawDelta, BitVec.toNat_sub]
  congr 1
  have := base.isLt
  omega

/-- The first member of a list that meets a test is the one behind members that do not. -/
theorem find?_of_split {α : Type} {p : α → Bool} {before : List α} {x : α} (after : List α)
    (first : ∀ y ∈ before, p y = false) (h : p x = true) : (before ++ x :: after).find? p = some x :=
  List.find?_eq_some_iff_append.2 ⟨h, before, after, rfl, fun y hy => by rw [first y hy]; rfl⟩

/-- Without a grid-tie meter among the members the loss is UNKNOWN (R102). -/
theorem gridFigures_of_none {rows : List MemberRow} {s d : Nat} (none : ∀ r ∈ rows, r.kind ≠ .gridTie) :
    gridFigures rows s d = Option.none := by
  have unfound : rows.find? (fun r => r.kind == .gridTie) = Option.none :=
    List.find?_eq_none.2 fun r hr => by simpa using none r hr
  simp only [gridFigures, unfound]

/-- The grid-tie member is read against the households where it is settled or suspended (R102). -/
theorem gridFigures_of_first {rows before after : List MemberRow} {r : MemberRow} {s d : Nat}
    (split : rows = before ++ r :: after) (first : ∀ x ∈ before, x.kind ≠ .gridTie) (tie : r.kind = .gridTie) :
    gridFigures rows s d =
      if r.treatment = .settled ∨ r.treatment = .suspended then
        some { gridImport := r.importDelta, gridExport := r.exportDelta,
               loss := ((r.importDelta : Int) - r.exportDelta) - ((d : Int) - s) }
      else none := by
  have found : rows.find? (fun r => r.kind == .gridTie) = some r :=
    split ▸ find?_of_split after (fun x hx => by simpa using first x hx) (by simpa using tie)
  simp only [gridFigures, found, Bool.or_eq_true, decide_eq_true_eq]

section
variable (t : TableSet) (b : Book) (k : Capture) (c : Copies)

/-- The buyers' local shares and grid parts make up the book's purchases (R96). -/
theorem buyer_share_add_gridPart :
    groupSum (settleRows t b k c) .buyer MemberRow.localShare + groupSum (settleRows t b k c) .buyer MemberRow.gridPart =
      bookPurchase t b k c := by
  refine (groupSum_add fun r hr h => ?_).trans groupSum_purchase
  rw [(settleRows_of_buyer hr h).2.1]
  exact Nat.add_sub_cancel' (buyer_share_le hr h)

/-- The sellers' local shares and grid parts make up the book's sales (R96). -/
theorem seller_share_add_gridPart :
    groupSum (settleRows t b k c) .seller MemberRow.localShare + groupSum (settleRows t b k c) .seller MemberRow.gridPart =
      bookSale t b k c := by
  refine (groupSum_add fun r hr h => ?_).trans groupSum_sale
  rw [(settleRows_of_seller hr h).2.1]
  exact Nat.add_sub_cancel' (seller_share_le hr h)

end

/-- Settles O59: the shares of each side sum to M and complete the side's net amounts. -/
theorem localEnergyBalancesInEveryBook : Obligations.LocalEnergyBalancesInEveryBook := by
  refine ⟨fun t b k c nodup => ?balance, fun t b k c => ?rows, fun t b c m => ?row, fun rows => ?totals⟩
  case balance =>
    have sellers := sum_seller_share (t := t) (k := k) (c := c) nodup
    have buyers := sum_buyer_share (t := t) (k := k) (c := c) nodup
    have fromGrid := buyer_share_add_gridPart t b k c
    have toGrid := seller_share_add_gridPart t b k c
    rw [buyers] at fromGrid
    rw [sellers] at toGrid
    refine ⟨buyers, sellers, Nat.eq_sub_of_add_eq' fromGrid, Nat.eq_sub_of_add_eq' toGrid, by omega, fun r hr =>
      ⟨fun h => ?_, fun h => ⟨buyer_share_le hr h, (settleRows_of_buyer hr h).2.1, fun long => ?_⟩,
        fun h => ⟨seller_share_le hr h, (settleRows_of_seller hr h).2.1, fun short => ?_⟩⟩⟩
    · rw [← settleRows_of_neither hr h]
      exact ⟨rfl, rfl⟩
    · obtain ⟨share, part, -⟩ := settleRows_of_buyer hr h
      rw [part, share, localShareOf, if_pos long, Nat.sub_self]
    · obtain ⟨share, part, -⟩ := settleRows_of_seller hr h
      rw [part, share, localShareOf, if_pos short, Nat.sub_self]
  case rows =>
    refine (settleRows_map t b k c (f := MemberRow.unallocated) fun _ => rfl).trans ?_
    rw [List.map_map]
    exact List.map_congr_left fun m _ => (memberRow_netted t b c m).unallocated
  case row =>
    refine ⟨memberRow_index t b c m, memberRow_kind t b c m, fun hx => ?missing, fun x hx hc => ?excluded,
      fun x r hx hc => ⟨fun based => ?unbased, fun base based pending => ?rebased, fun base based steady => ?counted⟩⟩
    case missing =>
      rw [memberRow_of_missing t b hx]
      exact ⟨rfl, rfl, rfl, rfl, rfl, rfl, rfl, rfl⟩
    case excluded =>
      rw [memberRow_of_excluded t b hx (goodCopy_eq_none.2 hc)]
      exact ⟨rfl, rfl, rfl, rfl, rfl, rfl, rfl, rfl⟩
    case unbased =>
      rw [memberRow_of_rebased t b hx (goodCopy_eq_some.2 hc) (.inl based), based]
      exact ⟨rfl, rfl, rfl, rfl, rfl, rfl, rfl, rfl⟩
    case rebased =>
      rw [memberRow_of_rebased t b hx (goodCopy_eq_some.2 hc) (.inr pending), based]
      exact ⟨rfl, rfl, rfl, rfl, rfl, rfl, rfl, rfl⟩
    case counted =>
      rw [memberRow_of_counted t b hx (goodCopy_eq_some.2 hc) based steady]
      simp only [← rawDelta_eq]
      exact ⟨rfl, rfl, rfl, rfl, rfl, rfl, rfl, rfl⟩
  case totals =>
    refine ⟨rfl, rfl, rfl, rfl, rfl, fun none => ?_, fun before r after split first tie => ⟨fun counts => ?_, fun h h' => ?_⟩⟩
    · exact gridFigures_of_none none
    · exact gridFigures_of_first split first tie |>.trans (if_pos counts)
    · exact gridFigures_of_first split first tie |>.trans (if_neg (not_or.2 ⟨h, h'⟩))

end Sys2Proof.Machine
end

section
/-! ## The money of a book (O60): the residue, the landings and the change list -/

namespace Sys2Proof.Machine

/-! ### Rounding (R98, R99) -/

/-- A ceiling is at least the exact value, and less than 1 mc above it (R98). -/
theorem amountUp_bounds (energy price : Nat) :
    energy * price ≤ 1000 * amountUp energy price ∧ 1000 * amountUp energy price ≤ energy * price + 999 := by
  unfold amountUp
  omega

/-- A floor is at most the exact value, and less than 1 mc below it (R99). -/
theorem amountDown_bounds (energy price : Nat) :
    1000 * amountDown energy price ≤ energy * price ∧ energy * price ≤ 1000 * amountDown energy price + 999 := by
  unfold amountDown
  omega

/-- A bound on each row of a group bounds the sum. -/
theorem groupSum_le {rows : List MemberRow} {g : Group} {f f' : MemberRow → Nat}
    (h : ∀ r ∈ rows, r.group = g → f r ≤ f' r) : groupSum rows g f ≤ groupSum rows g f' :=
  List.sum_le_sum fun r hr => by
    obtain ⟨hr, group⟩ := List.mem_filter.1 hr
    exact h r hr (by simpa using group)

/-- A bound with a slack on each row of a group bounds the sum with as many slacks. -/
theorem groupSum_le_slack {rows : List MemberRow} {g : Group} {f f' : MemberRow → Nat} {slack : Nat}
    (h : ∀ r ∈ rows, r.group = g → f r ≤ f' r + slack) :
    groupSum rows g f ≤ groupSum rows g f' + slack * (rows.filter fun r => r.group == g).length := by
  calc groupSum rows g f
      ≤ groupSum rows g fun r => f' r + slack := groupSum_le h
    _ = groupSum rows g f' + slack * (rows.filter fun r => r.group == g).length := by
        rw [groupSum, sumOf, List.sum_map_add, List.map_const', List.sum_replicate, smul_eq_mul, Nat.mul_comm slack]
        rfl

theorem groupSum_mul (rows : List MemberRow) (g : Group) (f : MemberRow → Nat) (n : Nat) :
    groupSum rows g (fun r => f r * n) = groupSum rows g f * n := List.sum_map_mul_right ..

theorem groupSum_const_mul (rows : List MemberRow) (g : Group) (f : MemberRow → Nat) (n : Nat) :
    groupSum rows g (fun r => n * f r) = n * groupSum rows g f := List.sum_map_mul_left ..

/-- The buyers and the sellers of a book are its traders (R98, R99). -/
theorem length_traders (rows : List MemberRow) :
    (rows.filter fun r => r.group == .buyer || r.group == .seller).length =
      (rows.filter fun r => r.group == .buyer).length + (rows.filter fun r => r.group == .seller).length := by
  induction rows with
  | nil => rfl
  | cons r rest ih =>
    rcases g : r.group <;> simp [g, ih] <;> omega

section
variable {t : TableSet} {b : Book} {k : Capture} {c : Copies}

/-- What the buyers pay for local energy is its price with the fee, and less than 1 mc more for each (R98, R100). -/
theorem localDebits_bounds (nodup : (b.members.map Member.index).Nodup) :
    min (bookSale t b k c) (bookPurchase t b k c) * (k.localPrice + k.fee) ≤
      1000 * groupSum (settleRows t b k c) .buyer MemberRow.localAmount ∧
    1000 * groupSum (settleRows t b k c) .buyer MemberRow.localAmount ≤
      min (bookSale t b k c) (bookPurchase t b k c) * (k.localPrice + k.fee) +
        999 * ((settleRows t b k c).filter fun r => r.group == .buyer).length := by
  rw [← sum_buyer_share nodup, ← groupSum_mul, ← groupSum_const_mul]
  refine ⟨groupSum_le fun r hr g => ?_, groupSum_le_slack fun r hr g => ?_⟩ <;>
    rw [(settleRows_of_buyer hr g).2.2.1]
  · exact (amountUp_bounds ..).1
  · exact (amountUp_bounds ..).2

/-- What the sellers are paid for local energy is its price, or less than 1 mc less for each (R99, R100). -/
theorem localCredits_bounds (nodup : (b.members.map Member.index).Nodup) :
    1000 * groupSum (settleRows t b k c) .seller MemberRow.localAmount ≤
      min (bookSale t b k c) (bookPurchase t b k c) * k.localPrice ∧
    min (bookSale t b k c) (bookPurchase t b k c) * k.localPrice ≤
      1000 * groupSum (settleRows t b k c) .seller MemberRow.localAmount +
        999 * ((settleRows t b k c).filter fun r => r.group == .seller).length := by
  rw [← sum_seller_share nodup, ← groupSum_mul, ← groupSum_const_mul]
  refine ⟨groupSum_le fun r hr g => ?_, groupSum_le_slack fun r hr g => ?_⟩ <;>
    rw [(settleRows_of_seller hr g).2.2.1]
  · exact (amountDown_bounds ..).1
  · exact (amountDown_bounds ..).2

/-- The residue of a book is never negative: the exact fee, and less than 1 mc more for each trader (R100). -/
theorem residue_bounds (nodup : (b.members.map Member.index).Nodup) :
    let f := figuresOf (settleRows t b k c)
    f.localCredits ≤ f.localDebits ∧ f.localMatch * k.fee ≤ 1000 * f.residue ∧
    1000 * f.residue ≤ f.localMatch * k.fee +
      999 * ((settleRows t b k c).filter fun r => r.group == .buyer || r.group == .seller).length := by
  obtain ⟨debitsLow, debitsHigh⟩ := localDebits_bounds (t := t) (k := k) (c := c) nodup
  obtain ⟨creditsHigh, creditsLow⟩ := localCredits_bounds (t := t) (k := k) (c := c) nodup
  rw [Nat.mul_add] at debitsLow debitsHigh
  rw [length_traders]
  intro f
  have hmatch : f.localMatch = min (bookSale t b k c) (bookPurchase t b k c) := rfl
  have residue : f.residue = f.localDebits - f.localCredits := rfl
  have debits : f.localDebits = groupSum (settleRows t b k c) .buyer MemberRow.localAmount := rfl
  have credits : f.localCredits = groupSum (settleRows t b k c) .seller MemberRow.localAmount := rfl
  rw [hmatch, residue, debits, credits]
  refine ⟨?_, ?_, ?_⟩ <;> omega

end

/-! ### Aims and walks (R103, R112, R113) -/

/-- The aims of one direction: the amounts above 0, local before grid (log 17, log 37). -/
def MemberRow.aims (r : MemberRow) (d : Direction) : List Aim :=
  ([r.localAmount, r.gridAmount].filter fun x => decide (0 < x)).map fun x =>
    { participant := r.index, direction := d, amount := x, reached := r.index }

/-- A buyer's amounts are aimed as debits, a seller's as credits, and nothing is aimed in NEITHER (R98, R99). -/
theorem aimsOf_eq (r : MemberRow) :
    aimsOf r = match r.group with | .buyer => r.aims .debit | .seller => r.aims .credit | .neither => [] := by
  unfold aimsOf MemberRow.aims
  rcases r.group <;> rcases Nat.eq_zero_or_pos r.localAmount with hl | hl <;>
    rcases Nat.eq_zero_or_pos r.gridAmount with hg | hg <;> simp [hl, hg, Nat.ne_of_gt]

/-- A link's scope covers a direction (R112). -/
def linkCovers (r : Redirect) (d : Direction) : Prop :=
  r.scope = .all ∨ (r.scope = .debits ∧ d = .debit) ∨ (r.scope = .credits ∧ d = .credit)

theorem covers_iff (r : Redirect) (d : Direction) : covers r.scope d = true ↔ linkCovers r d := by
  unfold linkCovers
  cases r.scope <;> simp [covers]

theorem nextLink_of_redirect {t : TableSet} {a : Nat} {r : Redirect} (h : (t.entry a).redirect = some r) (d : Direction) :
    nextLink t a d = if a < 192 ∧ covers r.scope d = true then some r.target else none := by
  simp only [nextLink, h, Bool.and_eq_true, decide_eq_true_eq]
  rfl

/-- A walk goes on along a link whose scope covers its direction (R112). -/
theorem nextLink_of_covered {t : TableSet} {a : Nat} {d : Direction} {r : Redirect} (participant : a < 192)
    (h : (t.entry a).redirect = some r) (covered : linkCovers r d) : nextLink t a d = some r.target :=
  (nextLink_of_redirect h d).trans (if_pos ⟨participant, (covers_iff r d).2 covered⟩)

/-- A walk stays where no link covers its direction (R112). -/
theorem nextLink_of_uncovered {t : TableSet} {a : Nat} {d : Direction}
    (uncovered : ∀ r, (t.entry a).redirect = some r → ¬linkCovers r d) : nextLink t a d = none := by
  rcases h : (t.entry a).redirect with _ | r
  · simp only [nextLink, h]
  · exact (nextLink_of_redirect h d).trans (if_neg fun both => uncovered r h ((covers_iff r d).1 both.2))

section
variable (s : State) (w : Work) (a : Aim) (rest : List Aim)

/-- The engine once a walk has ended and its amount has landed on an account. -/
def State.landOn (account : Nat) : State :=
  { s with work := some { w with aims := rest, landed := (account, signedAmount a) :: w.landed } }

/-- A walk that reaches a DAMAGED record lands on SUSPENSE, with the item (R112, R113). -/
theorem State.walkOn_of_damaged :
    s.walkOn w a rest none =
      { s.landOn w a rest 195 with
        attention := s.attention.raise (.redirectToSuspense a.participant w.book a.reached a.direction) } := rfl

variable {a}

/-- A walk follows a link that covers it (R112). -/
theorem State.walkOn_of_link {j : Nat} (link : nextLink s.active a.reached a.direction = some j) (x : AccountRecord) :
    s.walkOn w a rest (some x) = { s with work := some { w with aims := { a with reached := j } :: rest } } := by
  simp only [State.walkOn, link]
  rfl

/-- A walk lands where no link covers it (R112). -/
theorem State.walkOn_of_end (stays : nextLink s.active a.reached a.direction = none) (x : AccountRecord) :
    s.walkOn w a rest (some x) = s.landOn w a rest a.reached := by
  simp only [State.walkOn, stays]
  rfl

end

/-! ### What lands, and the change list (R100, R101, R103) -/

theorem netOn_append (l l' : List (Nat × Int)) (a : Nat) : netOn (l ++ l') a = netOn l a + netOn l' a := by
  simp only [netOn, List.filter_append, List.map_append, List.sum_append]

/-- An account on which nothing has landed has no net. -/
theorem netOn_of_absent {l : List (Nat × Int)} {a : Nat} (h : ∀ x ∈ l, x.1 ≠ a) : netOn l a = 0 := by
  rw [netOn, List.filter_eq_nil_iff.2 fun x hx => by simpa using h x hx]
  rfl

/-- The new baseline the rows give an account. -/
def baselineOf (rows : List MemberRow) (a : Nat) : Option NewBaseline :=
  (rows.find? fun r => r.index == a).bind MemberRow.baseline

/-- Whether an account is in the change list: its net is other than 0, or it takes a new baseline (R103). -/
def changes (rows : List MemberRow) (landed : List (Nat × Int)) (a : Nat) : Bool :=
  !(netOn landed a = 0 && (baselineOf rows a).isNone)

/-- An account's item in the change list (R103). -/
def changeOf (c : Copies) (rows : List MemberRow) (landed : List (Nat × Int)) (a : Nat) : ChangeItem :=
  { account := a, net := netOn landed a
    read := if netOn landed a = 0 then none else (goodCopy c a).map AccountRecord.balance
    balance := if netOn landed a = 0 then none else (goodCopy c a).map fun r => r.balance + netOn landed a
    baseline := baselineOf rows a }

/-- The change list: the items of the accounts that change, in ascending order (R103). -/
theorem changeList_eq (c : Copies) (rows : List MemberRow) (landed : List (Nat × Int)) :
    changeList c rows landed = ((List.range 196).filter (changes rows landed)).map (changeOf c rows landed) := by
  rw [changeList, Config.accounts, ← List.filterMap_eq_map, ← List.filterMap_eq_filter, List.filterMap_filterMap]
  refine List.filterMap_congr fun a _ => ?_
  change (if (netOn landed a = 0 && (baselineOf rows a).isNone : Bool) then none else some (changeOf c rows landed a)) = _
  by_cases still : (netOn landed a = 0 && (baselineOf rows a).isNone : Bool) = true
  · rw [if_pos still, Option.guard_eq_none_iff.2 (by rw [changes, still]; rfl)]
    rfl
  · rw [if_neg still, Option.guard_eq_some_iff.2 ⟨rfl, by rw [changes, Bool.eq_false_iff.2 still]; rfl⟩]
    rfl

end Sys2Proof.Machine
end

section
/-! ## The end of SETTLING (O60): the change list's items, HELD, and POSTING -/

namespace Sys2Proof.Machine

/-! ### The items of the change list (R103) -/

section
variable {c : Copies} {rows : List MemberRow} {landed : List (Nat × Int)}

/-- The change list goes by ascending account number. -/
theorem changeList_ascending : ((changeList c rows landed).map ChangeItem.account).Pairwise (· < ·) := by
  have accounts : (changeList c rows landed).map ChangeItem.account = (List.range 196).filter (changes rows landed) := by
    rw [changeList_eq, List.map_map]
    exact List.map_id _
  rw [accounts]
  exact List.pairwise_lt_range.filter _

/-- The items are those of the accounts that change. -/
theorem mem_changeList {i : ChangeItem} :
    i ∈ changeList c rows landed ↔ ∃ a, a < 196 ∧ changes rows landed a = true ∧ i = changeOf c rows landed a := by
  rw [changeList_eq, List.mem_map]
  constructor
  · rintro ⟨a, ha, rfl⟩
    obtain ⟨ha, changed⟩ := List.mem_filter.1 ha
    exact ⟨a, List.mem_range.1 ha, changed, rfl⟩
  · rintro ⟨a, ha, changed, rfl⟩
    exact ⟨a, List.mem_filter.2 ⟨List.mem_range.2 ha, changed⟩, rfl⟩

/-- With one row for each index, an account takes its own row's baseline. -/
theorem baselineOf_of_mem (nodup : (rows.map MemberRow.index).Nodup) {r : MemberRow} (h : r ∈ rows) :
    baselineOf rows r.index = r.baseline := by
  rcases hf : rows.find? (fun x => x.index == r.index) with _ | x
  · exact absurd (List.find?_eq_none.1 hf r h) (by simp)
  · have same : x = r := List.inj_on_of_nodup_map nodup (List.mem_of_find?_eq_some hf) h
      (by simpa using List.find?_some hf)
    rw [baselineOf, hf, same]
    rfl

/-- An account changes when its net is other than 0 or a row of its index takes a new baseline (R103). -/
theorem changes_iff (nodup : (rows.map MemberRow.index).Nodup) {a : Nat} :
    changes rows landed a = true ↔ netOn landed a ≠ 0 ∨ ∃ r ∈ rows, r.index = a ∧ r.baseline ≠ none := by
  have based : baselineOf rows a ≠ none ↔ ∃ r ∈ rows, r.index = a ∧ r.baseline ≠ none := by
    constructor
    · intro h
      obtain ⟨n, hn⟩ := Option.ne_none_iff_exists'.1 h
      obtain ⟨r, hr, baseline⟩ := Option.bind_eq_some_iff.1 hn
      exact ⟨r, List.mem_of_find?_eq_some hr, by simpa using List.find?_some hr, by rw [baseline]; exact nofun⟩
    · rintro ⟨r, hr, rfl, baseline⟩
      rwa [baselineOf_of_mem nodup hr]
  rw [← based, changes]
  simp [← Option.isSome_iff_ne_none]

end

/-! ### HELD and POSTING (R101, R104 to R106, R116) -/

/-- The lowest damaged system account (R104). -/
theorem damagedSystem_of_first {c : Copies} {a : Nat} (low : 192 ≤ a) (high : a ≤ 195) (damaged : goodCopy c a = none)
    (first : ∀ x, 192 ≤ x → x < a → (goodCopy c x).isSome = true) : damagedSystem c = some a := by
  have before : [192, 193, 194, 195] = List.range' 192 (a - 192) ++ a :: List.range' (a + 1) (195 - a) := by
    interval_cases a <;> rfl
  rw [damagedSystem, before]
  refine find?_of_split _ (fun x hx => ?_) (by rw [damaged]; rfl)
  obtain ⟨lower, upper⟩ := List.mem_range'_1.1 hx
  rw [Option.isNone_eq_false_iff]
  exact first x lower (by omega)

/-- No system account is damaged. -/
theorem damagedSystem_of_none {c : Copies} (good : ∀ x, 192 ≤ x → x ≤ 195 → (goodCopy c x).isSome = true) :
    damagedSystem c = none := by
  refine List.find?_eq_none.2 fun x hx => ?_
  have := good x (by simp at hx; omega) (by simp at hx; omega)
  simpa [Option.isSome_iff_ne_none] using this

/-- Whether an item's new balance lies out of range (R105). -/
def ChangeItem.outOfRange (i : ChangeItem) : Bool := match i.balance with | some x => !balanceInRange x | none => false

/-- The lowest account whose new balance lies out of range (R105). -/
theorem outOfRange_of_first {before after : List ChangeItem} {i : ChangeItem}
    (first : ∀ x ∈ before, x.outOfRange = false) (out : i.outOfRange = true) :
    outOfRange (before ++ i :: after) = some i.account :=
  congrArg (Option.map ChangeItem.account) (find?_of_split after first out)

/-- No new balance lies out of range. -/
theorem outOfRange_of_none {l : List ChangeItem} (none : ∀ i ∈ l, i.outOfRange = false) :
    outOfRange l = Option.none :=
  congrArg (Option.map ChangeItem.account) (List.find?_eq_none.2 fun i hi => Bool.eq_false_iff.1 (none i hi))

section
variable (s : State) (w : Work) (b : Book)

/-- The items a settled book changes (R103). -/
def Work.changeItems : List ChangeItem := changeList w.copies w.rows (w.landed ++ systemLandings w.figures)

/-- The engine with the book HELD (R82, R101). -/
def State.bookHeld (f : Figures) (reason : HoldReason) (account : Nat) : State :=
  { s with
    books := s.books.map fun x =>
      if x.start = b.start then { x with state := .held, holdReason := some reason, figures := some f } else x
    work := none
    attention := s.attention.raise (.bookHeld b.start reason account) }

/-- The engine with the book in POSTING (R101, R106, R116). -/
def State.bookPosting : State :=
  { s with
    books := s.books.map fun x => if x.start = b.start then { x with state := .posting, figures := some w.figures } else x
    work := some { w with stage := .done, changes := w.changeItems }
    posting := { phase := .journal, book := some b.start, cursor := 0
                 images := w.changeItems.map (imageOf s.active w.copies b.start), durable := false
                 recheck := s.posting.recheck } }

variable {s w b}

/-- A damaged system account holds the book (R104). -/
theorem State.finishSettling_of_damaged {a : Nat} (h : damagedSystem w.copies = some a) :
    s.finishSettling w b = s.bookHeld b w.figures .systemDamaged a := by
  simp only [State.finishSettling, h]
  rfl

/-- A new balance out of range holds the book (R105). -/
theorem State.finishSettling_of_range {a : Nat} (good : damagedSystem w.copies = none)
    (h : outOfRange w.changeItems = some a) : s.finishSettling w b = s.bookHeld b w.figures .range a := by
  have h' : outOfRange (changeList w.copies w.rows (w.landed ++ systemLandings w.figures)) = some a := h
  simp only [State.finishSettling, good, h']
  rfl

/-- Else the book enters POSTING (R106). -/
theorem State.finishSettling_of_posting (good : damagedSystem w.copies = none) (h : outOfRange w.changeItems = none) :
    s.finishSettling w b = s.bookPosting w b := by
  have h' : outOfRange (changeList w.copies w.rows (w.landed ++ systemLandings w.figures)) = none := h
  simp only [State.finishSettling, good, h']
  rfl

variable (s w b) in
/-- Stage 7 ends in HELD or in POSTING (R104 to R106). -/
theorem State.finishSettling_cases :
    (∃ reason a, s.finishSettling w b = s.bookHeld b w.figures reason a) ∨ s.finishSettling w b = s.bookPosting w b := by
  rcases damaged : damagedSystem w.copies with _ | a
  · rcases out : outOfRange w.changeItems with _ | a
    · exact .inr (State.finishSettling_of_posting damaged out)
    · exact .inl ⟨_, a, State.finishSettling_of_range damaged out⟩
  · exact .inl ⟨_, a, State.finishSettling_of_damaged damaged⟩

/-- The first book of a start minute stays the first when the books of that minute change and keep it. -/
theorem State.book_updateBook {start : Nat} {f : Book → Book} (keeps : (f b).start = b.start)
    (named : s.book start = some b) : (s.updateBook start f).book start = some (f b) := by
  have starts := State.start_of_book named
  rw [State.book, List.find?_eq_some_iff_append] at named
  obtain ⟨same, before, after, books, first⟩ := named
  rw [State.book, State.updateBook_books, books, List.map_append, List.map_cons, if_pos starts]
  refine find?_of_split _ (fun x hx => ?_) (by rw [keeps]; exact same)
  obtain ⟨y, hy, rfl⟩ := List.mem_map.1 hx
  have other : ¬y.start = start := by simpa using first y hy
  rw [if_neg other]
  exact beq_eq_false_iff_ne.2 other

/-- Whatever stage 7 ends in, the book takes its figures (R101). -/
theorem State.finishSettling_book (named : s.book b.start = some b) :
    ∃ x, (s.finishSettling w b).book b.start = some x ∧ x.figures = some w.figures ∧
      (x.state = .held ∨ x.state = .posting) := by
  rcases State.finishSettling_cases s w b with ⟨reason, a, held⟩ | posting
  · rw [held]
    exact ⟨_, State.book_updateBook (f := fun x => { x with state := .held, holdReason := some reason, figures := some w.figures })
      rfl named, rfl, .inl rfl⟩
  · rw [posting]
    exact ⟨_, State.book_updateBook (f := fun x => { x with state := .posting, figures := some w.figures }) rfl named, rfl,
      .inr rfl⟩

end

/-- The record image of an item whose account was read whole (R106, R116). -/
theorem imageOf_eq {t : TableSet} {c : Copies} {i : ChangeItem} {r : AccountRecord}
    (read : c.lookup i.account = some (some r)) (start : Nat) :
    imageOf t c start i =
      { account := i.account, changes := i.balance.isSome, was := r.standing
        record :=
          { balance := i.balance.getD r.balance
            baseExport := match i.baseline with | some x => x.exported | none => r.baseExport
            baseImport := match i.baseline with | some x => x.imported | none => r.baseImport
            baseMinute := match i.baseline with | some x => some x.minute | none => r.baseMinute
            rebasePending := match i.baseline with
              | some x => if x.clears then false else r.rebasePending
              | none => r.rebasePending
            standing := match i.balance with | some x => standingAt t i.account x | none => r.standing
            lastPosted := some start } } := by
  rw [imageOf, goodCopy_eq_some.2 read]
  rcases i.balance with _ | x <;> rcases i.baseline with _ | n
  · rfl
  · rfl
  · simp only [TableSet.standing_eq]
    rfl
  · simp only [TableSet.standing_eq]
    rfl

end Sys2Proof.Machine
end

section
/-! ## Turns one after another -/

namespace Sys2Proof.Machine

/-- A state comes to another in a number of turns. -/
def State.takesTurns : Nat → State → State → Prop
  | 0, s, t => s = t
  | n + 1, s, t => ∃ m, s.turn = some m ∧ State.takesTurns n m t

namespace State.takesTurns

variable {s t u : State} {n m : Nat}

theorem one (h : s.turn = some t) : State.takesTurns 1 s t := ⟨t, h, rfl⟩

theorem trans (h : State.takesTurns n s t) (h' : State.takesTurns m t u) : State.takesTurns (n + m) s u := by
  induction n generalizing s with
  | zero =>
    obtain rfl : s = t := h
    rwa [Nat.zero_add]
  | succ n ih =>
    obtain ⟨next, turn, rest⟩ := h
    rw [Nat.add_right_comm]
    exact ⟨next, turn, ih rest⟩

/-- Turns within the bound leave the rest of the turns to take. -/
theorem driveFor_eq (h : State.takesTurns n s t) (more : Nat) : driveFor (n + more) s = driveFor more t := by
  induction n generalizing s with
  | zero =>
    obtain rfl : s = t := h
    rw [Nat.zero_add]
  | succ n ih =>
    obtain ⟨next, turn, rest⟩ := h
    rw [Nat.add_right_comm, driveFor_of_some turn, ih rest]

/-- An event's follow-on work is its turns, within the bound (log 32), and the grant. -/
theorem drive_eq (h : State.takesTurns n s t) (within : n ≤ 8192) (still : t.turn = none) : s.drive = t.grant := by
  obtain ⟨more, bound⟩ := Nat.exists_eq_add_of_le within
  rw [State.drive, Config.turns, bound, h.driveFor_eq, driveFor_of_none still]

end State.takesTurns

end Sys2Proof.Machine
end

section
/-! ## The redirect walks (O60): what they read, where they land -/

namespace Sys2Proof.Machine

/-! ### What the walks read (R91; R112, step 1) -/

/-- What a read of an account finds in a cache: the line that holds it, and its record or the DAMAGED mark. -/
def Cache.hit (c : Cache) (a : Nat) : Option (Nat × Option AccountRecord) :=
  match c.lookup a with
  | .good line r => some (line, some r)
  | .damaged line => some (line, none)
  | .miss => none

/-- The Settlement Unit's read is the cache's. -/
theorem State.found_eq_hit (s : State) (a : Nat) : s.found a = s.cache.hit a := rfl

/-- The cache once some accounts have been read: each hit has moved its line in the use order (R137). -/
def Cache.readAll (c : Cache) (read : List Nat) : Cache :=
  read.foldl (fun k a => match c.hit a with | some y => k.touch y.1 | none => k) c

/-- One record copied, unless a whole copy is held (R91; log 50). -/
def copyRead (c : Cache) (cs : Copies) (a : Nat) : Copies :=
  match cs.lookup a, c.hit a with
  | some (some _), _ => cs
  | _, some y => (a, y.2) :: cs
  | _, none => cs

/-- The copies once some accounts have been read. -/
def copiesRead (c : Cache) (cs : Copies) (read : List Nat) : Copies := read.foldl (copyRead c) cs

/-- Whether a walk takes an account for whole: its line is good, or it is the walk's start and was settled by a whole copy
(R112, step 2; log 50). -/
def readsWhole (c : Cache) (cs : Copies) (x : Aim) (a : Nat) : Bool :=
  match c.hit a with
  | some (_, some _) => true
  | some (_, none) => a == x.participant && match cs.lookup a with | some (some _) => true | _ => false
  | none => false

section
variable {c : Cache} {cs : Copies} {a line : Nat} {r : Option AccountRecord} {read : List Nat}

/-- Reading moves no line: every account is found as before. -/
theorem Cache.lookup_readAll (c : Cache) (read : List Nat) (a : Nat) : (c.readAll read).lookup a = c.lookup a := by
  have all (k : Cache) : (read.foldl (fun k a => match c.hit a with | some y => k.touch y.1 | none => k) k).lookup a =
      k.lookup a := by
    induction read generalizing k with
    | nil => rfl
    | cons d rest ih =>
      rw [List.foldl_cons, ih]
      rcases c.hit d with _ | y
      · rfl
      · exact Cache.lookup_touch k y.1 a
  exact all c

theorem Cache.hit_readAll (c : Cache) (read : List Nat) (a : Nat) : (c.readAll read).hit a = c.hit a := by
  rw [Cache.hit, Cache.lookup_readAll, Cache.hit]

theorem Cache.readAll_append (h : c.hit a = some (line, r)) : c.readAll (read ++ [a]) = (c.readAll read).touch line := by
  rw [Cache.readAll, List.foldl_append, List.foldl_cons, List.foldl_nil, h]
  rfl

/-- A whole copy stays. -/
theorem copyRead_of_good (h : (goodCopy cs a).isSome = true) : copyRead c cs a = cs := by
  obtain ⟨x, hx⟩ := Option.isSome_iff_exists.1 h
  simp only [copyRead, goodCopy_eq_some.1 hx]

/-- Without a whole copy, what was found is copied. -/
theorem copyRead_of_hit (none : goodCopy cs a = none) (h : c.hit a = some (line, r)) :
    copyRead c cs a = (a, r) :: cs := by
  rcases held : cs.lookup a with _ | _ | x
  · simp only [copyRead, held, h]
  · simp only [copyRead, held, h]
  · rw [goodCopy_eq_some.2 held] at none
    cases none

/-- What is not found is not copied. -/
theorem copyRead_of_miss (h : c.hit a = none) : copyRead c cs a = cs := by
  rcases held : cs.lookup a with _ | _ | x <;> simp only [copyRead, held, h]

/-- A read copies its own account alone. -/
theorem goodCopy_copyRead_other {d : Nat} (other : a ≠ d) : goodCopy (copyRead c cs d) a = goodCopy cs a := by
  rcases held : goodCopy cs d with _ | x
  · rcases hit : c.hit d with _ | ⟨line, r⟩
    · rw [copyRead_of_miss hit]
    · rw [copyRead_of_hit held hit, goodCopy, List.lookup_cons, beq_false_of_ne other]
      rfl
  · rw [copyRead_of_good (by rw [held]; rfl)]

/-- After its read an account has a whole copy where it had one before, or where its line is good. -/
theorem goodCopy_copyRead_self (h : c.hit a = some (line, r)) :
    (goodCopy (copyRead c cs a) a).isSome = ((goodCopy cs a).isSome || r.isSome) := by
  rcases held : goodCopy cs a with _ | x
  · rw [copyRead_of_hit held h, goodCopy, List.lookup_cons, beq_self_eq_true]
    cases r <;> rfl
  · rw [copyRead_of_good (by rw [held]; rfl), held]
    rfl

/-- However much has been read since, an account has a whole copy after its own read where it had one at first, or where
its line is good. -/
theorem goodCopy_copiesRead (h : c.hit a = some (line, r)) (cs : Copies) (read : List Nat) :
    (goodCopy (copiesRead c cs (read ++ [a])) a).isSome = ((goodCopy cs a).isSome || r.isSome) := by
  induction read generalizing cs with
  | nil => exact goodCopy_copyRead_self h
  | cons d rest ih =>
    have next : copiesRead c cs (d :: rest ++ [a]) = copiesRead c (copyRead c cs d) (rest ++ [a]) := rfl
    rw [next, ih]
    by_cases same : a = d
    · subst same
      rw [goodCopy_copyRead_self h, Bool.or_assoc, Bool.or_self]
    · rw [goodCopy_copyRead_other same]

theorem copiesRead_append (read : List Nat) (a : Nat) :
    copiesRead c cs (read ++ [a]) = copyRead c (copiesRead c cs read) a := by
  rw [copiesRead, List.foldl_append]
  rfl

/-- The model's copying is that of `copyRead`. -/
theorem Work.copiesWith_of_hit {w : Work} (h : c.hit a = some (line, r)) : w.copiesWith a r = copyRead c w.copies a := by
  rcases held : goodCopy w.copies a with _ | x
  · rw [Work.copiesWith_of_none r held, copyRead_of_hit held h]
  · rw [Work.copiesWith_of_good r held, copyRead_of_good (by rw [held]; rfl)]

theorem readsWhole_of_hit (h : c.hit a = some (line, r)) (x : Aim) :
    readsWhole c cs x a = (r.isSome || (a == x.participant && (goodCopy cs a).isSome)) := by
  rcases r with _ | y
  · simp only [readsWhole, h]
    rcases held : cs.lookup a with _ | _ | y <;> simp [goodCopy, held]
  · simp only [readsWhole, h]
    rfl

/-- What a walk takes for whole has been found. -/
theorem hit_of_readsWhole {x : Aim} (h : readsWhole c cs x a = true) : ∃ line r, c.hit a = some (line, r) := by
  rcases hit : c.hit a with _ | ⟨line, r⟩
  · simp [readsWhole, hit] at h
  · exact ⟨line, r, rfl⟩

end

/-! ### One step of a walk (R112, R113) -/

/-- The work record with its walks under way: some accounts read, some amounts landed, and some aims to walk. -/
def Work.walkedTo (w : Work) (c : Cache) (read : List Nat) (landed : List (Nat × Int)) (aims : List Aim) : Work :=
  { w with copies := copiesRead c w.copies read, aims := aims, landed := landed }

/-- The engine with its walks under way. -/
def State.walkedTo (u : State) (w : Work) (read : List Nat) (attention : AttentionList) (landed : List (Nat × Int))
    (aims : List Aim) : State :=
  { u with
    attention := attention, cache := u.cache.readAll read, work := some (w.walkedTo u.cache read landed aims) }

/-- Where a walk that ends at an account lands its amount: there, or on SUSPENSE where it cannot be read (R112, R113). -/
def landingOf (c : Cache) (cs : Copies) (x : Aim) (last : Nat) : Nat × Int :=
  (if readsWhole c cs x last then last else 195, signedAmount x)

/-- The item of a walk diverted to SUSPENSE (R112). -/
def suspenseItem (c : Cache) (cs : Copies) (book : Nat) (x : Aim) (last : Nat) : Option Attention :=
  if readsWhole c cs x last then none else some (.redirectToSuspense x.participant book last x.direction)

/-- A walk replaces the work record, whatever it was. -/
theorem State.walkOn_work (s : State) (other : Option Work) (w : Work) (a : Aim) (rest : List Aim)
    (record : Option AccountRecord) :
    ({ s with work := other } : State).walkOn w a rest record = s.walkOn w a rest record := by
  rcases record with _ | x
  · rfl
  · simp only [State.walkOn]
    split <;> rfl

section
variable {u : State} {w : Work} {x : Aim} {line : Nat} {r : Option AccountRecord} (read : List Nat)
  (attention : AttentionList) (landed : List (Nat × Int)) (rest : List Aim)

/-- A step of a walk goes by a record that is there exactly where the walk takes the account for whole, and the read
moves its line and is copied (R112, log 50). -/
theorem State.walkStep_of_hit (h : u.cache.hit x.reached = some (line, r)) :
    ∃ record : Option AccountRecord, record.isSome = readsWhole u.cache w.copies x x.reached ∧
      (u.walkedTo w read attention landed (x :: rest)).walkStep (w.walkedTo u.cache read landed (x :: rest)) x rest line r =
        (u.walkedTo w (read ++ [x.reached]) attention landed (x :: rest)).walkOn
          (w.walkedTo u.cache (read ++ [x.reached]) landed (x :: rest)) x rest record := by
  refine ⟨if x.reached = x.participant then goodCopy (copiesRead u.cache w.copies (read ++ [x.reached])) x.reached else r,
    ?_, ?_⟩
  · rw [readsWhole_of_hit h]
    by_cases start : x.reached = x.participant
    · rw [if_pos start, goodCopy_copiesRead h, beq_iff_eq.2 start, Bool.true_and, Bool.or_comm]
    · rw [if_neg start, beq_false_of_ne start, Bool.false_and, Bool.or_false]
  · have copies : (w.walkedTo u.cache read landed (x :: rest)).copiesWith x.reached r =
        copiesRead u.cache w.copies (read ++ [x.reached]) := by
      rw [Work.copiesWith_of_hit h, copiesRead_append]
      rfl
    rw [State.walkStep, copies, State.walkedTo, State.walkedTo, Cache.readAll_append h]
    exact (State.walkOn_work _ _ _ _ _ _).symm

/-- A walk follows a link from an account it takes for whole (R112). -/
theorem State.walkStep_of_link {j : Nat} (h : u.cache.hit x.reached = some (line, r))
    (whole : readsWhole u.cache w.copies x x.reached = true) (link : nextLink u.active x.reached x.direction = some j) :
    (u.walkedTo w read attention landed (x :: rest)).walkStep (w.walkedTo u.cache read landed (x :: rest)) x rest line r =
      u.walkedTo w (read ++ [x.reached]) attention landed ({ x with reached := j } :: rest) := by
  obtain ⟨record, isSome, step⟩ := State.walkStep_of_hit (w := w) read attention landed rest h
  obtain ⟨y, rfl⟩ := Option.isSome_iff_exists.1 (isSome.trans whole)
  exact step.trans
    (State.walkOn_of_link (u.walkedTo w (read ++ [x.reached]) attention landed (x :: rest)) _ rest link y)

/-- A walk ends where it cannot be read on, or where no link covers it, and its amount lands (R112, R113). -/
theorem State.walkStep_of_end (h : u.cache.hit x.reached = some (line, r))
    (stays : readsWhole u.cache w.copies x x.reached = true → nextLink u.active x.reached x.direction = none) :
    (u.walkedTo w read attention landed (x :: rest)).walkStep (w.walkedTo u.cache read landed (x :: rest)) x rest line r =
      u.walkedTo w (read ++ [x.reached])
        ((suspenseItem u.cache w.copies w.book x x.reached).elim attention attention.raise)
        (landingOf u.cache w.copies x x.reached :: landed) rest := by
  obtain ⟨record, isSome, step⟩ := State.walkStep_of_hit (w := w) read attention landed rest h
  rw [step, suspenseItem, landingOf, ← isSome]
  rcases record with _ | y
  · rfl
  · exact State.walkOn_of_end (u.walkedTo w (read ++ [x.reached]) attention landed (x :: rest)) _ rest (stays isSome.symm) y

end

end Sys2Proof.Machine
end

section
/-! ## The Settlement Unit's turns from walk to walk (O60) -/

namespace Sys2Proof.Machine

/-- A book's walks are under way, or to begin, and every other unit rests. -/
structure State.settlesBook (u : State) (w : Work) (b : Book) : Prop where
  others : u.othersRest
  stage : w.stage = .walking
  named : u.book w.book = some b
  settling : b.state = .settling
  oldest : u.oldestOpen = some b
  ready : u.port.state = .ready
  notAwaiting : u.activation.phase ≠ .awaitQuiet
  notChecking : u.activation.phase ≠ .checking
  noMarking : u.activation.marking = []

section
variable {s : State} {w : Work} {b : Book} (hw : s.work = some w) (hb : s.book w.book = some b)
  (settling : b.state = .settling) (stage : w.stage = .walking)
include hw hb settling stage

/-- With an aim left to walk, the Settlement Unit's turn is a step of its walk (R112). -/
theorem State.settleTurn_of_aim {x : Aim} {rest : List Aim} (aims : w.aims = x :: rest) :
    s.settleTurn = (s.found x.reached).map fun y => s.walkStep w x rest y.1 y.2 := by
  simp only [State.settleTurn, hw, hb, settling, stage, aims, bne_self_eq_false, Bool.false_eq_true, if_false]

/-- When every walk has ended, the Settlement Unit's turn ends the settling (R103). -/
theorem State.settleTurn_of_noAim (aims : w.aims = []) : s.settleTurn = some (s.finishSettling w b) := by
  simp only [State.settleTurn, hw, hb, settling, stage, aims, bne_self_eq_false, Bool.false_eq_true, if_false]

end

/-- A link leads a walk from one account to another (R112). -/
def linkFollows (t : TableSet) (x : Aim) (i j : Nat) : Prop :=
  i < 192 ∧ ∃ r, (t.entry i).redirect = some r ∧ linkCovers r x.direction ∧ r.target = j

theorem nextLink_of_follows {t : TableSet} {x : Aim} {i j : Nat} (h : linkFollows t x i j) :
    nextLink t i x.direction = some j := by
  obtain ⟨participant, r, link, covered, rfl⟩ := h
  exact nextLink_of_covered participant link covered

/-- A walk comes from its aim to an account along up to four links that cover it, through accounts it takes for whole
(R112). -/
def walkReaches (t : TableSet) (c : Cache) (cs : Copies) (x : Aim) (chain : List Nat) (i : Nat) : Prop :=
  chain.length ≤ 4 ∧ (chain ++ [i]).head? = some x.reached ∧ (∀ a ∈ chain, readsWhole c cs x a = true) ∧
  ∀ n a d, (chain ++ [i])[n]? = some a → (chain ++ [i])[n + 1]? = some d → linkFollows t x a d

/-- A walk ends at an account: it comes there, finds it, and goes no further if it takes it for whole (R112, R113). -/
def walkEnds (t : TableSet) (c : Cache) (cs : Copies) (x : Aim) (chain : List Nat) (last : Nat) : Prop :=
  walkReaches t c cs x chain last ∧ c.hit last ≠ none ∧
  (readsWhole c cs x last = true → ∀ r, (t.entry last).redirect = some r → ¬linkCovers r x.direction)

/-- All the accounts that some walks read, in order. -/
def readsOf (chain : Aim → List Nat) (last : Aim → Nat) (aims : List Aim) : List Nat :=
  aims.flatMap fun x => chain x ++ [last x]

/-- Where some walks land their amounts, the latest first. -/
def landingsOf (c : Cache) (cs : Copies) (last : Aim → Nat) (aims : List Aim) : List (Nat × Int) :=
  (aims.map fun x => landingOf c cs x (last x)).reverse

/-- The Attention List after some walks: an item for each diverted to SUSPENSE, in order (R112; log 17). -/
def AttentionList.afterWalks (l : AttentionList) (c : Cache) (cs : Copies) (book : Nat) (last : Aim → Nat)
    (aims : List Aim) : AttentionList :=
  (aims.filterMap fun x => suspenseItem c cs book x (last x)).foldl AttentionList.raise l

theorem AttentionList.afterWalks_cons (l : AttentionList) (c : Cache) (cs : Copies) (book : Nat) (last : Aim → Nat)
    (x : Aim) (aims : List Aim) :
    l.afterWalks c cs book last (x :: aims) =
      ((suspenseItem c cs book x (last x)).elim l l.raise).afterWalks c cs book last aims := by
  rcases h : suspenseItem c cs book x (last x) with _ | e <;> simp [AttentionList.afterWalks, h]

namespace State.settlesBook

variable {u : State} {w : Work} {b : Book} (h : u.settlesBook w b)
include h

/-- The other units rest on throughout the walks. -/
theorem walkedTo_othersRest (read : List Nat) (attention : AttentionList) (landed : List (Nat × Int)) (aims : List Aim) :
    (u.walkedTo w read attention landed aims).othersRest :=
  h.others.congr rfl rfl rfl rfl rfl (fun _ => rfl)
    (State.commitMoment_of_phase (s := u.walkedTo w read attention landed aims) h.notAwaiting)

/-- The Settlement Unit's turn with an aim left to walk: a step of its walk, where the cache holds the account. -/
theorem settleTurn_walkedTo (read : List Nat) (attention : AttentionList) (landed : List (Nat × Int)) (x : Aim)
    (rest : List Aim) :
    (u.walkedTo w read attention landed (x :: rest)).settleTurn =
      (u.cache.hit x.reached).map fun y =>
        (u.walkedTo w read attention landed (x :: rest)).walkStep (w.walkedTo u.cache read landed (x :: rest)) x rest
          y.1 y.2 := by
  have found : (u.walkedTo w read attention landed (x :: rest)).found x.reached = u.cache.hit x.reached :=
    (State.found_eq_hit ..).trans (Cache.hit_readAll ..)
  rw [← found]
  exact State.settleTurn_of_aim (s := u.walkedTo w read attention landed (x :: rest))
    (w := w.walkedTo u.cache read landed (x :: rest)) rfl h.named h.settling h.stage rfl

/-- A walk comes along its chain, one turn for each account of it. -/
theorem turns_of_reaches {x : Aim} {chain : List Nat} {i : Nat}
    (reaches : walkReaches u.active u.cache w.copies x chain i) (read : List Nat) (attention : AttentionList)
    (landed : List (Nat × Int)) (rest : List Aim) :
    State.takesTurns chain.length (u.walkedTo w read attention landed (x :: rest))
      (u.walkedTo w (read ++ chain) attention landed ({ x with reached := i } :: rest)) := by
  induction chain generalizing x read with
  | nil =>
    obtain ⟨-, here, -⟩ := reaches
    obtain rfl : i = x.reached := by simpa using here
    rw [List.append_nil]
    rfl
  | cons a chain ih =>
    obtain ⟨short, here, whole, links⟩ := reaches
    obtain rfl : a = x.reached := by simpa using here
    obtain ⟨d, next⟩ : ∃ d, (chain ++ [i]).head? = some d := by
      rcases chain with _ | ⟨d, more⟩
      · exact ⟨i, rfl⟩
      · exact ⟨d, rfl⟩
    have link : nextLink u.active x.reached x.direction = some d := by
      refine nextLink_of_follows (links 0 x.reached d rfl ?_)
      rw [← next, List.head?_eq_getElem?]
      rfl
    have wholeHere := whole x.reached List.mem_cons_self
    obtain ⟨line, r, hit⟩ := hit_of_readsWhole wholeHere
    have step : (u.walkedTo w read attention landed (x :: rest)).settleTurn =
        some (u.walkedTo w (read ++ [x.reached]) attention landed ({ x with reached := d } :: rest)) := by
      rw [h.settleTurn_walkedTo, hit]
      exact congrArg some (State.walkStep_of_link read attention landed rest hit wholeHere link)
    have onward : walkReaches u.active u.cache w.copies { x with reached := d } chain i :=
      ⟨(Nat.le_succ _).trans short, next, fun a ha => whole a (List.mem_cons_of_mem _ ha), fun n a d ha hd => links (n + 1) a d ha hd⟩
    have turns := ih onward (read ++ [x.reached])
    rw [List.append_assoc] at turns
    exact ⟨_, (h.walkedTo_othersRest ..).first_turn step, turns⟩

/-- A walk that ends takes one turn more, in which its amount lands. -/
theorem turns_of_ends {x : Aim} {chain : List Nat} {last : Nat}
    (ends : walkEnds u.active u.cache w.copies x chain last) (read : List Nat) (attention : AttentionList)
    (landed : List (Nat × Int)) (rest : List Aim) :
    State.takesTurns (chain.length + 1) (u.walkedTo w read attention landed (x :: rest))
      (u.walkedTo w (read ++ (chain ++ [last])) ((suspenseItem u.cache w.copies w.book x last).elim attention attention.raise)
        (landingOf u.cache w.copies x last :: landed) rest) := by
  obtain ⟨reaches, found, stays⟩ := ends
  obtain ⟨⟨line, r⟩, hit⟩ := Option.ne_none_iff_exists'.1 found
  refine (h.turns_of_reaches reaches read attention landed rest).trans (.one ((h.walkedTo_othersRest ..).first_turn ?_))
  rw [h.settleTurn_walkedTo, ← List.append_assoc]
  rw [show u.cache.hit ({ x with reached := last } : Aim).reached = some (line, r) from hit]
  exact congrArg some (State.walkStep_of_end (x := { x with reached := last }) (read ++ chain) attention landed rest hit
    fun whole => nextLink_of_uncovered (stays whole))

/-- Walks that end, one after another: at most five turns for each whose chain has up to four links. -/
theorem turns_of_allEnd {chain : Aim → List Nat} {last : Aim → Nat} {before : List Aim}
    (ends : ∀ x ∈ before, walkEnds u.active u.cache w.copies x (chain x) (last x)) (read : List Nat)
    (attention : AttentionList) (landed : List (Nat × Int)) (rest : List Aim) :
    ∃ n ≤ 5 * before.length,
      State.takesTurns n (u.walkedTo w read attention landed (before ++ rest))
        (u.walkedTo w (read ++ readsOf chain last before) (attention.afterWalks u.cache w.copies w.book last before)
          (landingsOf u.cache w.copies last before ++ landed) rest) := by
  induction before generalizing read attention landed with
  | nil =>
    refine ⟨0, Nat.le_refl 0, ?_⟩
    rw [readsOf, List.flatMap_nil, List.append_nil]
    rfl
  | cons x more ih =>
    have first := h.turns_of_ends (ends x List.mem_cons_self) read attention landed (more ++ rest)
    obtain ⟨n, bound, turns⟩ := ih
      (fun y hy => ends y (List.mem_cons_of_mem x hy)) (read ++ (chain x ++ [last x]))
      ((suspenseItem u.cache w.copies w.book x (last x)).elim attention attention.raise)
      (landingOf u.cache w.copies x (last x) :: landed)
    refine ⟨(chain x).length + 1 + n, ?_, ?_⟩
    · have := (ends x List.mem_cons_self).1.1
      rw [List.length_cons]
      omega
    · have landings : landingsOf u.cache w.copies last (x :: more) ++ landed =
          landingsOf u.cache w.copies last more ++ (landingOf u.cache w.copies x (last x) :: landed) := by
        simp [landingsOf]
      rw [AttentionList.afterWalks_cons, landings, readsOf, List.flatMap_cons, ← List.append_assoc]
      exact first.trans turns

end State.settlesBook

end Sys2Proof.Machine
end

section
/-! ## The event in which the walks of a book end or wait (O60) -/

namespace Sys2Proof.Machine

/-! ### A book that has entered POSTING (R106, R116, R117) -/

/-- A settling that is done leaves the Settlement Unit without a turn. -/
theorem State.settleTurn_of_done {s : State} {w : Work} (hw : s.work = some w) (stage : w.stage = .done) :
    s.settleTurn = none := by
  simp only [State.settleTurn, hw, stage]
  rcases s.book w.book with _ | b
  · rfl
  · exact ite_self none

/-- In JOURNAL the Posting Unit asks for the write of its next entry (R116). -/
theorem State.postWant_of_entry {s : State} {start : Nat} {i : Image} (phase : s.posting.phase = .journal)
    (book : s.posting.book = some start) (entry : s.posting.images[s.posting.cursor]? = some i) :
    s.postWant = some (.journalEntry .posting s.posting.cursor i) := by
  simp only [State.postWant, phase, book, entry]

/-- When every entry is written, it asks for the write of the header (R117). -/
theorem State.postWant_of_header {s : State} {start : Nat} (phase : s.posting.phase = .journal)
    (book : s.posting.book = some start) (written : s.posting.images[s.posting.cursor]? = none) :
    s.postWant = some (.journalHeader .posting
      { s.port.copy with journal := .bookReady, book := some start, count := s.posting.images.length }) := by
  simp only [State.postWant, phase, book, written]

section
variable {s : State} {w : Work} {b : Book}

/-- A book held or posting in the place of the oldest keeps every book out of SETTLING. -/
theorem State.admissible_of_updated {t : State} {f : Book → Book} (named : s.book b.start = some b)
    (oldest : s.oldestOpen = some b) (still : (f b).isFinal = false) (state : (f b).state ≠ .waiting)
    (books : t.books = (s.updateBook b.start f).books) : t.admissible = none := by
  have first : t.oldestOpen = some (f b) := by
    rw [State.oldestOpen, books]
    exact State.updateBook_oldestOpen named oldest still
  exact State.admissible_of_oldest first state

namespace State.othersRest

variable (h : s.othersRest) (hq : s.activation.phase ≠ .awaitQuiet) (hc : s.activation.phase ≠ .checking)
  (hm : s.activation.marking = []) (named : s.book b.start = some b) (oldest : s.oldestOpen = some b)
include h hq hc hm named oldest

/-- A book HELD leaves no unit a turn and nobody a request. -/
theorem bookHeld_still (f : Figures) (reason : HoldReason) (account : Nat) :
    (s.bookHeld b f reason account).turn = none ∧
      (s.bookHeld b f reason account).grant = s.bookHeld b f reason account := by
  have others : (s.bookHeld b f reason account).othersRest :=
    h.congr rfl rfl rfl rfl rfl (fun _ => rfl) (State.commitMoment_of_phase (s := s.bookHeld b f reason account) hq)
  have unadmitted : (s.bookHeld b f reason account).admissible = none :=
    State.admissible_of_updated (f := fun x => { x with state := .held, holdReason := some reason, figures := some f }) named
      oldest rfl BookState.noConfusion rfl
  exact ⟨others.turn_of_none rfl hc hm unadmitted, State.grant_of_none (others.want_of_none rfl hc hm)⟩

/-- A book that has entered POSTING waits for the port. -/
theorem bookPosting_turn : (s.bookPosting w b).turn = none := by
  have notQuiesced : (s.bookPosting w b).isQuiesced = false := h.notQuiesced
  have sequence : (s.bookPosting w b).sequence = .none := h.noSequence
  have settle : (s.bookPosting w b).settleTurn = none := State.settleTurn_of_done rfl rfl
  have post : (s.bookPosting w b).postTurn = none := rfl
  have check : (s.bookPosting w b).checkTurn = none := State.checkTurn_of_notChecking hc
  have mark : (s.bookPosting w b).markTurn = none := State.markTurn_of_nil hm
  have unadmitted : (s.bookPosting w b).admissible = none :=
    State.admissible_of_updated (f := fun x => { x with state := .posting, figures := some w.figures }) named oldest rfl
      BookState.noConfusion rfl
  have command : (s.bookPosting w b).commandOrBookTurn = none := by
    simp only [State.commandOrBookTurn, unadmitted,
      State.commandTurn_of_done (show (s.bookPosting w b).commandDone = true from h.commandDone)]
  have commit : (s.bookPosting w b).commitTurn = none := by
    simp [State.commitTurn, State.commitMoment_of_phase (s := s.bookPosting w b) hq]
  have notice : (s.bookPosting w b).noticeTurn = none := State.noticeTurn_of_none h.noNotice
  simp only [State.turn, notQuiesced, sequence, settle, post, check, mark, command, commit, notice, Bool.false_eq_true,
    if_false]
  rfl

omit hq hc hm named oldest in
/-- What the Posting Unit asks for is granted first. -/
theorem bookPosting_grant (ready : s.port.state = .ready) {o : PortOp} (want : (s.bookPosting w b).postWant = some o) :
    (s.bookPosting w b).grant = (s.bookPosting w b).beginOp o := by
  have notQuiesced : (s.bookPosting w b).isQuiesced = false := h.notQuiesced
  have sequence : (s.bookPosting w b).sequence = .none := h.noSequence
  have startup : (s.bookPosting w b).port.startupWant = none := by
    simp only [MemoryPort.startupWant, show (s.bookPosting w b).port.startup = .idle from h.noStartup]
  have memory : (s.bookPosting w b).memoryReady = true := by
    rw [State.memoryReady, show (s.bookPosting w b).port.state = .ready from ready]
    rfl
  have settle : (s.bookPosting w b).settleWant = none := rfl
  have unit : (s.bookPosting w b).unitWant = some (.op o) := by
    simp only [State.unitWant, memory, sequence, settle, want]
    rfl
  refine State.grant_of_op h.freePort ?_
  simp only [State.want, notQuiesced, sequence, startup, unit, Bool.false_eq_true, if_false]
  rfl

end State.othersRest

/-- The grant of a book that has entered POSTING with entries: its first (R116). -/
theorem State.othersRest.bookPosting_grant_entry (h : s.othersRest) (ready : s.port.state = .ready) {first : Image}
    {more : List Image} (images : (s.bookPosting w b).posting.images = first :: more) :
    (s.bookPosting w b).grant = (s.bookPosting w b).onPort (.journalEntry .posting 0 first) :=
  h.bookPosting_grant ready (State.postWant_of_entry rfl rfl (by rw [images]; rfl))

/-- The grant of a book that has entered POSTING without entries: its header (R117). -/
theorem State.othersRest.bookPosting_grant_header (h : s.othersRest) (ready : s.port.state = .ready) {copy : Header}
    (header : s.port.header = some copy) (images : (s.bookPosting w b).posting.images = []) :
    (s.bookPosting w b).grant =
      ({ s.bookPosting w b with posting := { (s.bookPosting w b).posting with phase := .apply } } : State).onPort
        (.journalHeader .posting { copy with journal := .bookReady, book := some b.start, count := 0 }) := by
  have held : (s.bookPosting w b).port.copy = copy := by
    rw [MemoryPort.copy, show (s.bookPosting w b).port.header = some copy from header]
    rfl
  rw [h.bookPosting_grant ready (State.postWant_of_header rfl rfl (by rw [images]; rfl)), held, images]
  rfl

end

/-! ### The end of the event -/

namespace State.settlesBook

variable {u : State} {w : Work} {b : Book} (h : u.settlesBook w b)
include h

theorem start : b.start = w.book := State.start_of_book h.named

/-- Where the cache misses the account a walk has reached, its fill is granted and the walk waits (R112, step 1). -/
theorem walkedTo_of_miss {x : Aim} (miss : u.cache.lookup x.reached = .miss) (read : List Nat) (attention : AttentionList)
    (landed : List (Nat × Int)) (rest : List Aim) {free : Nat} (victim : (u.cache.readAll read).victim none = some free) :
    (u.walkedTo w read attention landed (x :: rest)).turn = none ∧
      (u.walkedTo w read attention landed (x :: rest)).grant =
        ({ u.walkedTo w read attention landed (x :: rest) with cache := (u.cache.readAll read).drop free } : State).onPort
          (.fill .settlement x.reached free (dirtyRecord ((u.cache.readAll read).line free))) := by
  have others := h.walkedTo_othersRest read attention landed (x :: rest)
  have settle : (u.walkedTo w read attention landed (x :: rest)).settleTurn = none := by
    rw [h.settleTurn_walkedTo, show u.cache.hit x.reached = none by rw [Cache.hit, miss]]
    rfl
  have unadmitted : (u.walkedTo w read attention landed (x :: rest)).admissible = none :=
    State.admissible_of_oldest (s := u.walkedTo w read attention landed (x :: rest)) h.oldest
      (by rw [h.settling]; exact BookState.noConfusion)
  have want : (u.walkedTo w read attention landed (x :: rest)).settleWant = some x.reached := by
    have needs : (w.walkedTo u.cache read landed (x :: rest)).needs = some x.reached := by
      rw [Work.needs, show (w.walkedTo u.cache read landed (x :: rest)).stage = .walking from h.stage]
      rfl
    exact needs
  refine ⟨?_, others.grant_of_settlement h.ready want victim⟩
  rw [others.turn_eq, settle, State.checkTurn_of_notChecking (s := u.walkedTo w read attention landed (x :: rest)) h.notChecking,
    State.markTurn_of_nil (s := u.walkedTo w read attention landed (x :: rest)) h.noMarking, unadmitted]
  rfl

/-- When every walk has ended, the book is HELD, or POSTING with its first write granted (R101, R104 to R106, R116). -/
theorem walkedTo_of_ended (read : List Nat) (attention : AttentionList) (landed : List (Nat × Int)) {t : State}
    (ht : (u.walkedTo w read attention landed []).finishSettling (w.walkedTo u.cache read landed []) b = t) :
    (u.walkedTo w read attention landed []).turn = some t ∧ t.turn = none ∧
    (t.work = none → t.grant = t) ∧
    (∀ first more, t.work ≠ none → t.posting.images = first :: more →
      t.grant = t.onPort (.journalEntry .posting 0 first)) ∧
    (∀ copy, t.work ≠ none → t.posting.images = [] → u.port.header = some copy →
      t.grant = ({ t with posting := { t.posting with phase := .apply } } : State).onPort
        (.journalHeader .posting { copy with journal := .bookReady, book := some b.start, count := 0 })) := by
  have others := h.walkedTo_othersRest read attention landed []
  have named : (u.walkedTo w read attention landed []).book b.start = some b := by
    rw [h.start]
    exact h.named
  have oldest : (u.walkedTo w read attention landed []).oldestOpen = some b := h.oldest
  have settle : (u.walkedTo w read attention landed []).settleTurn = some t := by
    rw [← ht]
    exact State.settleTurn_of_noAim (s := u.walkedTo w read attention landed [])
      (w := w.walkedTo u.cache read landed []) rfl h.named h.settling h.stage rfl
  refine ⟨others.first_turn settle, ?_⟩
  rcases State.finishSettling_cases (u.walkedTo w read attention landed []) (w.walkedTo u.cache read landed []) b with
    ⟨reason, a, held⟩ | posting
  · obtain ⟨still, ungranted⟩ :=
      others.bookHeld_still h.notAwaiting h.notChecking h.noMarking named oldest (w.walkedTo u.cache read landed []).figures
        reason a
    obtain rfl := held.symm.trans ht
    exact ⟨still, fun _ => ungranted, fun _ _ some => absurd rfl some, fun _ some => absurd rfl some⟩
  · obtain rfl := posting.symm.trans ht
    exact ⟨others.bookPosting_turn h.notAwaiting h.notChecking h.noMarking named oldest, nofun,
      fun _ _ _ images => others.bookPosting_grant_entry h.ready images,
      fun _ _ images header => others.bookPosting_grant_header h.ready header images⟩

variable {start : State} {k : Nat} (began : State.takesTurns k start (u.walkedTo w [] u.attention w.landed w.aims))
  (soon : k ≤ 2) (few : w.aims.length ≤ 384) {chain : Aim → List Nat} {last : Aim → Nat}
include began soon few

/-- The event in which a walk comes to an account that the cache does not hold. -/
theorem drive_of_miss {before after : List Aim} {x : Aim} {part : List Nat} {i free : Nat}
    (aims : w.aims = before ++ x :: after)
    (ends : ∀ y ∈ before, walkEnds u.active u.cache w.copies y (chain y) (last y))
    (reaches : walkReaches u.active u.cache w.copies x part i) (miss : u.cache.lookup i = .miss)
    (victim : (u.cache.readAll (readsOf chain last before ++ part)).victim none = some free) :
    start.drive =
      ({ u.walkedTo w (readsOf chain last before ++ part) (u.attention.afterWalks u.cache w.copies w.book last before)
          (landingsOf u.cache w.copies last before ++ w.landed) ({ x with reached := i } :: after) with
         cache := (u.cache.readAll (readsOf chain last before ++ part)).drop free } : State).onPort
        (.fill .settlement i free (dirtyRecord ((u.cache.readAll (readsOf chain last before ++ part)).line free))) := by
  obtain ⟨n, bound, turns⟩ := h.turns_of_allEnd ends [] u.attention w.landed (x :: after)
  have onward := h.turns_of_reaches reaches ([] ++ readsOf chain last before)
    (u.attention.afterWalks u.cache w.copies w.book last before) (landingsOf u.cache w.copies last before ++ w.landed) after
  have partShort := reaches.1
  rw [aims] at began few
  rw [List.length_append] at few
  obtain ⟨still, granted⟩ := h.walkedTo_of_miss (x := { x with reached := i }) miss _
    (u.attention.afterWalks u.cache w.copies w.book last before) (landingsOf u.cache w.copies last before ++ w.landed) after
    victim
  exact (((began.trans turns).trans onward).drive_eq (by omega) still).trans granted

/-- The event in which the last walk ends. -/
theorem drive_of_ended
    (ends : ∀ y ∈ w.aims, walkEnds u.active u.cache w.copies y (chain y) (last y)) {t : State}
    (ht : (u.walkedTo w (readsOf chain last w.aims) (u.attention.afterWalks u.cache w.copies w.book last w.aims)
        (landingsOf u.cache w.copies last w.aims ++ w.landed) []).finishSettling
      (w.walkedTo u.cache (readsOf chain last w.aims) (landingsOf u.cache w.copies last w.aims ++ w.landed) []) b = t) :
    start.drive = t.grant := by
  obtain ⟨n, bound, turns⟩ := h.turns_of_allEnd ends [] u.attention w.landed []
  rw [List.append_nil] at turns
  obtain ⟨finish, still, -⟩ := h.walkedTo_of_ended _ _ _ ht
  exact ((began.trans turns).trans (.one finish)).drive_eq (by omega) still

end State.settlesBook

end Sys2Proof.Machine
end

section
/-! ## The money totals, whole (O60) -/

namespace Sys2Proof.Machine

/-! ### From the last read to the walks (R35, R91, R92 to R102) -/

/-- The CLAMPED items of some rows, in their order (R35; log 17). -/
def clampedItems (rows : List MemberRow) : List Attention :=
  rows.filterMap fun r => r.clamped.map fun x => Attention.clamped r.index x.1 x.2.1 x.2.2

theorem State.raiseClamped_eq (s : State) (rows : List MemberRow) :
    s.raiseClamped rows = { s with attention := (clampedItems rows).foldl AttentionList.raise s.attention } := by
  unfold State.raiseClamped
  induction rows generalizing s with
  | nil => rfl
  | cons r rest ih =>
    rw [List.foldl_cons, ih]
    rcases clamped : r.clamped with _ | ⟨e, i, a⟩
    · simp only [clampedItems, List.filterMap_cons, clamped, Option.map_none]
    · simp only [clampedItems, List.filterMap_cons, clamped, Option.map_some, List.foldl_cons]
      rfl

/-- The work record with stages 1 to 6 computed and every amount aimed at its member (R92 to R103). -/
def Work.computed (w : Work) (copies : Copies) (rows : List MemberRow) : Work :=
  { w with copies := copies, toRead := [], stage := .walking, rows := rows, totals := some (totalsOf rows)
           aims := rows.flatMap aimsOf }

/-- When the reads of steps 1 and 2 are complete, the Settlement Unit's turn computes the stages. -/
theorem State.settleTurn_of_allRead {s : State} {w : Work} {b : Book} {k : Capture} (hw : s.work = some w)
    (hb : s.book w.book = some b) (settling : b.state = .settling) (stage : w.stage = .reading) (read : w.toRead = [])
    (captured : b.capture = some k) :
    s.settleTurn =
      some { s with
        attention := (clampedItems (settleRows s.active b k w.copies)).foldl AttentionList.raise s.attention
        work := some (w.computed w.copies (settleRows s.active b k w.copies)) } := by
  simp only [State.settleTurn, hw, hb, settling, stage, read, bne_self_eq_false, Bool.false_eq_true, if_false]
  simp only [State.computeStages, captured, Option.getD_some, State.raiseClamped_eq, Work.computed, read]
  rfl

section
variable {s : State} {w : Work} {b : Book} {a line : Nat} {victim : Option (Nat × AccountRecord)}

/-- The fill of a settling that the other units let go on. -/
structure State.fillsSettling (s : State) (w : Work) (b : Book) (a line : Nat) (victim : Option (Nat × AccountRecord)) :
    Prop where
  inCache : line < 32
  miss : s.cache.find a = none
  op : s.port.inProgress = some (.fill .settlement a line victim)
  ready : s.port.state = .ready
  done : s.commandDone = true
  work : s.work = some w
  named : s.book w.book = some b
  settling : b.state = .settling
  oldest : s.oldestOpen = some b
  rest : ({ s with work := none, books := [], port := { s.port with inProgress := none } } : State).resting

namespace State.fillsSettling

variable (h : s.fillsSettling w b a line victim)
include h

/-- The completion of the fill, before the units' turns. -/
theorem exec_eq (returned : Option (List Byte)) :
    exec (.cacheFill returned) s =
      .next (s.filledBy .settlement a line victim (s.fillRead a victim returned)).drive := by
  rw [exec_cacheFill_quiet h.op returned h.rest.noNotice, State.endCut_of_done]
  exact h.done

variable {read : Option AccountRecord} (attention : AttentionList)

/-- With the line filled, the other units rest. -/
theorem othersRest : (s.filledBy .settlement a line victim read).othersRest :=
  (h.rest.othersRest h.done).congr rfl rfl rfl rfl rfl (fun _ => rfl)
    (State.commitMoment_of_phase (s := s.filledBy .settlement a line victim read) h.rest.unitsRest.notAwaiting)

/-- So the walks of the book can go on. -/
theorem settlesBook {w' : Work} (stage : w'.stage = .walking) (book : w'.book = w.book) :
    ({ s.filledBy .settlement a line victim read with attention := attention } : State).settlesBook w' b where
  others := (h.othersRest (read := read)).congr rfl rfl rfl rfl rfl (fun _ => rfl)
    (State.commitMoment_of_phase (s := { s.filledBy .settlement a line victim read with attention := attention })
      h.rest.unitsRest.notAwaiting)
  stage := stage
  named := by
    rw [book]
    exact h.named
  settling := h.settling
  oldest := h.oldest
  ready := h.ready
  notAwaiting := h.rest.unitsRest.notAwaiting
  notChecking := h.rest.unitsRest.notChecking
  noMarking := h.rest.unitsRest.noMarking

/-- The last read of R91: the record is copied, the stages are computed, and the walks begin. -/
theorem turns_of_reading {k : Capture} (captured : b.capture = some k) (stage : w.stage = .reading)
    (toRead : w.toRead = [a]) :
    let rows := settleRows s.active b k ((a, read) :: w.copies)
    let u : State := { s.filledBy .settlement a line victim read with
      attention := (clampedItems rows).foldl AttentionList.raise (s.filledBy .settlement a line victim read).attention }
    let w' := w.computed ((a, read) :: w.copies) rows
    State.takesTurns 2 (s.filledBy .settlement a line victim read) (u.walkedTo w' [] u.attention w'.landed w'.aims) := by
  intro rows u w'
  have filled : (s.filledBy .settlement a line victim read).cache.justFilled a line read :=
    Cache.fill_justFilled read h.inCache h.miss
  have copy := State.settleTurn_of_filled (s := s.filledBy .settlement a line victim read) filled h.work stage toRead h.named
    h.settling
  have rest : ((s.filledBy .settlement a line victim read).copied w a read []).othersRest :=
    (h.othersRest (read := read)).congr rfl rfl rfl rfl rfl (fun _ => rfl) (h.othersRest (read := read)).noCommit
  have compute := State.settleTurn_of_allRead (s := (s.filledBy .settlement a line victim read).copied w a read [])
    (w := { w with copies := (a, read) :: w.copies, toRead := [] }) rfl h.named h.settling stage rfl captured
  exact ⟨_, h.othersRest.first_turn copy, _, rest.first_turn compute, rfl⟩

/-- A fill that a walk waited for: the walks go on at once. -/
theorem turns_of_walking :
    State.takesTurns 0 (s.filledBy .settlement a line victim read)
      ((s.filledBy .settlement a line victim read).walkedTo w [] (s.filledBy .settlement a line victim read).attention
        w.landed w.aims) := by
  have work : (s.filledBy .settlement a line victim read).work = some (w.walkedTo s.cache [] w.landed w.aims) := h.work
  change s.filledBy .settlement a line victim read =
    { s.filledBy .settlement a line victim read with work := some (w.walkedTo s.cache [] w.landed w.aims) }
  rw [← work]

end State.fillsSettling

end

end Sys2Proof.Machine
end

section
/-! ### What the book's systems take, and what its records become (R100, R101, R104 to R106) -/

namespace Sys2Proof.Machine

/-- With nothing else landed on GRID, its balance changes by the grid debits less the grid credits (R101). -/
theorem netOn_grid {landed : List (Nat × Int)} (absent : ∀ l ∈ landed, l.1 ≠ 194) (f : Figures) :
    netOn (landed ++ systemLandings f) 194 = (f.gridDebits : Int) - f.gridCredits := by
  rw [netOn_append, netOn_of_absent absent, Int.zero_add]
  exact Int.add_zero _

/-- With nothing else landed on FUND, its balance changes by the residue (R101). -/
theorem netOn_fund {landed : List (Nat × Int)} (absent : ∀ l ∈ landed, l.1 ≠ 193) (f : Figures) :
    netOn (landed ++ systemLandings f) 193 = f.residue := by
  rw [netOn_append, netOn_of_absent absent, Int.zero_add]
  exact Int.add_zero _

/-- The totals of the work record are those of its figures (R93, R102). -/
theorem Work.figures_of_totals {w : Work} {t : Totals} (h : w.totals = some t) :
    w.figures = figuresFrom t w.rows := by
  rw [Work.figures, h]
  rfl

theorem isSome_goodCopy {c : Copies} {a : Nat} : (goodCopy c a).isSome = true ↔ ∃ r, c.lookup a = some (some r) := by
  simp only [Option.isSome_iff_exists, goodCopy_eq_some]

theorem goodCopy_eq_none_of_not {c : Copies} {a : Nat} (h : ¬∃ r, c.lookup a = some (some r)) : goodCopy c a = none :=
  goodCopy_eq_none.2 fun r hr => h ⟨r, hr⟩

/-- With one row for each index, the items of the change list are as R103 says. -/
theorem changeList_items {c : Copies} {rows : List MemberRow} {landed : List (Nat × Int)}
    (nodup : (rows.map MemberRow.index).Nodup) {i : ChangeItem} (h : i ∈ changeList c rows landed) :
    i.account < 196 ∧ i.net = netOn landed i.account ∧ (∀ r ∈ rows, r.index = i.account → i.baseline = r.baseline) ∧
    (i.net = 0 → i.read = none ∧ i.balance = none) ∧
    ∀ x, i.net ≠ 0 → c.lookup i.account = some (some x) → i.read = some x.balance ∧ i.balance = some (x.balance + i.net) := by
  obtain ⟨a, accounts, -, rfl⟩ := mem_changeList.1 h
  refine ⟨accounts, rfl, ?baseline, fun still => ⟨if_pos still, if_pos still⟩, fun x moved read => ?balance⟩
  case baseline =>
    rintro r hr rfl
    exact baselineOf_of_mem nodup hr
  case balance =>
    have good : goodCopy c a = some x := goodCopy_eq_some.2 read
    refine ⟨(if_neg moved).trans ?_, (if_neg moved).trans ?_⟩ <;> rw [good] <;> rfl

end Sys2Proof.Machine
end

section
/-! ### The walks in the model's terms, and the event (O60) -/

namespace Sys2Proof.Machine

/-- How an event that begins a book's walks, or goes on with them, ends: with a walk waiting for an account's fill, or
with the book HELD or POSTING (R101, R104 to R106, R112, R113, R116). -/
def State.walksOn (u : State) (w : Work) (b : Book)
    (event : Host.Outcome State Fault Refusal) : Prop :=
  w.aims.length ≤ 384 → ∀ (chain : Aim → List Nat) (last : Aim → Nat),
    (∀ before x after part i free, w.aims = before ++ x :: after →
      (∀ y ∈ before, walkEnds u.active u.cache w.copies y (chain y) (last y)) →
      walkReaches u.active u.cache w.copies x part i → u.cache.lookup i = .miss →
      let read := readsOf chain last before ++ part
      (u.cache.readAll read).victim none = some free →
      event = .next
        (({ u.walkedTo w read (u.attention.afterWalks u.cache w.copies w.book last before)
            (landingsOf u.cache w.copies last before ++ w.landed) ({ x with reached := i } :: after) with
           cache := (u.cache.readAll read).drop free } : State).onPort
          (.fill .settlement i free (dirtyRecord ((u.cache.readAll read).line free))))) ∧
    ((∀ y ∈ w.aims, walkEnds u.active u.cache w.copies y (chain y) (last y)) →
      let settled := w.walkedTo u.cache (readsOf chain last w.aims) (landingsOf u.cache w.copies last w.aims ++ w.landed) []
      let t := (u.walkedTo w (readsOf chain last w.aims) (u.attention.afterWalks u.cache w.copies w.book last w.aims)
        (landingsOf u.cache w.copies last w.aims ++ w.landed) []).finishSettling settled b
      (t.work = none → event = .next t) ∧
      (∀ first more, t.work ≠ none → t.posting.images = first :: more →
        event = .next (t.onPort (.journalEntry .posting 0 first))) ∧
      (∀ copy, t.work ≠ none → t.posting.images = [] → u.port.header = some copy →
        event = .next (({ t with posting := { t.posting with phase := .apply } } : State).onPort
          (.journalHeader .posting { copy with journal := .bookReady, book := some b.start, count := 0 }))))

/-- Once the walks can go on, the event ends so. -/
theorem State.settlesBook.walksOn {u start : State} {w : Work} {b : Book} {k : Nat} (h : u.settlesBook w b)
    (began : State.takesTurns k start (u.walkedTo w [] u.attention w.landed w.aims)) (soon : k ≤ 2)
    {event : Host.Outcome State Fault Refusal} (drives : event = .next start.drive) : u.walksOn w b event := by
  subst drives
  intro few chain last
  refine ⟨fun before x after part i free aims ends reaches miss victim => ?waits, fun ends => ?ended⟩
  case waits => exact congrArg _ (h.drive_of_miss began soon few aims ends reaches miss victim)
  case ended =>
    intro settled t
    have event : start.drive = t.grant := h.drive_of_ended began soon few ends rfl
    obtain ⟨-, -, held, entry, header⟩ := h.walkedTo_of_ended (t := t) _ _ _ rfl
    rw [event]
    exact ⟨fun done => congrArg _ (held done), fun first more going images => congrArg _ (entry first more going images),
      fun copy going images same => congrArg _ (header copy going images same)⟩

end Sys2Proof.Machine
end

section
namespace Sys2Proof.Machine

/-- Settles O60: the walks are taken turn by turn, and the turn after the last ends the settling. -/
theorem moneyTotalsAreWrittenWhateverTheOutcome : Obligations.MoneyTotalsAreWrittenWhateverTheOutcome := by
  refine ⟨?figures, ?totals, ?walk, ?changes, ?ends, ?residue, ?aims, ?event⟩
  case figures =>
    intro s w b named across f
    refine ⟨rfl, rfl, rfl, rfl, rfl, State.finishSettling_book named, fun absent => ⟨?_, ?_⟩⟩
    · exact netOn_grid (fun l hl => (absent l hl).2) f
    · exact netOn_fund (fun l hl => (absent l hl).1) f
  case totals =>
    intro w t totals
    rw [Work.figures_of_totals totals]
    exact ⟨rfl, rfl, rfl, rfl, rfl, rfl⟩
  case walk =>
    intro s w a rest amount lands covers
    refine ⟨State.walkOn_of_damaged s w a rest, fun x r participant link covered => ?follows, fun x uncovered => ?stays⟩
    case follows => exact State.walkOn_of_link s w rest (nextLink_of_covered participant link covered) x
    case stays => exact State.walkOn_of_end s w rest (nextLink_of_uncovered uncovered) x
  case changes =>
    intro c rows landed nodup list net
    refine ⟨changeList_ascending, fun a accounts => ?_, fun i hi => changeList_items nodup hi⟩
    refine Iff.trans ?_ (changes_iff nodup)
    constructor
    · rintro ⟨i, hi, rfl⟩
      obtain ⟨d, -, changed, rfl⟩ := mem_changeList.1 hi
      exact changed
    · intro changed
      exact ⟨_, mem_changeList.2 ⟨a, accounts, changed, rfl⟩, rfl⟩
  case ends =>
    intro s w b f changes good out held
    refine ⟨fun a low high damaged first => ?damaged, fun whole => ?whole⟩
    case damaged =>
      exact State.finishSettling_of_damaged (damagedSystem_of_first low high (goodCopy_eq_none_of_not damaged)
        fun x hx lower => isSome_goodCopy.2 (first x hx lower))
    case whole =>
      have noDamaged : damagedSystem w.copies = none :=
        damagedSystem_of_none fun x low high => isSome_goodCopy.2 (whole x low high)
      refine ⟨fun before i after split first exceeds => ?range, fun within => ?posting⟩
      case range =>
        refine State.finishSettling_of_range noDamaged ?_
        rw [show w.changeItems = before ++ i :: after from split]
        exact outOfRange_of_first first exceeds
      case posting =>
        refine ⟨_, State.finishSettling_of_posting noDamaged (outOfRange_of_none within), List.length_map _,
          fun n i r item read => ?_⟩
        rw [List.getElem?_map, show w.changeItems[n]? = some i from item, Option.map_some, imageOf_eq read]
        rfl
  case residue =>
    intro t b k c nodup
    exact residue_bounds nodup
  case aims =>
    intro r aims
    rw [aimsOf_eq]
    refine ⟨fun group => ?_, fun group => ?_, fun group => ?_⟩ <;> rw [group] <;> rfl
  case event =>
    intro s w b k a line victim returned inCache miss op ready done work named settling captured oldest rest
      memory read filled copies covers follows stays goesOn
    rw [Book.open_eq] at oldest
    have fills : s.fillsSettling w b a line victim :=
      ⟨inCache, miss, op, ready, done, work, named, settling, oldest, rest⟩
    have drives : exec (.cacheFill returned) s = .next filled.drive := fills.exec_eq returned
    refine ⟨fun stage toRead => ?reading, fun stage => ?walking⟩
    case reading =>
      intro rows
      exact (fills.settlesBook (w' := w.computed copies rows) _ rfl rfl).walksOn
        (fills.turns_of_reading captured stage toRead) (Nat.le_refl 2)
        drives
    case walking =>
      exact (fills.settlesBook filled.attention stage rfl).walksOn fills.turns_of_walking (Nat.zero_le 2) drives

end Sys2Proof.Machine
end

section
/-! ## Account memory is written by completions and resets alone (O55): what the units leave of it -/

namespace Sys2Proof.Machine

/-! ### Steps that follow one another -/

/-- Steps that each leave account memory leave it together. -/
theorem foldl_memory {α : Type} {f : State → α → State} (h : ∀ s x, (f s x).memory = s.memory) (l : List α) (s : State) :
    (l.foldl f s).memory = s.memory := by
  induction l generalizing s with
  | nil => rfl
  | cons x rest ih => rw [List.foldl_cons, ih, h]

/-- A turn that leaves account memory as it was. -/
def turnKeepsMemory (s : State) (turn : Option State) : Prop := ∀ t, turn = some t → t.memory = s.memory

theorem turnKeepsMemory_none (s : State) : turnKeepsMemory s none := fun _ h => nomatch h

theorem turnKeepsMemory_some {s t : State} (h : t.memory = s.memory) : turnKeepsMemory s (some t) := by
  rintro _ ⟨⟩
  exact h

/-- The first of two turns that has something to do. -/
theorem turnKeepsMemory_orElse {s : State} {first : Option State} {second : Unit → Option State}
    (h : turnKeepsMemory s first) (h' : turnKeepsMemory s (second ())) : turnKeepsMemory s (first.orElse second) := by
  cases first with
  | none => exact h'
  | some t => exact h

section
variable (s : State)

/-! ### The Book List, the Day Clock and Snapshot Intake -/

@[simp] theorem State.countAbsence_memory (i : Nat) : (s.countAbsence i).memory = s.memory := by
  simp only [State.countAbsence]
  split <;> rfl

@[simp] theorem State.endCollection_memory : s.endCollection.memory = s.memory := by
  rw [State.endCollection]
  split
  · rfl
  · split
    · rfl
    · exact foldl_memory (fun s (m : Member) => s.countAbsence_memory m.index) _ s

@[simp] theorem State.takeBoundary_memory (start candidate : Nat) : (s.takeBoundary start candidate).memory = s.memory := by
  simp only [State.takeBoundary]
  split <;> simp only [State.endCollection_memory]

@[simp] theorem State.boundarySearch_memory : s.boundarySearch.1.memory = s.memory := by
  rw [State.boundarySearch]
  split
  · rfl
  · split
    · rfl
    · split
      · rfl
      · split
        · rfl
        · exact s.takeBoundary_memory _ _

@[simp] theorem State.serveDeadline_memory : s.serveDeadline.memory = s.memory := by
  rw [State.serveDeadline]
  split <;> simp only [State.endCollection_memory]

@[simp] theorem State.serveBoundary_memory : s.serveBoundary.memory = s.memory := by
  rw [State.serveBoundary]
  split <;> simp only [State.boundarySearch_memory]

@[simp] theorem State.compareReport_memory (i : Nat) (r : Report) (round : RoundNumber) :
    (s.compareReport i r round).memory = s.memory := by
  rw [State.compareReport]
  split
  · rfl
  · split
    · split
      · dsimp only
        split <;> simp
      · split <;> rfl
    · rfl

@[simp] theorem State.goodReport_memory (f : Feeder) (slot i : Nat) (r : Report) (round : RoundNumber) :
    (s.goodReport f slot i r round).memory = s.memory := by
  simp only [State.goodReport, State.compareReport_memory, State.setPort_memory]
  split <;> rfl

@[simp] theorem State.handReport_memory (f : Feeder) (slot : Nat) (outcome : SlotOutcome) (r : Report)
    (round : RoundNumber) : (s.handReport f slot outcome r round).memory = s.memory := by
  cases outcome
  case good =>
    simp only [State.handReport]
    split
    · exact s.goodReport_memory _ _ _ _ _
    · rfl
  all_goals rfl

/-! ### The feeder ports -/

@[simp] theorem State.endEnrolment_memory (f : Feeder) (ending : EnrolEnding) :
    (s.endEnrolment f ending).memory = s.memory := rfl

@[simp] theorem State.hearEnrolment_memory (f : Feeder) (q : QuietOutcome) :
    (s.hearEnrolment f q).memory = s.memory := by
  simp only [State.hearEnrolment]
  split
  · split <;> rfl
  · rfl

@[simp] theorem State.feederOff_memory (f : Feeder) : (s.feederOff f).memory = s.memory := by
  simp only [State.feederOff]
  split <;> rfl

@[simp] theorem State.actOnRestart_memory (f : Feeder) (keepHeld : Bool) : (s.actOnRestart f keepHeld).memory = s.memory := by
  simp only [State.actOnRestart]
  split
  · rfl
  · split <;> simp
  · split
    · simp
    · split <;> rfl
  · split
    · rfl
    · split <;> simp

@[simp] theorem State.commitFeeder_memory (f : Feeder) : (s.commitFeeder f).memory = s.memory := by
  rw [State.commitFeeder]
  split
  · split <;> rfl
  · rfl
  · split <;> simp

@[simp] theorem State.servePrefetch_memory (f : Feeder) (target : Nat) : (s.servePrefetch f target).memory = s.memory := by
  rw [State.servePrefetch]
  split <;> rfl

@[simp] theorem State.startPrefetch_memory (f : Feeder) (slotCount : Nat) :
    (s.startPrefetch f slotCount).memory = s.memory := by
  simp only [State.startPrefetch]
  split
  · rfl
  · split <;> simp

theorem State.noticeTurn_memory : turnKeepsMemory s s.noticeTurn := by
  intro t h
  obtain ⟨f, -, hf⟩ := List.exists_of_findSome?_eq_some h
  split at hf
  · split at hf
    · cases hf
    · cases hf
      exact s.servePrefetch_memory f _
  · cases hf

/-! ### The Activation Unit -/

@[simp] theorem State.failChecks_memory (f : CheckFailure) : (s.failChecks f).memory = s.memory := by
  simp [State.failChecks]

@[simp] theorem State.commit_memory : s.commit.memory = s.memory := by
  have running (t : State) : t.becomeRunning.memory = t.memory := by
    rw [State.becomeRunning]
    split <;> rfl
  simp only [State.commit, State.boundarySearch_memory, State.raise_memory, State.setActivation_memory, running,
    foldl_memory State.commitFeeder_memory]
  rfl

@[simp] theorem State.beginChecks_memory : s.beginChecks.memory = s.memory := by
  simp only [State.beginChecks]
  split <;> simp

theorem State.checkTurn_memory : turnKeepsMemory s s.checkTurn := by
  rw [State.checkTurn]
  split
  · exact turnKeepsMemory_none s
  · split
    · exact turnKeepsMemory_some s.commit_memory
    · split
      · dsimp only
        split <;> exact turnKeepsMemory_some (by simp)
      · exact turnKeepsMemory_some (by simp)
      · exact turnKeepsMemory_none s

theorem State.markTurn_memory : turnKeepsMemory s s.markTurn := by
  rw [State.markTurn]
  split
  · exact turnKeepsMemory_none s
  · split
    · exact turnKeepsMemory_none s
    · dsimp only
      split
      · split
        · exact turnKeepsMemory_none s
        · exact turnKeepsMemory_some rfl
      · exact turnKeepsMemory_some rfl
      · exact turnKeepsMemory_none s

/-! ### The Settlement Unit -/

@[simp] theorem State.raiseClamped_memory (rows : List MemberRow) : (s.raiseClamped rows).memory = s.memory :=
  foldl_memory (fun s r => by split <;> rfl) rows s

@[simp] theorem State.walkOn_memory (w : Work) (a : Aim) (rest : List Aim) (record : Option AccountRecord) :
    (s.walkOn w a rest record).memory = s.memory := by
  cases record with
  | none => rfl
  | some x =>
    simp only [State.walkOn]
    split <;> rfl

@[simp] theorem State.finishSettling_memory (w : Work) (b : Book) : (s.finishSettling w b).memory = s.memory := by
  simp only [State.finishSettling]
  split
  · rfl
  · split <;> rfl

theorem State.settleTurn_memory : turnKeepsMemory s s.settleTurn := by
  intro t h
  obtain ⟨w, b, -, -, -, ⟨-, reads | computes⟩ | ⟨-, walks | ends⟩⟩ := State.settleTurn_cases h
  · obtain ⟨_, _, _, _, -, -, rfl⟩ := reads
    rfl
  · obtain ⟨-, rfl⟩ := computes
    exact s.raiseClamped_memory _
  · obtain ⟨_, _, _, _, -, -, rfl⟩ := walks
    exact State.walkOn_memory _ _ _ _ _
  · obtain ⟨-, rfl⟩ := ends
    exact s.finishSettling_memory w b

/-! ### The Posting Unit -/

/-- A reconciliation pass (R120, R121). -/
@[simp] theorem State.reconcile_memory (concerned : List (Nat × Standing)) : (s.reconcile concerned).memory = s.memory := by
  obtain ⟨_, _, _, -, pass⟩ := s.reconcile_reconciled concerned
  rw [pass]

@[simp] theorem State.placeImage_memory (line : Nat) (i : Image) : (s.placeImage line i).memory = s.memory := by
  rw [State.placeImage, State.raiseArrears]
  split <;> rfl

theorem State.postTurn_memory : turnKeepsMemory s s.postTurn := by
  rw [State.postTurn]
  split
  · split
    · exact turnKeepsMemory_none s
    · split
      · split
        · exact turnKeepsMemory_none s
        · split
          · exact turnKeepsMemory_some (s.placeImage_memory _ _)
          · exact turnKeepsMemory_none s
      · exact turnKeepsMemory_some rfl
  · split
    · exact turnKeepsMemory_some rfl
    · exact turnKeepsMemory_none s
  · exact turnKeepsMemory_none s

@[simp] theorem State.bookPosted_memory (start : Nat) : (s.bookPosted start).memory = s.memory := by
  simp [State.bookPosted]

/-! ### The executing command -/

@[simp] theorem State.sweepEnd_memory (r : SweepRun) : (s.sweepEnd r).memory = s.memory := by
  simp only [State.sweepEnd]
  split <;> split <;> rfl

@[simp] theorem State.sweepAdvance_memory (r : SweepRun) : (s.sweepAdvance r).memory = s.memory := by
  rw [State.sweepAdvance]
  split <;> simp

@[simp] theorem State.sweepVisit_memory (r : SweepRun) (record : Option AccountRecord) (dirty : Bool) :
    (s.sweepVisit r record dirty).memory = s.memory := by
  simp only [State.sweepVisit]
  split <;> simp

@[simp] theorem State.scanEnd_memory (outcome : OutcomeClass) (detail : Nat) (r : ScanRun) (found : List Byte) :
    (s.scanEnd outcome detail r found).memory = s.memory := by
  rw [State.scanEnd]
  split <;> rfl

@[simp] theorem State.scanAdvance_memory (r : ScanRun) : (s.scanAdvance r).memory = s.memory := by
  rw [State.scanAdvance]
  split
  · simp
  · split <;> simp

@[simp] theorem State.scanCompare_memory (r : ScanRun) (x : AccountRecord) : (s.scanCompare r x).memory = s.memory := by
  rw [State.scanCompare]
  split <;> simp

@[simp] theorem State.transferDecide_memory (o : TransferOrder) (x y : AccountRecord) :
    (s.transferDecide o x y).memory = s.memory := by
  simp only [State.transferDecide, State.transferRefuse]
  split
  · rfl
  · split
    · rfl
    · split <;> rfl

theorem State.readAccountTurn_memory (account : Nat) : turnKeepsMemory s (s.readAccountTurn account) := by
  rw [State.readAccountTurn]
  split
  · exact turnKeepsMemory_some rfl
  · exact turnKeepsMemory_some rfl
  · exact turnKeepsMemory_none s

theorem State.sweepTurn_memory (r : SweepRun) : turnKeepsMemory s (s.sweepTurn r) := by
  rw [State.sweepTurn]
  split
  · exact turnKeepsMemory_none s
  · split
    · exact turnKeepsMemory_some (by simp)
    · exact turnKeepsMemory_some (by simp)
    · exact turnKeepsMemory_none s

theorem State.scanTurn_memory (r : ScanRun) : turnKeepsMemory s (s.scanTurn r) := by
  simp only [State.scanTurn]
  split
  · split <;> exact turnKeepsMemory_some (by simp)
  · split
    · exact turnKeepsMemory_some (by simp)
    · exact turnKeepsMemory_some (by simp)
    · split
      · exact turnKeepsMemory_none s
      · exact turnKeepsMemory_some rfl

theorem State.rebaseTurn_memory (i : Nat) : turnKeepsMemory s (s.rebaseTurn i) := by
  rw [State.rebaseTurn]
  split
  · exact turnKeepsMemory_some rfl
  · exact turnKeepsMemory_some rfl
  · exact turnKeepsMemory_none s

theorem State.payerTurn_memory (o : TransferOrder) : turnKeepsMemory s (s.payerTurn o) := by
  rw [State.payerTurn]
  split
  · exact turnKeepsMemory_some rfl
  · exact turnKeepsMemory_some rfl
  · exact turnKeepsMemory_none s

theorem State.payeeTurn_memory (o : TransferOrder) : turnKeepsMemory s (s.payeeTurn o) := by
  rw [State.payeeTurn]
  split
  · split
    · exact turnKeepsMemory_some (by simp)
    · exact turnKeepsMemory_some rfl
  · exact turnKeepsMemory_some rfl
  · exact turnKeepsMemory_none s

theorem State.transferWriteTurn_memory (o : TransferOrder) (images : List Image) (cursor : Nat) :
    turnKeepsMemory s (s.transferWriteTurn o images cursor) := by
  rw [State.transferWriteTurn]
  split
  · exact turnKeepsMemory_some rfl
  · split
    · split
      · exact turnKeepsMemory_none s
      · exact turnKeepsMemory_some rfl
    · exact turnKeepsMemory_some rfl

theorem State.repairTurn_memory (o : RepairOrder) : turnKeepsMemory s (s.repairTurn o) := by
  rw [State.repairTurn]
  split
  · exact turnKeepsMemory_some rfl
  · exact turnKeepsMemory_some rfl
  · exact turnKeepsMemory_none s

theorem State.flushTurn_memory (toWrite : List Nat) (count : Nat) : turnKeepsMemory s (s.flushTurn toWrite count) := by
  cases toWrite with
  | nil => exact turnKeepsMemory_some rfl
  | cons a rest =>
    simp only [State.flushTurn]
    split <;> split
    · exact turnKeepsMemory_none s
    · exact turnKeepsMemory_some rfl
    · exact turnKeepsMemory_none s
    · exact turnKeepsMemory_some rfl

theorem State.initTurn_memory : turnKeepsMemory s s.initTurn := by
  rw [State.initTurn]
  split
  · exact turnKeepsMemory_some rfl
  · exact turnKeepsMemory_none s

/-- A command that waits for the books goes on once its wait is over. -/
theorem turnKeepsMemory_wait (waits : Bool) {t : State} (h : t.memory = s.memory) :
    turnKeepsMemory s (if waits then none else some t) := by
  split
  · exact turnKeepsMemory_none s
  · exact turnKeepsMemory_some h

theorem State.commandTurn_memory : turnKeepsMemory s s.commandTurn := by
  rw [State.commandTurn]
  split
  · exact s.readAccountTurn_memory _
  · exact s.sweepTurn_memory _
  · exact s.scanTurn_memory _
  · exact turnKeepsMemory_wait s _ rfl
  · exact s.rebaseTurn_memory _
  · exact turnKeepsMemory_wait s _ rfl
  · exact s.payerTurn_memory _
  · exact s.payeeTurn_memory _
  · exact s.transferWriteTurn_memory _ _ _
  · exact turnKeepsMemory_wait s _ rfl
  · exact s.repairTurn_memory _
  · exact s.flushTurn_memory _ _
  · exact s.initTurn_memory
  · exact turnKeepsMemory_none s

@[simp] theorem State.cutCommand_memory (reason : CutReason) : (s.cutCommand reason).memory = s.memory := by
  rw [State.cutCommand]
  split
  · rfl
  · rfl
  · rfl
  · split <;> rfl
  · dsimp only
    split <;> simp
  · dsimp only
    split <;> simp
  · split <;> rfl
  · split <;> rfl

@[simp] theorem State.endCut_memory : s.endCut.memory = s.memory := by
  rw [State.endCut]
  split <;> rfl

@[simp] theorem State.stopSweep_memory : s.stopSweep.memory = s.memory := by
  rw [State.stopSweep]
  split
  · split <;> rfl
  · rfl

/-! ### The follow-on work of an event: grants and turns -/

@[simp] theorem State.beginOp_memory (o : PortOp) : (s.beginOp o).memory = s.memory := by
  simp only [State.beginOp]
  split <;> rfl

@[simp] theorem State.grant_memory : s.grant.memory = s.memory := by
  obtain h | ⟨o, -, h⟩ | ⟨_, _, _, -, -, h⟩ := s.grant_cases <;> rw [h]
  · exact s.beginOp_memory o
  · rfl

theorem State.commandOrBookTurn_memory : turnKeepsMemory s s.commandOrBookTurn := by
  have command := s.commandTurn_memory
  rw [State.commandOrBookTurn]
  split
  case h_1 c b hc _ =>
    have kept : c.memory = s.memory := command c hc
    split
    · split
      · exact turnKeepsMemory_some kept
      · exact turnKeepsMemory_some rfl
    · exact turnKeepsMemory_some kept
  case h_2 c hc _ => exact turnKeepsMemory_some (command c hc)
  case h_3 => exact turnKeepsMemory_some rfl
  case h_4 => exact turnKeepsMemory_none s

theorem State.commitTurn_memory : turnKeepsMemory s s.commitTurn := by
  rw [State.commitTurn]
  split
  · exact turnKeepsMemory_some s.beginChecks_memory
  · exact turnKeepsMemory_none s

theorem State.releaseTurn_memory : turnKeepsMemory s s.releaseTurn := by
  rw [State.releaseTurn]
  split
  · exact turnKeepsMemory_some rfl
  · exact turnKeepsMemory_none s

/-- No turn of any unit writes account memory. -/
theorem State.turn_memory : turnKeepsMemory s s.turn := by
  rw [State.turn]
  split
  · exact turnKeepsMemory_orElse s.commandTurn_memory s.releaseTurn_memory
  · split
    · split
      · exact turnKeepsMemory_some rfl
      · exact turnKeepsMemory_none s
    · exact turnKeepsMemory_none s
    · exact s.noticeTurn_memory
    · exact turnKeepsMemory_orElse s.settleTurn_memory <| turnKeepsMemory_orElse s.postTurn_memory <|
        turnKeepsMemory_orElse s.checkTurn_memory <| turnKeepsMemory_orElse s.markTurn_memory <|
        turnKeepsMemory_orElse s.commandOrBookTurn_memory <| turnKeepsMemory_orElse s.commitTurn_memory s.noticeTurn_memory

/-- The follow-on work of an event writes no account memory. -/
@[simp] theorem State.drive_memory : s.drive.memory = s.memory :=
  State.drive_keeps (P := fun t => t.memory = s.memory) (fun t u kept turn => (t.turn_memory u turn).trans kept)
    (fun t kept => t.grant_memory.trans kept) rfl

/-! ### The station's commands -/

@[simp] theorem State.stage_memory (write : TableSet → TableSet) : (s.stage write).memory = s.memory := by
  rw [State.stage]
  split <;> rfl

theorem State.startReadAccount_memory (account : Nat) : (s.startReadAccount account).memory = s.memory := by
  rw [State.startReadAccount]
  split
  · rfl
  · split
    case h_1 t turn => exact s.readAccountTurn_memory account t turn
    case h_2 => simp

theorem State.startHold_memory (feeder : Nat) : (s.startHold feeder).memory = s.memory := by
  rw [State.startHold]
  split
  · rfl
  · split <;> rfl

theorem State.startResume_memory (feeder : Nat) : (s.startResume feeder).memory = s.memory := by
  rw [State.startResume]
  split
  · rfl
  · split
    · rfl
    · rfl
    · rw [State.finish_memory]
      split <;> simp
    · rfl

theorem State.startEnrol_memory (feeder rounds serial : Nat) : (s.startEnrol feeder rounds serial).memory = s.memory := by
  rw [State.startEnrol]
  split
  · rfl
  · split
    · rfl
    · split <;> rfl

theorem State.startActivate_memory : s.startActivate.memory = s.memory := by
  rw [State.startActivate]
  split
  · split <;> rfl
  · split
    · rfl
    · split
      · rfl
      · rw [State.activateNow]
        split <;> simp

theorem State.startDisarm_memory : s.startDisarm.memory = s.memory := by
  simp only [State.startDisarm]
  split
  · rfl
  · split <;> simp

theorem State.stepForward_memory (before : Nat) : (s.stepForward before).1.memory = s.memory := by
  simp only [State.stepForward]
  split <;> split <;> simp

theorem State.startSetClock_memory (day second weekday : Nat) : (s.startSetClock day second weekday).memory = s.memory := by
  simp only [State.startSetClock]
  split
  · rfl
  · split
    · rfl
    · split <;> simp [State.stepForward_memory]

theorem State.ofHeld_memory (start : Nat) {act : State → State} (h : (act s).memory = s.memory) :
    (s.ofHeld start act).memory = s.memory := by
  rw [State.ofHeld]
  split
  · rfl
  · split
    · exact h
    · rfl

theorem State.freeRegister_memory (e : Attention) : (s.freeRegister e).memory = s.memory := by
  cases e with
  | enrolDone f ending others counted =>
    simp only [State.freeRegister]
    split <;> rfl
  | _ => rfl

theorem State.startSense_memory : s.startSense.memory = s.memory := by
  rw [State.startSense]
  split
  · rfl
  · exact State.freeRegister_memory _ _

/-- No command writes account memory as it starts. -/
@[simp] theorem State.startCommand_memory (c : Command) : (s.startCommand c).memory = s.memory := by
  cases c with
  | readAccount a => exact s.startReadAccount_memory a
  | readParticipant i c => rfl
  | readFeeder f c => simp only [State.startCommand, State.startReadFeeder]; split <;> rfl
  | readBand p c => rfl
  | readBook b p => simp only [State.startCommand, State.startReadBook]; split <;> rfl
  | readRoundStatus f =>
    simp only [State.startCommand, State.startReadRoundStatus]
    split
    · split <;> rfl
    · rfl
  | readClock => rfl
  | readEngine => rfl
  | sweepAccounts o => simp only [State.startCommand, State.startSweep]; split <;> simp
  | scanAccounts o => simp only [State.startCommand, State.startScan]; split <;> simp
  | hold f => exact s.startHold_memory f
  | resume f => exact s.startResume_memory f
  | enrol f n serial => exact s.startEnrol_memory f n serial
  | rebase i =>
    simp only [State.startCommand, State.startRebase]
    split
    · rfl
    · split <;> simp
  | stageParticipant i e => exact s.stage_memory _
  | stageFeeder f e => exact s.stage_memory _
  | stageGeneral g w => exact s.stage_memory _
  | stageBand p b => exact s.stage_memory _
  | clearBands => exact s.stage_memory _
  | stageCopy => exact s.stage_memory _
  | activate => exact s.startActivate_memory
  | disarm => exact s.startDisarm_memory
  | setClock d sec w => exact s.startSetClock_memory d sec w
  | releaseBook m => exact s.ofHeld_memory m (by simp)
  | discardBook m => exact s.ofHeld_memory m (by simp)
  | transfer o =>
    simp only [State.startCommand, State.startTransfer]
    split
    · rfl
    · split <;> simp
  | repairAccount o => simp only [State.startCommand, State.startRepair]; split <;> simp
  | flush => simp only [State.startCommand, State.startFlush]; split <;> simp
  | initAccountMemory => simp only [State.startCommand, State.startInit]; split <;> simp
  | senseAttention => exact s.startSense_memory
  | restart k => rfl

@[simp] theorem State.begin_memory (b : Buffered) : (s.begin b).memory = s.memory := by
  rw [State.begin]
  split
  · rfl
  · rfl
  · rw [State.decideFaulty]
    split
    · rfl
    · split <;> rfl
  · dsimp only
    split <;> simp

@[simp] theorem State.takeWaiting_memory : s.takeWaiting.memory = s.memory := by
  rw [State.takeWaiting]
  split
  · split <;> simp
  · rfl

@[simp] theorem State.arrive_memory (b : Buffered) : (s.arrive b).memory = s.memory := by
  simp only [State.arrive]
  split
  · simp
  · split
    · rfl
    · split <;> simp

end

end Sys2Proof.Machine
end

section
/-! ## Account memory is written by completions and resets alone (O55): events, and the completions' own writes -/

namespace Sys2Proof.Machine

section
variable (s : State)

/-! ### The station link -/

@[simp] theorem State.judgeFrame_memory (bytes : List Byte) : (s.judgeFrame bytes).memory = s.memory := by
  simp only [State.judgeFrame]
  split
  · rfl
  · split
    · simp
    · split <;> simp

@[simp] theorem State.receiveByte_memory (b : Byte) : (s.receiveByte b).memory = s.memory := by
  rw [State.receiveByte]
  split <;> split <;> simp

@[simp] theorem State.gapTimeout_memory (next : Option Byte) : (s.gapTimeout next).memory = s.memory := by
  simp only [State.gapTimeout]
  split <;> split <;> simp

@[simp] theorem State.badStopBit_memory : s.badStopBit.memory = s.memory := by
  rw [State.badStopBit]
  split <;> rfl

@[simp] theorem State.queueResult_memory : s.queueResult.memory = s.memory := by
  rw [State.queueResult]
  split
  · split <;> simp
  · rfl

@[simp] theorem State.queueBlock_memory : s.queueBlock.memory = s.memory := by
  rw [State.queueBlock]
  split
  · split
    · split <;> simp
    · rfl
  · rfl

@[simp] theorem State.queueStatement_memory : s.queueStatement.memory = s.memory := by
  rw [State.queueStatement]
  split <;> rfl

@[simp] theorem State.frameSent_memory : s.frameSent.memory = s.memory := by
  rw [State.frameSent]
  split
  · rfl
  · dsimp only
    split
    · split <;> simp [State.beginSequence]
    · rfl

/-! ### The end of a RESTART sequence and the windows of a round -/

@[simp] theorem State.sequenceOn_memory : s.sequenceOn.memory = s.memory := by
  rw [State.sequenceOn]
  split
  · split <;> simp [State.endSequence]
  · rfl

@[simp] theorem State.restartPort_memory (keepHeld : Bool) (f : Feeder) : (s.restartPort keepHeld f).memory = s.memory := by
  simp [State.restartPort]

@[simp] theorem State.startupEnded_memory : s.startupEnded.memory = s.memory := by
  have reach (keepHeld : Bool) (t : State) (f : Feeder) : (State.reachPort keepHeld t f).memory = t.memory := by
    rw [State.reachPort]
    split <;> simp
  rw [State.startupEnded]
  split
  · simp only [State.sequenceOn_memory, foldl_memory (reach _)]
  · rfl

@[simp] theorem State.nextWindow_memory (f : Feeder) (w : Window) : (s.nextWindow f w).memory = s.memory := by
  rw [State.nextWindow]
  split
  · rfl
  · split <;> simp

@[simp] theorem State.openHead_memory (f : Feeder) : (s.openHead f).memory = s.memory := by
  simp only [State.openHead]
  split <;> rfl

@[simp] theorem State.closeHead_memory (f : Feeder) (readback : List Sample) : (s.closeHead f readback).memory = s.memory := by
  rw [State.closeHead]
  split
  · split <;> simp
  · rfl

@[simp] theorem State.openOrder_memory (f : Feeder) : (s.openOrder f).memory = s.memory := by
  rw [State.openOrder]
  split
  · split
    · rfl
    · split <;> rfl
  · rfl

@[simp] theorem State.orderResult_memory (f : Feeder) (j : Nat) (ok : Bool) : (s.orderResult f j ok).memory = s.memory := by
  simp only [State.orderResult]
  split <;> rfl

@[simp] theorem State.closeOrder_memory (f : Feeder) (readback : List Sample) :
    (s.closeOrder f readback).memory = s.memory := by
  rw [State.closeOrder]
  split <;> simp

@[simp] theorem State.closeSlot_memory (f : Feeder) (heard : List LineChar) : (s.closeSlot f heard).memory = s.memory := by
  rw [State.closeSlot]
  split
  · simp only [State.drive_memory, State.nextWindow_memory]
    split <;> simp
  · rfl

@[simp] theorem State.openNotice_memory (f : Feeder) : (s.openNotice f).memory = s.memory := by
  rw [State.openNotice]
  split
  · split <;> rfl
  · rfl

@[simp] theorem State.closeNotice_memory (f : Feeder) (readback : List Sample) :
    (s.closeNotice f readback).memory = s.memory := by
  rw [State.closeNotice]
  split <;> simp

@[simp] theorem State.completeRound_memory (f : Feeder) (r : Round) (q : QuietOutcome) :
    (s.completeRound f r q).memory = s.memory := by
  have count (t : State) (headOk : Bool) : (t.countRound f headOk).memory = t.memory := by
    simp only [State.countRound]
    split
    · exact foldl_memory (fun u e => u.raise_memory (unconfirmed f e)) _ _
    · rfl
  have after (t : State) : (t.afterQuiet f).memory = t.memory := by
    rw [State.afterQuiet]
    split
    · simp
    · split <;> rfl
  simp [State.completeRound, count, after]

@[simp] theorem State.closeQuiet_memory (f : Feeder) (heard : List LineChar) : (s.closeQuiet f heard).memory = s.memory := by
  rw [State.closeQuiet]
  split
  · split <;> simp
  · rfl

/-! ### The board -/

@[simp] theorem State.warn_memory : s.warn.memory = s.memory := by
  simp only [State.warn]
  split <;> simp [State.enterQuiesced]

@[simp] theorem State.unwarn_memory : s.unwarn.memory = s.memory := by simp [State.unwarn]

@[simp] theorem State.tick_memory : s.tick.memory = s.memory := by
  simp only [State.tick, State.advanceClock]
  split <;> simp

@[simp] theorem State.boundary_memory : s.boundary.memory = s.memory := by
  rw [State.boundary]
  split <;> simp

@[simp] theorem State.deadline_memory : s.deadline.memory = s.memory := by
  rw [State.deadline]
  split <;> simp

/-! ### What follows a completion -/

@[simp] theorem State.completed_memory : s.completed.memory = s.memory := by simp [State.completed]

@[simp] theorem State.fillLine_memory (reader : Reader) (account line : Nat) (record : Option AccountRecord) :
    (s.fillLine reader account line record).memory = s.memory := by
  rw [State.fillLine_eq]

@[simp] theorem State.fillArrived_memory (account : Nat) : (s.fillArrived account).memory = s.memory :=
  foldl_memory (fun t f => by split <;> simp) _ s

@[simp] theorem State.flushCounted_memory : s.flushCounted.memory = s.memory := by
  rw [State.flushCounted]
  split <;> rfl

@[simp] theorem State.afterWriteBack_memory (purpose : WriteBackUse) (line : Nat) :
    (s.afterWriteBack purpose line).memory = s.memory := by
  cases purpose with
  | postingVictim image => simp only [State.afterWriteBack]; split <;> simp
  | transfer => simp only [State.afterWriteBack]; split <;> rfl
  | flush => exact s.flushCounted_memory
  | powerFlush => rfl
  | restartFlush => rfl
  | postingWriteBack => rfl

@[simp] theorem State.afterEntry_memory (user : JournalUser) : (s.afterEntry user).memory = s.memory := by
  cases user <;> simp only [State.afterEntry] <;> split
  · rfl
  · rfl
  · split <;> rfl
  · rfl

@[simp] theorem State.applyImage_memory (i : Image) : (s.applyImage i).memory = s.memory := by
  rw [State.applyImage]
  split <;> simp

@[simp] theorem State.afterHeader_memory (user : JournalUser) : (s.afterHeader user).memory = s.memory := by
  cases user <;> simp only [State.afterHeader] <;> split
  · rfl
  · rfl
  · simp [foldl_memory State.applyImage_memory]
  · rfl

@[simp] theorem State.afterClear_memory (user : JournalUser) : (s.afterClear user).memory = s.memory := by
  cases user <;> simp only [State.afterClear] <;> split
  · split <;> simp
  · rfl
  · simp [State.transferDone]
  · rfl

@[simp] theorem State.repairLine_memory (account : Nat) (r : AccountRecord) : (s.repairLine account r).memory = s.memory := by
  rw [State.repairLine]
  split <;> rfl

@[simp] theorem State.afterRepair_memory : s.afterRepair.memory = s.memory := by
  rw [State.afterRepair]
  split
  · rw [State.answer_memory]
    split <;> simp
  · rfl

@[simp] theorem State.endStartup_memory (m : MemoryState) : (s.endStartup m).memory = s.memory := by
  simp [State.endStartup]

@[simp] theorem State.headerRead_memory (h : Option Header) : (s.headerRead h).memory = s.memory := by
  cases h with
  | none => simp [State.headerRead]
  | some h =>
    simp only [State.headerRead]
    split
    · simp
    · split <;> simp

@[simp] theorem State.afterReplay_memory : s.afterReplay.memory = s.memory := by
  rw [State.afterReplay]
  split <;> rfl

@[simp] theorem State.afterClosing_memory : s.afterClosing.memory = s.memory := by
  rw [State.afterClosing]
  split <;> simp

@[simp] theorem State.afterInitHeader_memory : s.afterInitHeader.memory = s.memory := by
  rw [State.afterInitHeader]
  split <;> rfl

@[simp] theorem State.afterInitRecord_memory : s.afterInitRecord.memory = s.memory := by
  rw [State.afterInitRecord]
  split
  · split <;> rfl
  · rfl

@[simp] theorem State.initEnd_memory (h : Option Header) : (s.initEnd h).memory = s.memory := by
  cases h <;> simp only [State.initEnd] <;> split <;> rfl

@[simp] theorem State.startupReadDone_memory (returned : Option (List Byte)) :
    (s.startupReadDone returned).memory = s.memory := by
  rw [State.startupReadDone]
  split
  · split <;> simp
  · rfl

@[simp] theorem State.verifyDone_memory (returned : Option (List Byte)) : (s.verifyDone returned).memory = s.memory := by
  rw [State.verifyDone]
  split
  · split <;> simp
  · rfl

@[simp] theorem State.initReadbackDone_memory (returned : Option (List Byte)) :
    (s.initReadbackDone returned).memory = s.memory := by
  rw [State.initReadbackDone]
  split <;> simp

end

/-! ### The writes of the completions (R128, R129) -/

/-- A record fills no more than its place (R129). -/
theorem recordBytes_length (account : Nat) (r : AccountRecord) : (recordBytes account r).length = 28 := by
  have minute (m : Option Nat) : (minuteField m).length = 5 := by cases m <;> rfl
  simp [recordBytes, withCheck, minute]

/-- A header fills no more than its place (R128). -/
theorem headerBytes_length (marker : Nat) (h : Header) : (headerBytes marker h).length = 16 := by
  have minute (m : Option Nat) : (minuteField m).length = 5 := by cases m <;> rfl
  simp [headerBytes, withCheck, minute]

/-- Account memory is as it was, or the operation in progress has put up to 32 bytes into its place. -/
def State.writesPlace (s t : State) : Prop :=
  t.memory = s.memory ∨
    ∃ o place bytes, s.port.inProgress = some o ∧ o.place = some place ∧ bytes.length ≤ Config.placeSize ∧
      t.memory = writeBytes s.memory place bytes

section
variable {s t : State} {o : PortOp}

/-- A unit written in the place of the operation in progress. -/
theorem State.writesPlace_unit {place : Nat} {bytes : List Byte} (ho : s.port.inProgress = some o)
    (hp : o.place = some place) (short : bytes.length ≤ Config.placeSize)
    (memory : t.memory = writeUnit s.memory place bytes) : s.writesPlace t :=
  .inr ⟨o, place, placeBytes bytes, ho, hp, (placeBytes_length short).le, memory⟩

/-- An account's record written in the place of the operation in progress. -/
theorem State.writesPlace_record {account : Nat} (r : AccountRecord) (ho : s.port.inProgress = some o)
    (hp : o.place = some (Config.recordPlace account))
    (memory : t.memory = writeUnit s.memory (Config.recordPlace account) (recordBytes account r)) : s.writesPlace t :=
  State.writesPlace_unit ho hp (by rw [recordBytes_length]; decide) memory

/-- A header written by the operation in progress. -/
theorem State.writesPlace_header (marker : Nat) (h : Header) (ho : s.port.inProgress = some o)
    (hp : o.place = some Config.headerPlace)
    (memory : t.memory = writeUnit s.memory Config.headerPlace (headerBytes marker h)) : s.writesPlace t :=
  State.writesPlace_unit ho hp (by rw [headerBytes_length]; decide) memory

variable (s)

theorem State.hardwareReset_writesPlace (left : Option (List Byte)) : s.writesPlace (s.hardwareReset left) := by
  rcases left with _ | bytes
  · exact .inl rfl
  rcases hp : s.port.inProgress.bind PortOp.place with _ | place
  · refine .inl ?_
    change s.leftMemory _ = _
    simp only [State.leftMemory, hp]
  · obtain ⟨o, ho, hplace⟩ := Option.bind_eq_some_iff.1 hp
    refine .inr ⟨o, place, bytes.take Config.placeSize, ho, hplace, List.length_take_le _ _, ?_⟩
    change s.leftMemory _ = _
    simp only [State.leftMemory, hp]

theorem State.fillDone_writesPlace (returned : Option (List Byte)) : s.writesPlace (s.fillDone returned) := by
  rw [State.fillDone]
  split
  case h_1 reader account line victim ho =>
    rcases victim with _ | v
    · exact .inl (by simp [State.writeVictim])
    · exact State.writesPlace_record v.2 ho rfl (by simp [State.writeVictim])
  case h_2 => exact .inl rfl

/-- A line's write-back writes the record it holds, while it holds one (R139). -/
theorem State.writeLine_memory (line account : Nat) :
    (s.writeLine line account).memory = s.memory ∨
      ∃ r, (s.writeLine line account).memory =
        writeUnit s.memory (Config.recordPlace account) (recordBytes account r) := by
  rw [State.writeLine]
  split
  case h_1 _ tag r _ _ _ =>
    split
    · exact .inr ⟨r, by simp only [State.writeRecord_memory]⟩
    · exact .inl rfl
  case h_2 => exact .inl rfl

theorem State.writeBackDone_writesPlace : s.writesPlace s.writeBackDone := by
  rw [State.writeBackDone]
  split
  case h_1 purpose line account ho =>
    obtain same | ⟨r, written⟩ := s.idlePort.writeLine_memory line account
    · exact .inl (by simp [same])
    · exact State.writesPlace_record r ho rfl (by simp [written])
  case h_2 => exact .inl rfl

theorem State.journalEntryDone_writesPlace : s.writesPlace s.journalEntryDone := by
  rw [State.journalEntryDone]
  split
  case h_1 user place image ho =>
    exact State.writesPlace_unit ho rfl (bytes := recordBytes image.account image.record)
      (by rw [recordBytes_length]; decide) (by simp)
  case h_2 => exact .inl rfl

theorem State.journalHeaderDone_writesPlace : s.writesPlace s.journalHeaderDone := by
  rw [State.journalHeaderDone]
  split
  case h_1 user h ho => exact State.writesPlace_header Config.marker h ho rfl (by simp)
  case h_2 => exact .inl rfl

theorem State.journalClearDone_writesPlace : s.writesPlace s.journalClearDone := by
  rw [State.journalClearDone]
  split
  case h_1 user h ho => exact State.writesPlace_header Config.marker h ho rfl (by simp)
  case h_2 => exact .inl rfl

theorem State.repairDone_writesPlace : s.writesPlace s.repairDone := by
  rw [State.repairDone]
  split
  case h_1 account r ho => exact State.writesPlace_record r ho rfl (by simp)
  case h_2 => exact .inl rfl

theorem State.replayDone_writesPlace : s.writesPlace s.replayDone := by
  rw [State.replayDone]
  split
  case h_1 account r ho => exact State.writesPlace_record r ho rfl (by simp)
  case h_2 => exact .inl rfl

theorem State.startupWriteDone_writesPlace : s.writesPlace s.startupWriteDone := by
  rw [State.startupWriteDone]
  split
  case h_1 h ho => exact State.writesPlace_header Config.marker h ho rfl (by simp)
  case h_2 => exact .inl rfl

theorem State.initHeaderDone_writesPlace : s.writesPlace s.initHeaderDone := by
  rw [State.initHeaderDone]
  split
  case h_1 final ho => exact State.writesPlace_header (if final then Config.marker else 0) freshHeader ho rfl (by simp)
  case h_2 => exact .inl rfl

theorem State.initRecordDone_writesPlace : s.writesPlace s.initRecordDone := by
  rw [State.initRecordDone]
  split
  case h_1 a ho => exact State.writesPlace_record freshRecord ho rfl (by simp)
  case h_2 => exact .inl rfl

end

/-! ### Every command and event -/

/-- The next state of an outcome that is one. -/
theorem writesPlace_of_next {s t u : State} (h : s.writesPlace u)
    (next : (.next u : Host.Outcome State Fault Refusal) = .next t) : s.writesPlace t := by
  cases next
  exact h

/-- Everything a command or event can do to account memory (R118, R129, R138, R139, R143). -/
theorem exec_writesPlace {c : Instr} {s t : State} (h : exec c s = .next t) : s.writesPlace t := by
  have arrives (b : Buffered) : s.writesPlace (s.arrive b) := .inl (s.arrive_memory b)
  cases c with
  | hardwareReset left => exact writesPlace_of_next (s.hardwareReset_writesPlace left) h
  | powerWarningAsserted =>
    change execPowerWarningAsserted s = _ at h
    rw [execPowerWarningAsserted] at h
    split at h
    · exact writesPlace_of_next (.inl rfl) h
    · exact writesPlace_of_next (.inl s.warn_memory) h
  | powerWarningReleased =>
    change execPowerWarningReleased s = _ at h
    rw [execPowerWarningReleased] at h
    split at h
    · exact writesPlace_of_next (.inl s.unwarn_memory) h
    · exact writesPlace_of_next (.inl rfl) h
  | frameReceived bytes => exact writesPlace_of_next (.inl (foldl_memory State.receiveByte_memory bytes s)) h
  | frameGapTimeout next => exact writesPlace_of_next (.inl (s.gapTimeout_memory next)) h
  | byteWithoutStopBit => exact writesPlace_of_next (.inl s.badStopBit_memory) h
  | resultQueued => exact writesPlace_of_next (.inl s.queueResult_memory) h
  | blockQueued => exact writesPlace_of_next (.inl s.queueBlock_memory) h
  | statement => exact writesPlace_of_next (.inl s.queueStatement_memory) h
  | frameSent => exact writesPlace_of_next (.inl s.frameSent_memory) h
  | headWindowOpen f => exact writesPlace_of_next (.inl (s.openHead_memory f)) h
  | headWindowClose f readback => exact writesPlace_of_next (.inl (s.closeHead_memory f readback)) h
  | orderWindowOpen f => exact writesPlace_of_next (.inl (s.openOrder_memory f)) h
  | orderWindowClose f readback => exact writesPlace_of_next (.inl (s.closeOrder_memory f readback)) h
  | meterSlotClose f heard => exact writesPlace_of_next (.inl (s.closeSlot_memory f heard)) h
  | noticeWindowOpen f => exact writesPlace_of_next (.inl (s.openNotice_memory f)) h
  | noticeWindowClose f readback => exact writesPlace_of_next (.inl (s.closeNotice_memory f readback)) h
  | quietWindowClose f heard => exact writesPlace_of_next (.inl (s.closeQuiet_memory f heard)) h
  | clockTick => exact writesPlace_of_next (.inl s.tick_memory) h
  | intervalBoundary => exact writesPlace_of_next (.inl s.boundary_memory) h
  | collectionDeadline => exact writesPlace_of_next (.inl s.deadline_memory) h
  | cacheFill returned => exact writesPlace_of_next (s.fillDone_writesPlace returned) h
  | cacheWriteBack => exact writesPlace_of_next s.writeBackDone_writesPlace h
  | journalEntryWrite => exact writesPlace_of_next s.journalEntryDone_writesPlace h
  | journalHeaderWrite => exact writesPlace_of_next s.journalHeaderDone_writesPlace h
  | journalHeaderClear => exact writesPlace_of_next s.journalClearDone_writesPlace h
  | repairRecordWrite => exact writesPlace_of_next s.repairDone_writesPlace h
  | startupHeaderRead returned => exact writesPlace_of_next (.inl (s.startupReadDone_memory returned)) h
  | journalVerifyRead returned => exact writesPlace_of_next (.inl (s.verifyDone_memory returned)) h
  | replayRecordWrite => exact writesPlace_of_next s.replayDone_writesPlace h
  | startupHeaderWrite => exact writesPlace_of_next s.startupWriteDone_writesPlace h
  | initHeaderWrite => exact writesPlace_of_next s.initHeaderDone_writesPlace h
  | initRecordWrite => exact writesPlace_of_next s.initRecordDone_writesPlace h
  | initHeaderReadback returned => exact writesPlace_of_next (.inl (s.initReadbackDone_memory returned)) h
  | _ => exact writesPlace_of_next (arrives _) h

/-- Settles O55: an event leaves account memory, or puts up to 32 bytes into the place of the operation in progress. -/
theorem onlyTheOperationInProgressWritesMemory : Obligations.OnlyTheOperationInProgressWritesMemory := by
  intro c s t a canonical next outside
  obtain same | ⟨o, place, bytes, ho, hp, short, written⟩ := exec_writesPlace next
  · rw [same]
  · have apart := outside o place ho hp
    have size : Config.placeSize = 32 := rfl
    rw [written, readByte_writeBytes_outside canonical (by omega)]

end Sys2Proof.Machine
end

section
/-! ## TRANSFER and REPAIR ACCOUNT as they start (O20, O21, O22) -/

namespace Sys2Proof.Machine

/-! ### Locks released (R123, R141) -/

section
variable (c : Cache)

/-- A line put in place and then unlocked with the others. -/
theorem Cache.unlockAll_set (i : Nat) (l : Option CacheLine) :
    (c.set i l).unlockAll = c.unlockAll.set i (l.map fun l => { l with locked := false }) := by
  simp only [Cache.unlockAll, Cache.set]
  congr 1
  refine Vector.ext fun k hk => ?_
  simp only [Vector.getElem_map, Vector.getElem_setIfInBounds]
  split <;> rfl

/-- A line put where it stands already. -/
theorem Cache.set_same {i : Nat} {l : Option CacheLine} (h : c.lines[i]? = some l) : c.set i l = c := by
  obtain ⟨hi, rfl⟩ := Vector.getElem?_eq_some_iff.1 h
  simp only [Cache.set]
  congr 1
  refine Vector.ext fun k hk => ?_
  rw [Vector.getElem_setIfInBounds]
  split
  · subst_vars; rfl
  · rfl

/-- A lock taken is released with the others. -/
theorem Cache.unlockAll_setLock (i : Nat) (locked : Bool) : (c.setLock i locked).unlockAll = c.unlockAll := by
  rw [Cache.setLock]
  rcases hl : c.line i with _ | l
  · rfl
  · obtain ⟨hi, here⟩ : ∃ hi : i < 32, c.lines[i] = some l := by
      rw [Cache.line, Option.join_eq_some_iff] at hl
      exact Vector.getElem?_eq_some_iff.1 hl
    rw [Cache.unlockAll_set]
    exact Cache.set_same _ (by simp [Cache.unlockAll, Vector.getElem?_eq_getElem hi, here])

/-- Uses do not go by locks. -/
theorem Cache.unlockAll_touch (i : Nat) : (c.touch i).unlockAll = c.unlockAll.touch i := rfl

/-- Where no line is locked, nothing is released. -/
theorem Cache.unlockAll_of_none (h : c.anyLocked = false) : c.unlockAll = c := by
  have unlocked (l : Option CacheLine) (hl : l ∈ c.lines.toList) : (l.map fun l => { l with locked := false }) = l := by
    have free := List.any_eq_false.1 h l hl
    rcases l with _ | ⟨t, r, d, k⟩
    · rfl
    · have : k = false := by simpa using free
      rw [this, Option.map_some]
  have same : c.lines.map (fun l => l.map fun l => { l with locked := false }) = c.lines :=
    Vector.ext fun i hi => by
      rw [Vector.getElem_map]
      exact unlocked _ (by simp)
  rw [Cache.unlockAll, same]

end

/-! ### TRANSFER's reads (R122, R123) -/

section
variable {s : State} {tag : Byte} {o : TransferOrder}

/-- TRANSFER past its first steps waits for the books and the checks (R122). -/
theorem exec_transfer_of_ready (h : s.accepts) (hc : commandInRange (.transfer o) = true) (running : s.engine = .running)
    (ready : s.port.state = .ready) :
    exec (.transfer tag o) s = .next (s.executing tag 0x40 (.transferWait o)).drive := by
  refine (exec_accepts h (c := .transfer o) hc tag).trans (congrArg Host.Outcome.next ?_)
  simp only [State.startCommand, State.startTransfer]
  rw [if_neg (by simp [running]), if_neg (by simp [State.memoryReady, ready])]
  rfl

variable {code : Byte}

/-- At rest TRANSFER goes on to its payer at once (R122). -/
theorem State.resting.transfer_turn (rest : s.resting) :
    State.takesTurns 1 (s.executing tag code (.transferWait o)) (s.executing tag code (.transferPayer o)) := by
  have rest' : (s.executing tag code (.transferWait o)).resting := rest
  have wait : (s.executing tag code (.transferWait o)).commandTurn = some (s.executing tag code (.transferPayer o)) := by
    change (if (s.executing tag code (.transferWait o)).bookBusy ||
      (s.executing tag code (.transferWait o)).activation.phase == .checking then none else some _) = _
    rw [rest'.notBusy, beq_eq_false_iff_ne.2 rest'.unitsRest.notChecking]
    rfl
  exact .one ((State.turn_of_resting rest').trans wait)

/-- A payer's good line is locked, and TRANSFER goes on to its payee (R123, step 1). -/
theorem State.resting.transfer_turns_payer (rest : s.resting) {i : Nat} {x : AccountRecord}
    (payer : s.cache.lookup o.payer = .good i x) :
    State.takesTurns 2 (s.executing tag code (.transferWait o)) ((s.touch i).payerHeld tag code o i) := by
  have rest' : (s.executing tag code (.transferPayer o)).resting := rest
  have turn : (s.executing tag code (.transferPayer o)).commandTurn = some ((s.touch i).payerHeld tag code o i) := by
    change State.payerTurn _ o = _
    rw [State.payerTurn, show (s.executing tag code (.transferPayer o)).cache.lookup o.payer = .good i x from payer]
    rfl
  exact rest.transfer_turn.trans (.one ((State.turn_of_resting rest').trans turn))

/-- TRANSFER refused by the state that its turns come to: it is answered, every lock released (R123). -/
theorem State.takesTurns.drive_of_transferRefused {t u : State} {n : Nat}
    (turns : State.takesTurns n s t) (within : n ≤ 8191) (rest' : t.resting) (rest'' : u.resting) {e : Executing}
    (he : u.link.executing = some e) {detail : Nat} {fields : List Byte}
    (turn : t.commandTurn = some (u.transferRefuse detail fields)) :
    s.drive = ({ u with cache := u.cache.unlockAll } : State).answered e.tag e.code .refused detail fields := by
  rw [State.transferRefuse_eq he] at turn
  have restEnd : (({ u with cache := u.cache.unlockAll } : State).answered e.tag e.code .refused detail fields).resting :=
    rest''
  rw [(turns.trans (.one ((State.turn_of_resting rest').trans turn))).drive_eq (by omega)
      ((State.turn_of_resting restEnd).trans (State.commandTurn_of_done rfl)),
    State.grant_of_none ((State.want_of_resting restEnd).trans (State.commandWant_of_done rfl))]

/-- TRANSFER whose payer's record is DAMAGED (R123, step 1). -/
theorem State.resting.transfer_damagedPayer (rest : s.resting) (unlocked : s.cache.anyLocked = false) {line : Nat}
    (damaged : s.cache.lookup o.payer = .damaged line) :
    (s.executing tag code (.transferWait o)).drive =
      ({ s with cache := s.cache.touch line } : State).answered tag code .refused 14 (be 1 o.payer) := by
  have turn : (s.executing tag code (.transferPayer o)).commandTurn =
      some (((s.touch line).executing tag code (.transferPayer o)).transferRefuse 14 (be 1 o.payer)) := by
    change State.payerTurn _ o = _
    rw [State.payerTurn, show (s.executing tag code (.transferPayer o)).cache.lookup o.payer = .damaged line from damaged]
    rfl
  have released : (s.cache.touch line).unlockAll = s.cache.touch line := by
    rw [Cache.unlockAll_touch, Cache.unlockAll_of_none _ unlocked]
  have refused := State.takesTurns.drive_of_transferRefused (s := s.executing tag code (.transferWait o))
    rest.transfer_turn (by decide) rest (u := (s.touch line).executing tag code (.transferPayer o)) rest rfl turn
  rw [refused]
  change (({ s with cache := (s.cache.touch line).unlockAll } : State).answered _ _ _ _ _) = _
  rw [released]

/-- Both lines used and locked, then released: used. -/
theorem Cache.unlockAll_of_transfer {c : Cache} (unlocked : c.anyLocked = false) (i j : Nat) :
    (((c.touch i).setLock i true).touch j).unlockAll = (c.touch i).touch j := by
  rw [Cache.unlockAll_touch, Cache.unlockAll_setLock, Cache.unlockAll_touch, Cache.unlockAll_of_none _ unlocked]

/-- TRANSFER whose payee's record is DAMAGED beside a good payer's (R123, step 2). -/
theorem State.resting.transfer_damagedPayee (rest : s.resting) (unlocked : s.cache.anyLocked = false) {i j : Nat}
    {x : AccountRecord} (payer : s.cache.lookup o.payer = .good i x) (damaged : s.cache.lookup o.payee = .damaged j) :
    (s.executing tag code (.transferWait o)).drive =
      ({ s with cache := (s.cache.touch i).touch j } : State).answered tag code .refused 14 (be 1 o.payee) := by
  have meets : ((s.touch i).payerHeld tag code o i).cache.lookup o.payee = .damaged j :=
    (Cache.lookup_setLock _ _ _ _).trans damaged
  have turn : ((s.touch i).payerHeld tag code o i).commandTurn =
      some ((((s.touch i).payerHeld tag code o i).touch j).transferRefuse 14 (be 1 o.payee)) := by
    rw [State.payerHeld_commandTurn, State.payeeTurn, meets]
    rfl
  have refused := State.takesTurns.drive_of_transferRefused (s := s.executing tag code (.transferWait o))
    (rest.transfer_turns_payer payer) (by decide) rest (u := ((s.touch i).payerHeld tag code o i).touch j) rest rfl turn
  rw [refused, ← Cache.unlockAll_of_transfer unlocked]
  rfl

/-- TRANSFER that reads both accounts comes to what its decision says (R123, R124). -/
theorem State.resting.transfer_outcome (rest : s.resting) {i j : Nat} {x y : AccountRecord}
    (payer : s.cache.lookup o.payer = .good i x) (payee : s.cache.lookup o.payee = .good j y) :
    ({ s with cache := (((s.cache.touch i).setLock i true).touch j).setLock j true } : State).transferOutcome tag code o x y
      ((s.executing tag code (.transferWait o)).drive = ·) := by
  have held (a : Nat) : ((s.touch i).payerHeld tag code o i).cache.lookup a = s.cache.lookup a :=
    Cache.lookup_setLock _ _ _ _
  have restHeld : ((s.touch i).payerHeld tag code o i).resting := rest
  have turn := State.payerHeld_commandTurn (s := s.touch i) (tag := tag) (code := code) (o := o) i
  rw [State.payeeTurn, held, held, payer, payee] at turn
  have turns := (rest.transfer_turns_payer (tag := tag) (code := code) payer).trans
    (.one ((State.turn_of_resting restHeld).trans turn))
  exact State.transferOutcome_of_grant
    (s := ({ s with cache := (((s.cache.touch i).setLock i true).touch j).setLock j true } : State).executing tag code
      (.transferPayee o)) rest rfl fun still => turns.drive_eq (by decide) still

end

/-- Settles O20: the refusals of the start, a DAMAGED account, and the three refusals of the decision. -/
theorem refusedTransfersWriteNothing : Obligations.RefusedTransfersWriteNothing := by
  intro s tag o h hc
  have start := exec_accepts h (c := .transfer o) hc tag
  refine ⟨fun unconfigured => ?unconfigured, fun running notReady => ?notReady, fun running ready rest unlocked => ?read⟩
  case unconfigured =>
    refine start.trans (congrArg Host.Outcome.next ?_)
    simp only [State.startCommand, State.startTransfer]
    rw [if_pos (by simp [unconfigured])]
    rfl
  case notReady =>
    refine start.trans (congrArg Host.Outcome.next ?_)
    simp only [State.startCommand, State.startTransfer]
    rw [if_neg (by simp [running]), if_pos (by simp [State.memoryReady, notReady])]
    rfl
  case read =>
    rw [exec_transfer_of_ready h hc running ready]
    refine ⟨fun line damaged => congrArg _ (rest.transfer_damagedPayer unlocked damaged),
      fun i j x payer damaged => congrArg _ (rest.transfer_damagedPayee unlocked payer damaged),
      fun i j x y payer payee => ?_⟩
    obtain ⟨payerRange, payeeRange, inRange⟩ := rest.transfer_outcome (tag := tag) (code := 0x40) payer payee
    simp only [Cache.unlockAll_setLock _ j, Cache.unlockAll_of_transfer unlocked] at payerRange payeeRange inRange
    exact ⟨fun out => congrArg _ (payerRange out), fun fits out => congrArg _ (payeeRange fits out),
      fun fits fits' mode participant occupied below =>
        congrArg _ ((inRange fits fits').1 ⟨mode, participant, occupied, below⟩)⟩

/-- Settles O21: the wait where every unit waits; at rest the two reads, and the decision that refuses nothing. -/
theorem transferLocksBothLinesAndJournalsThePayerFirst : Obligations.TransferLocksBothLinesAndJournalsThePayerFirst := by
  refine ⟨fun s tag o h hc running ready _ waits => ?waits,
    fun s tag o i j x y h hc running ready rest payer payee fits fits' covered => ?carriedOut⟩
  case waits => rw [exec_transfer_of_ready h hc running ready, State.drive_of_blocked waits]
  case carriedOut =>
    rw [exec_transfer_of_ready h hc running ready]
    obtain ⟨-, -, inRange⟩ := rest.transfer_outcome (tag := tag) (code := 0x40) payer payee
    have notShort : ¬transferShort o s.active x := fun ⟨mode, participant, occupied, below⟩ =>
      absurd (covered mode participant occupied) (by omega)
    exact congrArg _ ((inRange fits fits').2 notShort)

/-! ### REPAIR ACCOUNT (R126) -/

/-- REPAIR ACCOUNT meets a good record (R126, step 5). -/
theorem State.resting.repair_good {s : State} {tag code : Byte} {o : RepairOrder} {line : Nat} {r : AccountRecord}
    (rest : s.resting) (good : s.cache.lookup o.account = .good line r) :
    (s.executing tag code (.repairWait o)).drive =
      ({ s with cache := s.cache.touch line } : State).answered tag code .refused 17 [] := by
  have free : (s.executing tag code (.repairWait o)).bookBusy = false := rest.notBusy
  have wait : (s.executing tag code (.repairWait o)).commandTurn = some (s.executing tag code (.repairRead o)) := by
    change (if (s.executing tag code (.repairWait o)).bookBusy then none else some _) = _
    rw [free]
    rfl
  have read : (s.executing tag code (.repairRead o)).commandTurn =
      some (({ s with cache := s.cache.touch line } : State).answered tag code .refused 17 []) := by
    change State.repairTurn _ o = _
    rw [State.repairTurn, show (s.executing tag code (.repairRead o)).cache.lookup o.account = .good line r from good]
    rfl
  exact State.drive_of_two_commands (s := s.executing tag code (.repairWait o))
    (t := s.executing tag code (.repairRead o)) rest rest
    (u := ({ s with cache := s.cache.touch line } : State).answered tag code .refused 17 []) rest wait read rfl

/-- Settles O22: the refusal of the start, the two answers of the read, and the wait where every unit waits. -/
theorem repairWritesADamagedAccountsRecord : Obligations.RepairWritesADamagedAccountsRecord := by
  intro s tag o h hc
  have start := exec_accepts h (c := .repairAccount o) hc tag
  have goes (ready : s.port.state = .ready) :
      exec (.repairAccount tag o) s = .next (s.executing tag 0x41 (.repairWait o)).drive := by
    refine start.trans (congrArg Host.Outcome.next ?_)
    simp only [State.startCommand, State.startRepair]
    rw [if_neg (by simp [State.memoryReady, ready])]
    rfl
  refine ⟨fun notReady => ?notReady, fun ready rest => ⟨fun line r good => ?good, fun line damaged => ?damaged⟩,
    fun ready _ waits => ?waits⟩
  case notReady =>
    refine start.trans (congrArg Host.Outcome.next ?_)
    simp only [State.startCommand, State.startRepair]
    rw [if_pos (by simp [State.memoryReady, notReady])]
    rfl
  case good => rw [goes ready, rest.repair_good good]
  case damaged =>
    rw [goes ready]
    exact congrArg _ (State.drive_of_repairWait (s := s.executing tag 0x41 (.repairWait o)) rest rfl damaged)
  case waits => rw [goes ready, State.drive_of_blocked waits]

end Sys2Proof.Machine
end

section
/-! ## The reconciliation pass (O50): one visit -/

namespace Sys2Proof.Machine

/-! ### The recheck list (R121) -/

/-- The recheck list is in ascending index. -/
def recheckAscending (l : List (Nat × Standing)) : Prop := (l.map Prod.fst).Pairwise (fun a b => a < b)

/-- An index put on an ascending list stands between the lower and the higher ones, in the place of its own entry. -/
theorem putRecheck_eq {l : List (Nat × Standing)} (h : recheckAscending l) (i : Nat) (st : Standing) :
    putRecheck i st l = (l.filter fun r => decide (r.1 < i)) ++ (i, st) :: l.filter fun r => decide (i < r.1) := by
  induction l with
  | nil => rfl
  | cons r rest ih =>
    obtain ⟨j, t⟩ := r
    obtain ⟨above, h'⟩ := List.pairwise_cons.1 h
    have higher (r : Nat × Standing) (hr : r ∈ rest) : j < r.1 := above r.1 (List.mem_map_of_mem hr)
    rcases Nat.lt_trichotomy i j with lower | same | upper
    · have noLower : rest.filter (fun r => decide (r.1 < i)) = [] :=
        List.filter_eq_nil_iff.2 fun r hr => by have := higher r hr; simp; omega
      have allHigher : rest.filter (fun r => decide (i < r.1)) = rest :=
        List.filter_eq_self.2 fun r hr => by have := higher r hr; simp; omega
      simp [putRecheck, lower, Nat.lt_asymm lower, noLower, allHigher]
    · subst same
      have noLower : rest.filter (fun r => decide (r.1 < i)) = [] :=
        List.filter_eq_nil_iff.2 fun r hr => by have := higher r hr; simp; omega
      have allHigher : rest.filter (fun r => decide (i < r.1)) = rest :=
        List.filter_eq_self.2 fun r hr => by have := higher r hr; simp; omega
      simp [putRecheck, noLower, allHigher]
    · simp [putRecheck, upper, Nat.lt_asymm upper, Nat.ne_of_gt upper, ih h']

/-- An index put on the list changes no other's standing. -/
theorem lookup_putRecheck_other {i j : Nat} (h : j ≠ i) (st : Standing) (l : List (Nat × Standing)) :
    (putRecheck i st l).lookup j = l.lookup j := by
  have apart : (j == i) = false := beq_eq_false_iff_ne.2 h
  induction l with
  | nil => simp [putRecheck, List.lookup, apart]
  | cons r rest ih =>
    obtain ⟨k, t⟩ := r
    rw [putRecheck]
    split
    · simp [List.lookup, apart]
    · split
      · rename_i same
        subst same
        simp [List.lookup, apart]
      · simp only [List.lookup, ih]

/-- An index taken off the list changes no other's standing. -/
theorem lookup_filter_other {i j : Nat} (h : j ≠ i) (l : List (Nat × Standing)) :
    (l.filter fun r => r.1 != i).lookup j = l.lookup j := by
  induction l with
  | nil => rfl
  | cons r rest ih =>
    obtain ⟨k, t⟩ := r
    by_cases same : k = i
    · have apart : (j == k) = false := beq_eq_false_iff_ne.2 (same ▸ h)
      simp only [List.filter_cons, same, bne_self_eq_false, Bool.false_eq_true, if_false, ih, List.lookup]
      rw [show (j == i) = false from beq_eq_false_iff_ne.2 h]
    · simp only [List.filter_cons, bne_iff_ne, ne_eq, same, not_false_eq_true, if_true, List.lookup, ih]

/-- Indices taken off an ascending list below 192 leave one. -/
theorem recheckAscending_filter {l : List (Nat × Standing)} (h : recheckAscending l) (p : Nat × Standing → Bool) :
    recheckAscending (l.filter p) := List.Pairwise.sublist (List.filter_sublist.map _) h

theorem recheckAscending_putRecheck {l : List (Nat × Standing)} (h : recheckAscending l) (i : Nat) (st : Standing) :
    recheckAscending (putRecheck i st l) := by
  have above (n : Nat) (hn : n ∈ (l.filter fun r => decide (i < r.1)).map Prod.fst) : i < n := by
    obtain ⟨r, hr, rfl⟩ := List.mem_map.1 hn
    simpa using (List.mem_filter.1 hr).2
  have below (n : Nat) (hn : n ∈ (l.filter fun r => decide (r.1 < i)).map Prod.fst) : n < i := by
    obtain ⟨r, hr, rfl⟩ := List.mem_map.1 hn
    simpa using (List.mem_filter.1 hr).2
  rw [putRecheck_eq h, recheckAscending, List.map_append, List.map_cons, List.pairwise_append, List.pairwise_cons]
  refine ⟨recheckAscending_filter h _, ⟨above, recheckAscending_filter h _⟩, fun a ha b hb => ?_⟩
  have low := below a ha
  rcases List.mem_cons.1 hb with rfl | hb
  · exact low
  · exact low.trans (above b hb)

theorem mem_putRecheck {l : List (Nat × Standing)} {i : Nat} {st : Standing} {r : Nat × Standing}
    (h : r ∈ putRecheck i st l) : r = (i, st) ∨ r ∈ l := by
  induction l with
  | nil => exact .inl (List.mem_singleton.1 h)
  | cons x rest ih =>
    obtain ⟨k, t⟩ := x
    rw [putRecheck] at h
    split at h
    · exact List.mem_cons.1 h
    · split at h
      · exact (List.mem_cons.1 h).imp_right (List.mem_cons_of_mem _)
      · rcases List.mem_cons.1 h with same | h
        · exact .inr (same ▸ List.mem_cons_self)
        · exact (ih h).imp_right (List.mem_cons_of_mem _)

/-- The recheck list as the pass keeps it: in ascending index, participants alone (R121). -/
def recheckSound (l : List (Nat × Standing)) : Prop :=
  (l.map Prod.fst).Pairwise (fun a b => a < b) ∧ ∀ r ∈ l, r.1 < 192

theorem recheckSound_filter {l : List (Nat × Standing)} (h : recheckSound l) (p : Nat × Standing → Bool) :
    recheckSound (l.filter p) :=
  ⟨recheckAscending_filter h.1 p, fun r hr => h.2 r (List.mem_filter.1 hr).1⟩

theorem recheckSound_putRecheck {l : List (Nat × Standing)} (h : recheckSound l) {i : Nat} (participant : i < 192)
    (st : Standing) : recheckSound (putRecheck i st l) :=
  ⟨recheckAscending_putRecheck h.1 i st, fun r hr => by
    rcases mem_putRecheck hr with rfl | hr
    · exact participant
    · exact h.2 r hr⟩

/-- Such a list has at most 192 entries. -/
theorem recheckSound_length {l : List (Nat × Standing)} (h : recheckSound l) : l.length ≤ 192 := by
  have nodup : (l.map Prod.fst).Nodup := h.1.imp Nat.ne_of_lt
  have inRange : l.map Prod.fst ⊆ List.range 192 := fun n hn => by
    obtain ⟨r, hr, rfl⟩ := List.mem_map.1 hn
    exact List.mem_range.2 (h.2 r hr)
  simpa using (nodup.subperm inRange).length_le

/-! ### One visit (R120, R121, R150) -/

section
variable (s : State) (i : Nat) (st : Standing)

/-- The index off the recheck list: what a visit leaves that ends in nothing. -/
def State.visited : State := s.setRecheck (s.posting.recheck.filter fun r => r.1 != i)

/-- A visit that ends in an accepted request: the queue with it, and the index off the recheck list. -/
def State.visitQueues (f : Feeder) (queue : List OrderEntry) : State :=
  (s.setPort f { s.ports[f] with queue := queue }).visited i

/-- A visit whose request is refused: QUEUE_FULL, and the index in its place on the recheck list. -/
def State.visitRefused (f slot : Nat) (kind : OrderKind) : State :=
  (s.setRecheck ((s.posting.recheck.filter fun r => decide (r.1 < i)) ++
    (i, st) :: s.posting.recheck.filter fun r => decide (i < r.1))).raise (.queueFull f slot kind)

/-- The entry of an accepted request (R149, R150). -/
def freshOrder (slot participant : Nat) (kind : OrderKind) (watts : Nat) : OrderEntry :=
  { slot := slot, participant := participant, kind := kind, watts := watts, sends := 0, sent := false, waited := 0,
    turned := false, sentAtHead := false }

/-- A VACANT index leaves without a request. -/
theorem State.reconcileAt_of_vacant (vacant : (s.active.entry i).kind = .vacant) : s.reconcileAt i st = s.visited i := by
  have empty : nonVacant (s.active.entry i) = false := by rw [nonVacant, vacant]; rfl
  simp only [State.reconcileAt, empty, Bool.not_false, if_true]
  rfl

variable {s i st}

/-- The visit of an occupied index at its feeder's queue, with the order its standing wants. -/
theorem State.reconcileAt_of_wanted {f : Feeder} {kind : OrderKind} {watts : Nat}
    (occupied : (s.active.entry i).kind ≠ .vacant) (feeder : (s.active.entry i).feeder = f.val)
    (want : wanted (s.active.entry i) st = (kind, watts)) :
    s.reconcileAt i st =
      if orderNeeded (entryFor s.ports[f].queue (s.active.entry i).slot) (s.liveOf i).limitActive kind watts then
        match requestOrder s.ports[f].queue (s.active.entry i).slot i kind watts with
        | some queue => s.visitQueues i f queue
        | none => (s.setRecheck (putRecheck i st s.posting.recheck)).raise (.queueFull f.val (s.active.entry i).slot kind)
      else s.visited i := by
  have full : nonVacant (s.active.entry i) = true := bne_iff_ne.2 occupied
  have port : s.ports[f.val]? = some s.ports[f] := Vector.getElem?_eq_getElem f.isLt
  have put (p : FeederPort) : s.ports.setIfInBounds f.val p = s.ports.set f p :=
    Vector.ext fun k hk => by simp [Vector.getElem_set, Vector.getElem_setIfInBounds]
  simp only [State.reconcileAt, full, feeder, port, want, put, Bool.not_true, Bool.false_eq_true, if_false]
  rfl

section
variable {f : Feeder} {kind : OrderKind} {watts : Nat} (occupied : (s.active.entry i).kind ≠ .vacant)
  (feeder : (s.active.entry i).feeder = f.val) (want : wanted (s.active.entry i) st = (kind, watts))
include occupied feeder want

/-- The queue has an entry for the slot: it is replaced in place, unless it asks for the same. -/
theorem State.reconcileAt_of_entry {x : OrderEntry}
    (held : s.ports[f].queue.find? (fun x => x.slot == (s.active.entry i).slot) = some x) :
    s.reconcileAt i st =
      if x.kind = kind ∧ x.watts = watts then s.visited i
      else s.visitQueues i f (s.ports[f].queue.map fun y =>
        if y.slot = (s.active.entry i).slot then freshOrder (s.active.entry i).slot i kind watts else y) := by
  have entry : entryFor s.ports[f].queue (s.active.entry i).slot = some x := held
  rw [State.reconcileAt_of_wanted occupied feeder want]
  simp only [orderNeeded, requestOrder, entry, Option.isSome_some, if_true]
  by_cases same : x.kind = kind ∧ x.watts = watts
  · simp [same]
  · rw [if_neg same, if_pos (by simpa [imp_iff_not_or] using same)]
    rfl

variable (absent : s.ports[f].queue.find? (fun x => x.slot == (s.active.entry i).slot) = none)
include absent

/-- No entry, and the flag matches: nothing is asked. -/
theorem State.reconcileAt_of_matching (matching : orderMatches kind (s.liveOf i).limitActive = true) :
    s.reconcileAt i st = s.visited i := by
  have entry : entryFor s.ports[f].queue (s.active.entry i).slot = none := absent
  rw [State.reconcileAt_of_wanted occupied feeder want, entry]
  simp [orderNeeded, matching]

/-- No entry, the flag does not match, and the queue has room: the request joins it. -/
theorem State.reconcileAt_of_room (unmatched : orderMatches kind (s.liveOf i).limitActive = false)
    (room : s.ports[f].queue.length < 16) :
    s.reconcileAt i st =
      s.visitQueues i f (s.ports[f].queue ++ [freshOrder (s.active.entry i).slot i kind watts]) := by
  have entry : entryFor s.ports[f].queue (s.active.entry i).slot = none := absent
  rw [State.reconcileAt_of_wanted occupied feeder want]
  simp only [orderNeeded, requestOrder, entry, unmatched, Option.isSome_none, Config.queue, room, Bool.not_false, if_true,
    Bool.false_eq_true, if_false]
  rfl

/-- No entry, the flag does not match, and the queue is full: the request is refused. -/
theorem State.reconcileAt_of_full (unmatched : orderMatches kind (s.liveOf i).limitActive = false)
    (full : 16 ≤ s.ports[f].queue.length) (ascending : recheckAscending s.posting.recheck) :
    s.reconcileAt i st = s.visitRefused i st f.val (s.active.entry i).slot kind := by
  have entry : entryFor s.ports[f].queue (s.active.entry i).slot = none := absent
  rw [State.reconcileAt_of_wanted occupied feeder want, putRecheck_eq ascending]
  simp only [orderNeeded, requestOrder, entry, unmatched, Option.isSome_none, Config.queue, Nat.not_lt.2 full,
    Bool.not_false, if_true, Bool.false_eq_true, if_false]
  rfl

end

/-- Everything a visit can do to the recheck list: the index is taken off, or put on with its standing (R121). -/
theorem State.reconcileAt_recheck (s : State) (i : Nat) (st : Standing) :
    (s.reconcileAt i st).posting.recheck = s.posting.recheck.filter (fun r => r.1 != i) ∨
      (s.reconcileAt i st).posting.recheck = putRecheck i st s.posting.recheck := by
  simp only [State.reconcileAt]
  split
  · exact .inl rfl
  · split
    · exact .inl rfl
    · split
      · split
        · exact .inl rfl
        · exact .inr rfl
      · exact .inl rfl

/-- A visit changes no other index's standing on the recheck list. -/
theorem State.reconcileAt_lookup_other (s : State) {i j : Nat} (h : j ≠ i) (st : Standing) :
    (s.reconcileAt i st).posting.recheck.lookup j = s.posting.recheck.lookup j := by
  obtain off | on := s.reconcileAt_recheck i st
  · rw [off, lookup_filter_other h]
  · rw [on, lookup_putRecheck_other h]

/-- A visit keeps the recheck list's form. -/
theorem State.reconcileAt_recheckSound {s : State} {i : Nat} (participant : i < 192) (st : Standing)
    (h : recheckSound s.posting.recheck) : recheckSound (s.reconcileAt i st).posting.recheck := by
  obtain off | on := s.reconcileAt_recheck i st
  · rw [off]
    exact recheckSound_filter h _
  · rw [on]
    exact recheckSound_putRecheck h participant st

end

end Sys2Proof.Machine
end

section
/-! ## The reconciliation pass (O50), whole -/

namespace Sys2Proof.Machine

/-! ### The visits of a pass (R121) -/

/-- The visits of a pass, in ascending index: the concerned participants with the standing of the pass, those of the recheck
list with their entries'. -/
def visitsOf (concerned recheck : List (Nat × Standing)) : List (Nat × Standing) :=
  (List.range 192).filterMap fun i =>
    match concerned.lookup i, recheck.lookup i with
    | some st, _ => some (i, st)
    | none, some st => some (i, st)
    | none, none => none

/-- A visit of the pass as the pass itself finds it. -/
theorem State.passStanding_eq (s : State) (concerned : List (Nat × Standing)) (i : Nat) :
    (match concerned.lookup i, s.posting.recheck.lookup i with
      | some st, _ => some (i, st)
      | none, some st => some (i, st)
      | none, none => none) = (s.passStanding concerned i).map fun st => (i, st) := by
  rw [State.passStanding]
  rcases concerned.lookup i with _ | st
  · rcases s.posting.recheck.lookup i with _ | st <;> rfl
  · rfl

/-- A pass goes by the recheck list as it stood before: an earlier visit changes no later index's entry. -/
theorem State.reconcile_eq_visits (s : State) (concerned : List (Nat × Standing)) :
    s.reconcile concerned = (visitsOf concerned s.posting.recheck).foldl (fun t v => t.reconcileAt v.1 v.2) s := by
  have pass (l : List Nat) (nodup : l.Nodup) (t : State)
      (same : ∀ i ∈ l, t.posting.recheck.lookup i = s.posting.recheck.lookup i) :
      l.foldl (fun u i =>
          match u.passStanding concerned i with
          | some st => u.reconcileAt i st
          | none => u) t =
        (l.filterMap fun i => (s.passStanding concerned i).map fun st => (i, st)).foldl
          (fun u v => u.reconcileAt v.1 v.2) t := by
    induction l generalizing t with
    | nil => rfl
    | cons i rest ih =>
      obtain ⟨fresh, nodup'⟩ := List.nodup_cons.1 nodup
      have standing : t.passStanding concerned i = s.passStanding concerned i := by
        rw [State.passStanding, State.passStanding, same i List.mem_cons_self]
      rw [List.foldl_cons, standing, List.filterMap_cons]
      rcases s.passStanding concerned i with _ | st
      · exact ih nodup' t fun j hj => same j (List.mem_cons_of_mem _ hj)
      · refine ih nodup' _ fun j hj => ?_
        have other : j ≠ i := fun e => fresh (e ▸ hj)
        exact (t.reconcileAt_lookup_other other st).trans (same j (List.mem_cons_of_mem _ hj))
  have visits : visitsOf concerned s.posting.recheck =
      indices.filterMap fun i => (s.passStanding concerned i).map fun st => (i, st) :=
    congrArg (List.filterMap · indices) (funext (s.passStanding_eq concerned))
  rw [visits]
  exact pass indices List.nodup_range s fun _ _ => rfl

/-- With the recheck list empty, a pass for one participant is its visit. -/
theorem visitsOf_one {i : Nat} (participant : i < 192) (st : Standing) : visitsOf [(i, st)] [] = [(i, st)] := by
  obtain ⟨before, after, split⟩ := List.append_of_mem (List.mem_range.2 participant)
  have nodup : (before ++ i :: after).Nodup := split ▸ List.nodup_range
  have apart := List.nodup_append.1 nodup
  have other (l : List Nat) (h : i ∉ l) : l.filterMap (fun j =>
      match [(i, st)].lookup j, ([] : List (Nat × Standing)).lookup j with
      | some st, _ => some (j, st)
      | none, some st => some (j, st)
      | none, none => none) = [] :=
    List.filterMap_eq_nil_iff.2 fun j hj => by
      have ne : (j == i) = false := beq_eq_false_iff_ne.2 fun e => h (e ▸ hj)
      simp [List.lookup, ne]
  rw [visitsOf, split, List.filterMap_append, other before fun m => apart.2.2 i m i List.mem_cons_self rfl,
    List.filterMap_cons, other after (List.nodup_cons.1 apart.2.1).1]
  simp [List.lookup]

/-- A pass for a system account alone visits nobody. -/
theorem visitsOf_system {a : Nat} (system : 192 ≤ a) (st : Standing) : visitsOf [(a, st)] [] = [] :=
  List.filterMap_eq_nil_iff.2 fun j hj => by
    have ne : (j == a) = false := beq_eq_false_iff_ne.2 (by have := List.mem_range.1 hj; omega)
    simp [List.lookup, ne]

/-- A pass keeps the recheck list's form. -/
theorem State.reconcile_recheckSound {s : State} (concerned : List (Nat × Standing))
    (h : recheckSound s.posting.recheck) : recheckSound (s.reconcile concerned).posting.recheck := by
  have visits (l : List (Nat × Standing)) (participants : ∀ v ∈ l, v.1 < 192) (t : State)
      (h : recheckSound t.posting.recheck) :
      recheckSound (l.foldl (fun t v => t.reconcileAt v.1 v.2) t).posting.recheck := by
    induction l generalizing t with
    | nil => exact h
    | cons v rest ih =>
      exact ih (fun w hw => participants w (List.mem_cons_of_mem _ hw)) _
        (State.reconcileAt_recheckSound (participants v List.mem_cons_self) v.2 h)
  rw [s.reconcile_eq_visits]
  refine visits _ (fun v hv => ?_) s h
  obtain ⟨i, hi, visit⟩ := List.mem_filterMap.1 hv
  rw [s.passStanding_eq concerned i, Option.map_eq_some_iff] at visit
  obtain ⟨st, -, rfl⟩ := visit
  exact List.mem_range.1 hi

/-! ### The statement -/

/-- What a standing wants (R120). -/
theorem wanted_of_limits {e : ParticipantEntry} {st : Standing} (h : st = .arrears ∧ 0 < e.limit) :
    wanted e st = (.limit, e.limit) := by
  simp [wanted, h]

theorem wanted_of_not {e : ParticipantEntry} {st : Standing} (h : ¬(st = .arrears ∧ 0 < e.limit)) :
    wanted e st = (.release, 0) := by
  simp only [wanted, Bool.and_eq_true, decide_eq_true_eq]
  exact if_neg h

/-- The flag that confirms an order of a kind (R154). -/
def confirmingFlag : OrderKind → Bool
  | .limit => true
  | .release => false

theorem orderMatches_of_eq {kind : OrderKind} {flag : Bool} (h : flag = confirmingFlag kind) :
    orderMatches kind flag = true := by
  subst h
  cases kind <;> rfl

theorem orderMatches_of_ne {kind : OrderKind} {flag : Bool} (h : flag ≠ confirmingFlag kind) :
    orderMatches kind flag = false := by
  obtain rfl : flag = !confirmingFlag kind := Bool.eq_not.2 h
  cases kind <;> rfl

/-- The live-state record of a participant index. -/
theorem State.liveOf_val (s : State) (i : Fin 192) : s.liveOf i.val = s.live[i] := by
  simp [State.liveOf]

/-- What a visit at a feeder's queue comes to, when its standing wants an order which a flag confirms (R120, R121, R150). -/
def State.visitSays (s : State) (i : Fin 192) (st : Standing) (f : Feeder) (kind : OrderKind) (watts : Nat) (flag : Bool) :
    Prop :=
  let slot := (s.active.entry i).slot
  let queue := s.ports[f].queue
  (∀ x, queue.find? (fun x => x.slot == slot) = some x →
    s.reconcileAt i st =
      if x.kind = kind ∧ x.watts = watts then s.visited i
      else s.visitQueues i f (queue.map fun y => if y.slot = slot then freshOrder slot i kind watts else y)) ∧
  (queue.find? (fun x => x.slot == slot) = none →
    (s.live[i].limitActive = flag → s.reconcileAt i st = s.visited i) ∧
    (s.live[i].limitActive ≠ flag → queue.length < 16 →
      s.reconcileAt i st = s.visitQueues i f (queue ++ [freshOrder slot i kind watts])) ∧
    (s.live[i].limitActive ≠ flag → 16 ≤ queue.length → recheckAscending s.posting.recheck →
      s.reconcileAt i st = s.visitRefused i st f.val slot kind))

section
variable {s : State} {i : Fin 192} {st : Standing} {f : Feeder} {kind : OrderKind} {watts : Nat}

theorem State.visitSays_of_wanted (occupied : (s.active.entry i).kind ≠ .vacant)
    (feeder : (s.active.entry i).feeder = f.val) (want : wanted (s.active.entry i) st = (kind, watts)) :
    s.visitSays i st f kind watts (confirmingFlag kind) := by
  rw [State.visitSays, ← s.liveOf_val]
  exact ⟨fun x held => State.reconcileAt_of_entry occupied feeder want held, fun absent =>
    ⟨fun same => State.reconcileAt_of_matching occupied feeder want absent (orderMatches_of_eq same),
      fun other room => State.reconcileAt_of_room occupied feeder want absent (orderMatches_of_ne other) room,
      fun other full ascending =>
        State.reconcileAt_of_full occupied feeder want absent (orderMatches_of_ne other) full ascending⟩⟩

/-- A visit says so for each of the two orders a standing can want (R120). -/
theorem State.visitSays_of_standing (occupied : (s.active.entry i).kind ≠ .vacant)
    (feeder : (s.active.entry i).feeder = f.val) :
    (st = .arrears ∧ 0 < (s.active.entry i).limit → s.visitSays i st f .limit (s.active.entry i).limit true) ∧
    (¬(st = .arrears ∧ 0 < (s.active.entry i).limit) → s.visitSays i st f .release 0 false) :=
  ⟨fun limits => State.visitSays_of_wanted occupied feeder (wanted_of_limits limits),
    fun limits => State.visitSays_of_wanted occupied feeder (wanted_of_not limits)⟩

/-- With the recheck list empty, a visit that ends in nothing leaves the engine as it is. -/
theorem State.visited_of_nil (empty : s.posting.recheck = []) (i : Nat) : s.visited i = s := by
  have same : s.posting.recheck.filter (fun r => r.1 != i) = s.posting.recheck := by rw [empty]; rfl
  rw [State.visited, same]
  rfl

/-- With the recheck list empty, a pass for one participant is its visit. -/
theorem State.reconcile_one (empty : s.posting.recheck = []) (i : Fin 192) (st : Standing) :
    s.reconcile [(i.val, st)] = s.reconcileAt i st := by
  rw [s.reconcile_eq_visits, empty, visitsOf_one i.isLt]
  rfl

end

/-- Settles O50: the visits of a pass, each visit by what it finds in the queue, and the recheck list's form. -/
theorem reconciliationRequestsTheOrderTheStandingWants : Obligations.ReconciliationRequestsTheOrderTheStandingWants := by
  refine ⟨fun s st empty => ⟨fun a system => ?system, fun i vacant => ?oneVacant, fun i f occupied feeder => ?one⟩,
    fun s concerned => s.reconcile_eq_visits concerned,
    fun s i st => ⟨s.reconcileAt_of_vacant i st, fun f occupied feeder => ?visit⟩,
    fun s concerned sound => ⟨State.reconcile_recheckSound concerned sound,
      recheckSound_length (State.reconcile_recheckSound concerned sound)⟩⟩
  case system =>
    rw [s.reconcile_eq_visits, empty, visitsOf_system system]
    rfl
  case oneVacant => rw [State.reconcile_one empty, s.reconcileAt_of_vacant i st vacant, State.visited_of_nil empty]
  case one =>
    rw [State.reconcile_one empty]
    have one {kind : OrderKind} {watts : Nat} {flag : Bool} (visit : s.visitSays i st f kind watts flag) :=
      And.intro (fun x held => And.intro (fun same => (visit.1 x held).trans (if_pos same))
        fun other => (visit.1 x held).trans (if_neg other)) visit.2
    have queues (queue : List OrderEntry) :
        s.visitQueues i f queue = s.setPort f { s.ports[f] with queue := queue } :=
      State.visited_of_nil (s := s.setPort f { s.ports[f] with queue := queue }) empty i
    simp only [State.visited_of_nil empty, queues, State.visitRefused, recheckAscending, empty, List.map_nil,
      List.Pairwise.nil, forall_const] at one
    obtain ⟨limit, release⟩ := State.visitSays_of_standing occupied feeder
    exact ⟨fun limits => one (limit limits), fun limits => one (release limits)⟩
  case visit => exact State.visitSays_of_standing occupied feeder

end Sys2Proof.Machine
end

section
/-! ## A record written is read back (O47; R129, R192) -/

namespace Sys2Proof.Machine

/-- A part of a slice from its beginning. -/
theorem slice_slice (bytes : List Byte) (offset more : Nat) {n k : Nat} (h : more + k ≤ n) :
    slice (slice bytes offset n) more k = slice bytes (offset + more) k := by
  simp only [slice, List.drop_take, List.drop_drop, List.take_take]
  rw [Nat.min_eq_left (by omega)]

/-- A minute count behind its presence byte is read back (R192). -/
theorem minuteAt_of_slice {bytes : List Byte} {offset : Nat} {m : Option Nat} (h : slice bytes offset 5 = minuteField m)
    (fits : ∀ n, m = some n → n ≤ 94371839) : minuteAt bytes offset = some m := by
  have mark : slice bytes offset 1 = slice (minuteField m) 0 1 := by
    rw [← h, slice_slice bytes offset 0 (by omega), Nat.add_zero]
  have count : slice bytes (offset + 1) 4 = slice (minuteField m) 1 4 := by rw [← h, slice_slice bytes offset 1 (by omega)]
  rw [minuteAt, optionalAt, field, field, mark, count]
  rcases m with _ | n
  · rfl
  · have value : fromBe (slice (minuteField (some n)) 1 4) = n := by
      have small := fits n rfl
      exact fromBe_be (n := 4) (by omega)
    rw [value]
    rfl

/-- Where the fields of a record stand (section 12.4). -/
theorem recordBytes_slices (a : Nat) (r : AccountRecord) :
    slice (recordBytes a r) 0 1 = be 1 a ∧ slice (recordBytes a r) 1 6 = signedBe 6 r.balance ∧
    slice (recordBytes a r) 7 4 = be 4 r.baseExport.toNat ∧ slice (recordBytes a r) 11 4 = be 4 r.baseImport.toNat ∧
    slice (recordBytes a r) 15 5 = minuteField r.baseMinute ∧ slice (recordBytes a r) 20 1 = be 1 (recordFlags r) ∧
    slice (recordBytes a r) 21 5 = minuteField r.lastPosted := by
  obtain ⟨balance, baseExport, baseImport, _ | minute, rebase, standing, _ | posted⟩ := r <;>
    exact ⟨rfl, rfl, rfl, rfl, rfl, rfl, rfl⟩

/-- The flag byte holds both flags (R192). -/
theorem recordFlags_bits (r : AccountRecord) :
    recordFlags r ≤ 3 ∧ decide (recordFlags r % 2 = 1) = r.rebasePending ∧
      (if 2 ≤ recordFlags r then Standing.arrears else Standing.current) = r.standing := by
  obtain ⟨_, _, _, _, rebase, standing, _⟩ := r
  cases rebase <;> cases standing <;> simp [recordFlags, standingCode]

/-- A record whose fields fit their bytes is what its bytes hold (R129, R192). -/
theorem entryOf_recordBytes {a : Nat} {r : AccountRecord} (account : a ≤ 195) (balance : balanceInRange r.balance = true)
    (minute : ∀ n, r.baseMinute = some n → n ≤ 94371839) (posted : ∀ n, r.lastPosted = some n → n ≤ 94371839) :
    entryOf (recordBytes a r) = some (a, r) := by
  obtain ⟨accounts, balances, exports, imports, minutes, flags, lasts⟩ := recordBytes_slices a r
  obtain ⟨small, rebase, standing⟩ := recordFlags_bits r
  have size : (recordBytes a r).length = Config.recordSize := recordBytes_length a r
  have good : checkGood (recordBytes a r) = true := checkGood_withCheck _
  have within : -140737488355327 ≤ r.balance ∧ r.balance ≤ 140737488355327 := by
    obtain ⟨low, high⟩ := (Bool.and_eq_true _ _).mp balance
    exact ⟨of_decide_eq_true low, of_decide_eq_true high⟩
  have theAccount : fromBe (be 1 a) = a := fromBe_be (by omega)
  have theBalance : fromSignedBe (signedBe 6 r.balance) = r.balance := fromSignedBe_signedBe (by omega) (by omega)
  have theFlags : fromBe (be 1 (recordFlags r)) = recordFlags r := fromBe_be (by omega)
  have counter (c : Counter) : BitVec.ofNat 32 (fromBe (be 4 c.toNat)) = c := by
    rw [fromBe_be (by have := c.isLt; omega), BitVec.ofNat_toNat, BitVec.setWidth_eq]
  simp only [entryOf, field, accounts, balances, exports, imports, flags, size, good, theAccount, theBalance, theFlags,
    counter, rebase, standing, minuteAt_of_slice minutes minute, minuteAt_of_slice lasts posted, balance, account, small,
    decide_true, Bool.and_self, if_true, Option.bind_some, Option.map_some]

/-- A record written in its place is what a later read of the place gives (R129). -/
theorem recordOf_written {m : List Host.Cell} {a : Nat} {r : AccountRecord} (canonical : Memory.wf m = true)
    (account : a ≤ 195) (balance : balanceInRange r.balance = true)
    (minute : ∀ n, r.baseMinute = some n → n ≤ 94371839) (posted : ∀ n, r.lastPosted = some n → n ≤ 94371839) :
    recordOf a (readBytes (writeUnit m (32 + 32 * a) (recordBytes a r)) (32 + 32 * a) 28) = some r := by
  have back := readBytes_writeUnit (32 + 32 * a) (bytes := recordBytes a r) canonical
  rw [recordBytes_length] at back
  rw [back, recordOf, entryOf_recordBytes account balance minute posted]
  exact if_pos rfl

end Sys2Proof.Machine
end

section
/-! ## The Posting Unit alone at work (O47, O48) -/

namespace Sys2Proof.Machine

/-- Every unit rests but the Posting Unit, whose book is the oldest that is not final; the memory is READY and the port
free. -/
structure State.postingAlone (s : State) : Prop where
  notQuiesced : s.isQuiesced = false
  noSequence : s.sequence = .none
  freePort : s.port.inProgress = none
  noStartup : s.port.startup = .idle
  ready : s.port.state = .ready
  commandDone : s.commandDone = true
  notAwaiting : s.activation.phase ≠ .awaitQuiet
  notChecking : s.activation.phase ≠ .checking
  noMarking : s.activation.marking = []
  noNotice : ∀ f : Feeder, s.ports[f].prefetch.isWaiting = false
  settled : ∀ w, s.work = some w → w.stage = .done
  oldest : ∀ b, s.oldestOpen = some b → b.state = .posting

/-- The Posting Unit is alone at work where the rest of the engine, its work and its books put aside, is at rest. -/
theorem State.postingAlone_of_resting {s : State}
    (rest : ({ s with work := none, books := [], posting := { s.posting with phase := .idle } } : State).resting)
    (ready : s.port.state = .ready) (done : s.commandDone = true) (settled : ∀ w, s.work = some w → w.stage = .done)
    (oldest : ∀ b, s.books.find? (fun x => x.state != .posted && x.state != .discarded) = some b → b.state = .posting) :
    s.postingAlone := by
  obtain ⟨awake, sequence, -, -, free, startup, awaiting, checking, marking, -, notices⟩ := rest
  rw [Book.open_eq] at oldest
  exact ⟨awake, sequence, free, startup, ready, done, awaiting, checking, marking, notices, settled, oldest⟩

namespace State.postingAlone

variable {s t : State} (h : s.postingAlone)
include h

/-- The other units do not go by the memory, the header copy, the cache, the posting or the Attention List. -/
theorem update (keeps : t = { s with memory := t.memory, port := { s.port with header := t.port.header }, cache := t.cache,
                                     posting := t.posting, attention := t.attention }) : t.postingAlone := by
  rw [keeps]
  exact ⟨h.notQuiesced, h.noSequence, h.freePort, h.noStartup, h.ready, h.commandDone, h.notAwaiting, h.notChecking,
    h.noMarking, h.noNotice, h.settled, h.oldest⟩

theorem settleTurn : s.settleTurn = none := by
  rcases hw : s.work with _ | w
  · exact State.settleTurn_of_noWork hw
  · exact State.settleTurn_of_done hw (h.settled w hw)

theorem settleWant : s.settleWant = none := by
  rcases hw : s.work with _ | w
  · simp only [State.settleWant, hw, Option.bind_none]
  · simp only [State.settleWant, hw, Option.bind_some, Work.needs, h.settled w hw]

/-- No turn but the Posting Unit's. -/
theorem turn_eq : s.turn = s.postTurn := by
  have unadmitted : s.admissible = none := by
    rcases ho : s.oldestOpen with _ | b
    · simp only [State.admissible, ho]
    · exact State.admissible_of_oldest ho (by rw [h.oldest b ho]; exact BookState.noConfusion)
  have command : s.commandOrBookTurn = none := by
    simp only [State.commandOrBookTurn, unadmitted, State.commandTurn_of_done h.commandDone]
  have commit : s.commitTurn = none := by simp [State.commitTurn, State.commitMoment_of_phase h.notAwaiting]
  simp only [State.turn, h.notQuiesced, h.noSequence, h.settleTurn, State.checkTurn_of_notChecking h.notChecking,
    State.markTurn_of_nil h.noMarking, command, commit, State.noticeTurn_of_none h.noNotice, Bool.false_eq_true, if_false]
  rcases s.postTurn with _ | _ <;> rfl

/-- What the Posting Unit asks for is granted. -/
theorem grant_of_want {o : PortOp} (want : s.postWant = some o) : s.grant = s.beginOp o := by
  have startup : s.port.startupWant = none := by simp only [MemoryPort.startupWant, h.noStartup]
  have memory : s.memoryReady = true := beq_iff_eq.2 h.ready
  have unit : s.unitWant = some (.op o) := by
    simp only [State.unitWant, memory, h.noSequence, h.settleWant, want]
    rfl
  refine State.grant_of_op h.freePort ?_
  simp only [State.want, h.notQuiesced, h.noSequence, startup, unit, Bool.false_eq_true, if_false]
  rfl

/-- A turn of the Posting Unit. -/
theorem takesTurn (turn : s.postTurn = some t) : State.takesTurns 1 s t := .one (h.turn_eq.trans turn)

/-- A completion beside the Posting Unit alone: its turns, and the grant of what it then asks for. -/
theorem completed_of_turns {n : Nat} {o : PortOp} (turns : State.takesTurns n s t) (within : n ≤ 8192)
    (h' : t.postingAlone) (still : t.postTurn = none) (want : t.postWant = some o) : s.completed = t.beginOp o := by
  rw [State.completed, State.endCut_of_done h.commandDone, turns.drive_eq within (h'.turn_eq.trans still),
    h'.grant_of_want want]

end State.postingAlone

/-! ### Images in their lines (R115, R117, R140) -/

section
variable {c : Cache} {i : Image} {line : Nat}

theorem Cache.lt_of_line {j : Nat} {l : CacheLine} (h : c.line j = some l) : j < 32 := by
  by_contra out
  simp [Cache.line, out] at h

theorem Cache.lt_of_find {a j : Nat} (h : c.find a = some j) : j < 32 := by
  obtain ⟨l, held, -⟩ := Cache.line_of_find h
  exact Cache.lt_of_line held

/-- A line holds one account. -/
theorem Cache.ne_of_find {a b j k : Nat} (ha : c.find a = some j) (hb : c.find b = some k) (ne : a ≠ b) : j ≠ k := by
  rintro rfl
  obtain ⟨l, hl, rfl⟩ := Cache.line_of_find ha
  obtain ⟨l', hl', rfl⟩ := Cache.line_of_find hb
  rw [hl] at hl'
  exact ne (congrArg CacheLine.tag (Option.some.inj hl'))

/-- An image placed in a line is what the line holds. -/
theorem Cache.line_place (c : Cache) (line : Nat) (i : Image) (inCache : line < 32) (j : Nat) :
    ∃ locked, (c.place line i).line j =
      if j = line then some { tag := i.account, record := some i.record, dirty := true, locked := locked }
      else c.line j :=
  ⟨_, Cache.line_set c line j _ inCache⟩

theorem Cache.isDirty_place_other {j : Nat} (c : Cache) (i : Image) (inCache : line < 32) (other : j ≠ line) :
    (c.place line i).isDirty j = c.isDirty j := by
  obtain ⟨_, held⟩ := Cache.line_place c line i inCache j
  rw [Cache.isDirty, held, if_neg other, Cache.isDirty]

/-- An image placed in the line that holds its account moves no account. -/
theorem Cache.find_place_held (h : c.find i.account = some line) (a : Nat) : (c.place line i).find a = c.find a := by
  obtain ⟨l, hl, tag⟩ := Cache.line_of_find h
  refine Cache.find_congr (fun j => ?_) a
  obtain ⟨_, held⟩ := Cache.line_place c line i (Cache.lt_of_find h) j
  rw [held]
  split
  · rename_i same
    rw [same, hl, Option.map_some, Option.map_some, tag]
  · rfl

/-- An image placed in a victim's line is found there. -/
theorem Cache.find_place_victim (miss : c.find i.account = none) (inCache : line < 32) :
    (c.place line i).find i.account = some line := by
  have tags (d : Cache) (j : Nat) : ((c.place line i).line j).map CacheLine.tag =
      ((c.fill line i.account (some i.record)).line j).map CacheLine.tag := by
    obtain ⟨_, held⟩ := Cache.line_place c line i inCache j
    rw [held, Cache.line_fill c line j _ _ inCache]
    split <;> rfl
  rw [Cache.find_congr (tags c), Cache.find_fill c line i.account (some i.record) inCache miss]

end

/-- ARREARS where an image moves its account from CURRENT (R115). -/
def AttentionList.afterImage (l : AttentionList) (t : TableSet) (i : Image) : AttentionList :=
  if i.record.standing = .arrears ∧ i.was = .current then
    l.raise (.arrears i.account i.record.balance (t.entry i.account).creditFloor)
  else l

/-- The engine once an image is in its line: the cache and the Attention List alone change. -/
def State.imagePlaced (s : State) (line : Nat) (i : Image) : State :=
  { s with cache := s.cache.place line i, attention := s.attention.afterImage s.active i }

theorem State.placeImage_eq (s : State) (line : Nat) (i : Image) : s.placeImage line i = s.imagePlaced line i := by
  simp only [State.placeImage, State.raiseArrears, State.imagePlaced, AttentionList.afterImage, Bool.and_eq_true,
    decide_eq_true_eq]
  split <;> rfl

/-! ### The Posting Unit's turns and requests (R116 to R118) -/

section
variable {s : State} {i : Image} {start line : Nat}

/-- An image's line is still dirty. -/
def State.imageDirty (s : State) (i : Image) : Bool :=
  match s.cache.find i.account with
  | some l => s.cache.isDirty l
  | none => false

/-- With every line clean, none is written next. -/
theorem State.nextWriteBack_of_clean (clean : ∀ x ∈ s.posting.images, s.imageDirty x = false) : s.nextWriteBack = none := by
  rw [State.nextWriteBack, List.findSome?_eq_none_iff]
  intro x hx
  have written := clean x hx
  rw [State.imageDirty] at written
  rcases hf : s.cache.find x.account with _ | l
  · rfl
  · rw [hf] at written
    simp only [written, Bool.false_eq_true, if_false]

/-- The first of the book's lines that is still dirty is the next one written (R118). -/
theorem State.nextWriteBack_of_dirty {before after : List Image} (images : s.posting.images = before ++ i :: after)
    (clean : ∀ x ∈ before, s.imageDirty x = false) (found : s.cache.find i.account = some line)
    (dirty : s.cache.isDirty line = true) : s.nextWriteBack = some (line, i.account) := by
  have skipped := State.nextWriteBack_of_clean (s := { s with posting := { s.posting with images := before } }) clean
  rw [State.nextWriteBack] at skipped ⊢
  rw [images, List.findSome?_append, skipped, List.findSome?_cons]
  simp only [found, dirty, if_true]
  rfl

/-- In JOURNAL the Posting Unit waits for the port. -/
theorem State.postTurn_of_journal (phase : s.posting.phase = .journal) : s.postTurn = none := by
  simp only [State.postTurn, phase]

/-- In CLEAR too. -/
theorem State.postTurn_of_clear (phase : s.posting.phase = .clear) : s.postTurn = none := by
  simp only [State.postTurn, phase]

/-- In APPLY the next image takes its line, or a clean victim's (R117). -/
theorem State.postTurn_of_image (phase : s.posting.phase = .apply) (durable : s.posting.durable = true)
    (image : s.posting.images[s.posting.cursor]? = some i) (free : s.port.inProgress = none)
    (place : s.placeLine i = some line) :
    s.postTurn = some ((s.placeImage line i).setPosting .apply (s.posting.cursor + 1)) := by
  have unfilled : s.port.fills i.account = false := by simp only [MemoryPort.fills, free]
  simp only [State.postTurn, phase, durable, image, unfilled, place, Bool.not_true, Bool.false_eq_true, if_false]

/-- It waits for the port while no line is free for its image (R138). -/
theorem State.postTurn_of_unplaced (phase : s.posting.phase = .apply) (durable : s.posting.durable = true)
    (image : s.posting.images[s.posting.cursor]? = some i) (unplaced : s.placeLine i = none) : s.postTurn = none := by
  simp only [State.postTurn, phase, durable, image, unplaced, Bool.not_true, Bool.false_eq_true, ite_self]

/-- Every image applied, it goes on to WRITE_BACK (R118). -/
theorem State.postTurn_of_applied (phase : s.posting.phase = .apply) (durable : s.posting.durable = true)
    (applied : s.posting.images[s.posting.cursor]? = none) : s.postTurn = some (s.setPosting .writeBack 0) := by
  simp only [State.postTurn, phase, durable, applied, Bool.not_true, Bool.false_eq_true, if_false]

theorem State.postTurn_of_writing {w : Nat × Nat} (phase : s.posting.phase = .writeBack) (next : s.nextWriteBack = some w) :
    s.postTurn = none := by
  simp only [State.postTurn, phase, next, Option.isNone_some, Bool.false_eq_true, if_false]

/-- Every line written, it goes on to CLEAR (R118). -/
theorem State.postTurn_of_written (phase : s.posting.phase = .writeBack) (none : s.nextWriteBack = none) :
    s.postTurn = some (s.setPosting .clear 0) := by
  simp only [State.postTurn, phase, none, Option.isNone_none, if_true]

theorem State.postWant_of_writing (phase : s.posting.phase = .writeBack) (book : s.posting.book = some start)
    {a : Nat} (next : s.nextWriteBack = some (line, a)) : s.postWant = some (.writeBack .postingWriteBack line a) := by
  simp only [State.postWant, phase, book, next, Option.map_some]

theorem State.postWant_of_clear {copy : Header} (phase : s.posting.phase = .clear) (book : s.posting.book = some start)
    (header : s.port.header = some copy) :
    s.postWant = some (.journalClear .posting { copy with journal := .empty, lastPosted := some start }) := by
  simp only [State.postWant, phase, book, MemoryPort.copy, header, Option.getD_some]

/-- An image that no line is free for asks for its dirty victim's write-back (R138). -/
theorem State.postWant_of_victim {l : CacheLine} (phase : s.posting.phase = .apply) (durable : s.posting.durable = true)
    (book : s.posting.book = some start) (image : s.posting.images[s.posting.cursor]? = some i)
    (free : s.port.inProgress = none) (unplaced : s.placeLine i = none) (victim : s.cache.victim none = some line)
    (held : s.cache.line line = some l) : s.postWant = some (.writeBack (.postingVictim i) line l.tag) := by
  have unfilling : s.port.filling = none := by simp only [MemoryPort.filling, free]
  simp only [State.postWant, phase, durable, book, image, unplaced, unfilling, victim, held, Bool.not_true,
    Option.isSome_none, Bool.false_eq_true, if_false, Option.bind_some, Option.map_some]

/-- An image whose account a line holds takes that line (R140). -/
theorem State.placeLine_of_held (found : s.cache.find i.account = some line) : s.placeLine i = some line := by
  simp only [State.placeLine, found]

/-- An image without a line, and a dirty victim: no line is free (R138). -/
theorem State.placeLine_of_dirty {l : CacheLine} (miss : s.cache.find i.account = none) (free : s.port.inProgress = none)
    (victim : s.cache.victim none = some line) (held : s.cache.line line = some l) (dirty : l.dirty = true) :
    s.placeLine i = none := by
  have unfilling : s.port.filling = none := by simp only [MemoryPort.filling, free]
  have lineDirty : s.cache.isDirty line = true := by simp only [Cache.isDirty, held, dirty]
  simp only [State.placeLine, miss, unfilling, victim, lineDirty, if_true]

end

end Sys2Proof.Machine
end

section
/-! ## A write-back completes (O47) -/

namespace Sys2Proof.Machine

/-- The engine once a line's record is in its place: the line clean, the port free (R139). -/
def State.lineWritten (s : State) (line a : Nat) (r : AccountRecord) (locked : Bool) : State :=
  { s with
    memory := writeUnit s.memory (32 + 32 * a) (recordBytes a r)
    cache := s.cache.set line (some { tag := a, record := some r, dirty := false, locked := locked })
    port := { s.port with inProgress := none } }

theorem Cache.clean_of_held {c : Cache} {line : Nat} {l : CacheLine} (held : c.line line = some l) :
    c.clean line = c.set line (some { l with dirty := false }) := by
  rw [Cache.clean, held]

section
variable {s : State} {line a : Nat} {r : AccountRecord} {dirty locked : Bool} {purpose : WriteBackUse}

/-- A line that holds its record is written and clean (R139). -/
theorem State.writeLine_of_held
    (held : s.cache.line line = some { tag := a, record := some r, dirty := dirty, locked := locked }) :
    s.idlePort.writeLine line a = s.lineWritten line a r locked := by
  have written : s.idlePort.writeLine line a = { s.idlePort.writeRecord a r with cache := s.cache.clean line } := by
    rw [State.writeLine, State.idlePort_cache, held]
    exact if_pos rfl
  rw [written, Cache.clean_of_held held]
  simp only [State.writeRecord, State.writeAt, State.idlePort, State.lineWritten, Config.recordPlace]

/-- A write-back's completion, before the work it belongs to goes on. -/
theorem exec_cacheWriteBack (op : s.port.inProgress = some (.writeBack purpose line a))
    (held : s.cache.line line = some { tag := a, record := some r, dirty := dirty, locked := locked }) :
    exec .cacheWriteBack s = .next ((s.lineWritten line a r locked).afterWriteBack purpose line).completed := by
  change Host.Outcome.next s.writeBackDone = _
  simp only [State.writeBackDone, op, State.writeLine_of_held held]

end

/-! ### The flushes of the power warning and of a RESTART sequence (R145, R146, R175, R176) -/

section
variable {s : State}

theorem State.endCut_of_idle (idle : s.link.executing = none) : s.endCut = s :=
  State.endCut_of_done (by simp only [State.commandDone, State.run, idle, Option.map_none])

/-- The flush of the power warning ends with its last line. -/
theorem State.completed_of_quiesced_clean (quiesced : s.isQuiesced = true) (warned : s.powerWarning = true)
    (idle : s.link.executing = none) (clean : s.cache.dirtyAccounts = []) : s.completed = s := by
  rw [State.completed, State.endCut_of_idle idle,
    State.drive_of_none (State.turn_of_warned quiesced warned (State.commandTurn_of_idle idle)),
    State.grant_of_quiesced_still quiesced (.inr clean)]

/-- The flush of the power warning goes on with the line of the lowest dirty account (R146). -/
theorem State.completed_of_quiesced_dirty {b next : Nat} {more : List Nat} (quiesced : s.isQuiesced = true)
    (warned : s.powerWarning = true) (idle : s.link.executing = none) (free : s.port.inProgress = none)
    (dirty : s.cache.dirtyAccounts = b :: more) (found : s.cache.find b = some next) :
    s.completed = s.onPort (.writeBack .powerFlush next b) := by
  rw [State.completed, State.endCut_of_idle idle,
    State.drive_of_none (State.turn_of_warned quiesced warned (State.commandTurn_of_idle idle)),
    State.grant_of_quiesced_flush quiesced free dirty found]

/-- The flush of a RESTART sequence goes on likewise (R175 step 5; log 46). -/
theorem State.completed_of_sequence_dirty {keepHeld : Bool} {b next : Nat} {more : List Nat} (runs : s.isQuiesced = false)
    (flush : s.sequence = .flush keepHeld) (idle : s.link.executing = none) (free : s.port.inProgress = none)
    (dirty : s.cache.dirtyAccounts = b :: more) (found : s.cache.find b = some next) :
    s.completed = s.onPort (.writeBack .restartFlush next b) := by
  have unflushed : s.flushed = false := State.flushed_of_busy (.inr (by rw [dirty]; exact List.cons_ne_nil _ _))
  have still : s.turn = none := by
    simp only [State.turn, runs, flush, unflushed, Bool.false_eq_true, if_false]
  have want : s.want = some (.op (.writeBack .restartFlush next b)) := by
    simp only [State.want, runs, flush, Bool.false_eq_true, if_false]
    exact State.flushWant_of_cons dirty found
  rw [State.completed, State.endCut_of_idle idle, State.drive_of_none still]
  exact State.grant_of_op free want

end

/-- The flush over, start-up begins with its header read (R175 steps 6 and 7, R176). -/
theorem State.startupHeaderRead_eq (s : State) {keepHeld : Bool} :
    (s.beginStartup keepHeld).onPort .startupHeaderRead =
      { s with
        cache := .empty, sequence := .startup keepHeld
        ports := s.ports.map fun p => { p with prefetch := if p.prefetch.isWaiting then .none else p.prefetch }
        port := { s.port with state := .notReady, startup := .readingHeader, inProgress := some .startupHeaderRead } } := by
  rw [State.beginStartup, State.withdrawPrefetches_eq]
  rfl

/-! ### FLUSH goes on with its list (R144) -/

section
variable {s : State} {tag code : Byte}

/-- FLUSH counts a line and goes on with the rest of its list. -/
theorem State.flushCounted_of_flush {a n : Nat} {rest : List Nat}
    (he : s.link.executing = some { tag := tag, code := code, run := .flush (a :: rest) n }) :
    s.flushCounted = s.executing tag code (.flush rest (n + 1)) := by
  simp only [State.flushCounted, State.run_of_executing he, State.setRun_of_executing he]

/-- An account whose line is gone or clean: FLUSH passes over it. -/
def Cache.passes (c : Cache) (x : Nat) : Prop := ∀ l, c.find x = some l → c.isDirty l = false

/-- FLUSH passes over the accounts whose lines are gone or clean, a turn for each. -/
theorem State.resting.flush_turns (rest : s.resting) (before after : List Nat) (n : Nat)
    (passed : ∀ x ∈ before, s.cache.passes x) :
    State.takesTurns before.length (s.executing tag code (.flush (before ++ after) n))
      (s.executing tag code (.flush after n)) := by
  induction before with
  | nil => rfl
  | cons x more ih =>
    have rest' : (s.executing tag code (.flush (x :: more ++ after) n)).resting := rest
    have unevicting : s.port.evicting = none := by simp only [MemoryPort.evicting, rest.freePort]
    have turn : (s.executing tag code (.flush (x :: more ++ after) n)).commandTurn =
        some (s.executing tag code (.flush (more ++ after) n)) := by
      change State.flushTurn _ (x :: (more ++ after)) n = _
      have clean := passed x List.mem_cons_self
      simp only [State.flushTurn]
      rcases hf : s.cache.find x with _ | l
      · rw [show (s.executing tag code (.flush (x :: more ++ after) n)).cache.find x = none from hf]
        exact if_neg (by
          rw [show (s.executing tag code (.flush (x :: more ++ after) n)).port.evicting = none from unevicting]
          exact nofun)
      · rw [show (s.executing tag code (.flush (x :: more ++ after) n)).cache.find x = some l from hf]
        exact if_neg (by
          rw [show (s.executing tag code (.flush (x :: more ++ after) n)).cache.isDirty l = false from clean l hf]
          exact Bool.false_ne_true)
    exact ⟨_, (State.turn_of_resting rest').trans turn, ih fun y hy => passed y (List.mem_cons_of_mem _ hy)⟩

/-- FLUSH goes on to the next account whose line is dirty: its write-back is granted. -/
theorem State.resting.flush_goesOn (rest : s.resting) {before after : List Nat} {b next n : Nat}
    (short : before.length ≤ 8192) (passed : ∀ x ∈ before, s.cache.passes x) (found : s.cache.find b = some next)
    (dirty : s.cache.isDirty next = true) :
    (s.executing tag code (.flush (before ++ b :: after) n)).drive =
      (s.executing tag code (.flush (b :: after) n)).onPort (.writeBack .flush next b) := by
  have rest' : (s.executing tag code (.flush (b :: after) n)).resting := rest
  have still : (s.executing tag code (.flush (b :: after) n)).commandTurn = none := by
    change State.flushTurn _ (b :: after) n = none
    simp only [State.flushTurn, show (s.executing tag code (.flush (b :: after) n)).cache.find b = some next from found,
      show (s.executing tag code (.flush (b :: after) n)).cache.isDirty next = true from dirty, if_true]
  have want : (s.executing tag code (.flush (b :: after) n)).commandWant = some (.op (.writeBack .flush next b)) := by
    change State.writeBackWant _ .flush b = _
    rw [State.writeBackWant, show (s.executing tag code (.flush (b :: after) n)).cache.find b = some next from found]
    rfl
  rw [(rest.flush_turns before (b :: after) n passed).drive_eq short ((State.turn_of_resting rest').trans still)]
  exact State.grant_of_op rest'.freePort ((State.want_of_resting rest').trans want)

/-- FLUSH with no dirty line left on its list is DONE with its count. -/
theorem State.resting.flush_done (rest : s.resting) {list : List Nat} {n : Nat} (short : list.length ≤ 8191)
    (passed : ∀ x ∈ list, s.cache.passes x) :
    (s.executing tag code (.flush list n)).drive = s.answered tag code .done 0 (be 1 n) := by
  have turns := rest.flush_turns (tag := tag) (code := code) list [] n passed
  rw [List.append_nil] at turns
  have rest' : (s.executing tag code (.flush [] n)).resting := rest
  have restEnd : (s.answered tag code .done 0 (be 1 n)).resting := rest
  have last : (s.executing tag code (.flush [] n)).commandTurn = some (s.answered tag code .done 0 (be 1 n)) := rfl
  rw [(turns.trans (.one ((State.turn_of_resting rest').trans last))).drive_eq (by omega)
      ((State.turn_of_resting restEnd).trans (State.commandTurn_of_done rfl)),
    State.grant_of_none ((State.want_of_resting restEnd).trans (State.commandWant_of_done rfl))]

/-- A FLUSH that was cut ends with its count (R169; log 19). -/
theorem State.resting.flush_cut (rest : s.resting) {reason : CutReason} {n : Nat}
    (he : s.link.executing = some { tag := tag, code := code, run := .cutting reason (some n) }) :
    s.flushCounted.completed = s.answered tag code .cut (cutCode reason) (be 1 (n + 1)) := by
  have counted : s.flushCounted = s.executing tag code (.cutting reason (some (n + 1))) := by
    simp only [State.flushCounted, State.run_of_executing he, State.setRun_of_executing he]
  rw [counted]
  exact State.drive_of_resting (s := s.answered tag code .cut (cutCode reason) (be 1 (n + 1))) rest rfl

end

/-! ### TRANSFER's two lines (R124, step 4; log 48) -/

section
variable {s : State} {tag code : Byte} {o : TransferOrder} {images : List Image}

/-- TRANSFER goes on from a line written. -/
theorem State.afterWriteBack_of_transfer {n : Nat} (line : Nat)
    (he : s.link.executing = some { tag := tag, code := code, run := .transferWriteBack o images n }) :
    s.afterWriteBack .transfer line = s.executing tag code (.transferWriteBack o images (n + 1)) := by
  simp only [State.afterWriteBack, State.run_of_executing he, State.setRun_of_executing he]

/-- TRANSFER asks for the write-back of the next line that is dirty. -/
theorem State.resting.transfer_writes (rest : s.resting) {n next : Nat} {q : Image} (image : images[n]? = some q)
    (found : s.cache.find q.account = some next) (dirty : s.cache.isDirty next = true) :
    (s.executing tag code (.transferWriteBack o images n)).completed =
      (s.executing tag code (.transferWriteBack o images n)).onPort (.writeBack .transfer next q.account) := by
  have rest' : (s.executing tag code (.transferWriteBack o images n)).resting := rest
  have still : (s.executing tag code (.transferWriteBack o images n)).commandTurn = none := by
    change State.transferWriteTurn _ o images n = none
    simp only [State.transferWriteTurn, image,
      show (s.executing tag code (.transferWriteBack o images n)).cache.find q.account = some next from found,
      show (s.executing tag code (.transferWriteBack o images n)).cache.isDirty next = true from dirty, if_true]
  have want : (s.executing tag code (.transferWriteBack o images n)).commandWant =
      some (.op (.writeBack .transfer next q.account)) := by
    change (images[n]?.bind fun i => State.writeBackWant _ .transfer i.account) = _
    rw [image, Option.bind_some, State.writeBackWant,
      show (s.executing tag code (.transferWriteBack o images n)).cache.find q.account = some next from found]
    rfl
  exact State.drive_of_resting_op rest' still want

/-- Both lines written, TRANSFER asks for the header write of journal state EMPTY (R124, step 5). -/
theorem State.resting.transfer_clears (rest : s.resting) {n : Nat} {copy : Header} (written : images[n]? = none)
    (header : s.port.header = some copy) :
    (s.executing tag code (.transferWriteBack o images n)).completed =
      (s.executing tag code (.transferClear o images)).onPort (.journalClear .transfer { copy with journal := .empty }) := by
  have turn : (s.executing tag code (.transferWriteBack o images n)).commandTurn =
      some (s.executing tag code (.transferClear o images)) := by
    change State.transferWriteTurn _ o images n = _
    simp only [State.transferWriteTurn, written]
    rfl
  have want : (s.executing tag code (.transferClear o images)).commandWant =
      some (.op (.journalClear .transfer { copy with journal := .empty })) := by
    change some (Want.op (.journalClear .transfer { s.port.copy with journal := .empty })) = _
    rw [MemoryPort.copy, header]
    rfl
  exact State.drive_of_command_op (s := s.executing tag code (.transferWriteBack o images n))
    (t := s.executing tag code (.transferClear o images)) rest rest turn rfl want

end

/-! ### The posting's lines (R118) -/

section
variable {s : State} {start : Nat}

/-- A posting's WRITE_BACK goes on with the book's next dirty line. -/
theorem State.postingAlone.writes_next (h : s.postingAlone) (phase : s.posting.phase = .writeBack)
    (book : s.posting.book = some start) {before after : List Image} {i : Image} {next : Nat}
    (images : s.posting.images = before ++ i :: after) (clean : ∀ x ∈ before, s.imageDirty x = false)
    (dirty : s.imageDirty i = true) (found : s.cache.find i.account = some next) :
    s.completed = s.onPort (.writeBack .postingWriteBack next i.account) := by
  have lineDirty : s.cache.isDirty next = true := by
    rw [State.imageDirty, found] at dirty
    exact dirty
  have first := State.nextWriteBack_of_dirty images clean found lineDirty
  exact h.completed_of_turns (n := 0) rfl (by decide) h (State.postTurn_of_writing phase first)
    (State.postWant_of_writing phase book first)

/-- After the book's last dirty line the phase is CLEAR and the header write of journal state EMPTY is granted. -/
theorem State.postingAlone.clears (h : s.postingAlone) (phase : s.posting.phase = .writeBack)
    (book : s.posting.book = some start) {copy : Header} (header : s.port.header = some copy)
    (clean : ∀ x ∈ s.posting.images, s.imageDirty x = false) :
    s.completed =
      (s.setPosting .clear 0).onPort (.journalClear .posting { copy with journal := .empty, lastPosted := some start }) := by
  have turn := h.takesTurn (State.postTurn_of_written phase (State.nextWriteBack_of_clean clean))
  have alone : (s.setPosting .clear 0).postingAlone := h.update rfl
  exact h.completed_of_turns turn (by decide) alone (State.postTurn_of_clear rfl) (State.postWant_of_clear rfl book header)

end

/-- Settles O47: the line written, then the work it belongs to, by its purpose; and the record read back. -/
theorem writeBackPutsTheLinesRecordInItsPlace : Obligations.WriteBackPutsTheLinesRecordInItsPlace := by
  refine ⟨fun s line a r dirty locked use op held => ?writes, fun m a r canonical account balance minute posted =>
    recordOf_written canonical account balance minute posted⟩
  have done := exec_cacheWriteBack op held
  refine ⟨fun purpose quiesced warned idle => ?power, fun tag code n purpose rest he => ?flushLast,
    fun tag code n list purpose rest short he => ?flush, fun keepHeld purpose flush runs idle => ?restart,
    fun tag code reason n purpose rest he => ?cut, fun tag code o p q copy purpose rest header _ => ?transfer,
    fun start copy purpose phase book header ready commandDone settled oldest rest => ?posting⟩
  all_goals subst purpose; rw [done]
  case power =>
    exact ⟨fun clean => congrArg _ (State.completed_of_quiesced_clean (s := s.lineWritten line a r locked) quiesced warned
      idle clean), fun b more next unclean found => congrArg _ (State.completed_of_quiesced_dirty
        (s := s.lineWritten line a r locked) quiesced warned idle rfl unclean found)⟩
  case flushLast =>
    have goesOn : (s.lineWritten line a r locked).afterWriteBack .flush line = _ :=
      State.flushCounted_of_flush (s := s.lineWritten line a r locked) he
    rw [goesOn]
    exact congrArg _ (State.resting.flush_done (s := s.lineWritten line a r locked) rest (list := []) (by decide) nofun)
  case flush =>
    have goesOn : (s.lineWritten line a r locked).afterWriteBack .flush line = _ :=
      State.flushCounted_of_flush (s := s.lineWritten line a r locked) he
    rw [goesOn]
    refine ⟨fun before b after next split passed found dirty => ?_, fun passed => ?_⟩
    · subst split
      exact congrArg _ (State.resting.flush_goesOn (s := s.lineWritten line a r locked) rest
        (by rw [List.length_append] at short; omega) passed found dirty)
    · exact congrArg _ (State.resting.flush_done (s := s.lineWritten line a r locked) rest (by omega) passed)
  case restart =>
    refine ⟨fun b more next unclean found => congrArg _ (State.completed_of_sequence_dirty
      (s := s.lineWritten line a r locked) runs flush idle rfl unclean found), fun clean => congrArg _ ?_⟩
    exact (State.completed_of_flushed (s := s.lineWritten line a r locked) runs flush idle rfl clean).trans
      (State.startupHeaderRead_eq _)
  case cut =>
    refine congrArg _ ((State.resting.flush_cut (s := s.lineWritten line a r locked) rest he).trans ?_)
    cases reason <;> rfl
  case transfer =>
    refine ⟨fun next he _ found dirty => ?_, fun he _ => ?_⟩
    · have goesOn := State.afterWriteBack_of_transfer (s := s.lineWritten line a r locked) line he
      rw [goesOn]
      exact congrArg _ (State.resting.transfer_writes (s := s.lineWritten line a r locked) rest rfl found dirty)
    · have goesOn := State.afterWriteBack_of_transfer (s := s.lineWritten line a r locked) line he
      rw [goesOn]
      exact congrArg _ (State.resting.transfer_clears (s := s.lineWritten line a r locked) rest rfl header)
  case posting =>
    have alone : (s.lineWritten line a r locked).postingAlone :=
      State.postingAlone_of_resting rest ready commandDone settled oldest
    exact ⟨fun before i after next images clean dirty found => congrArg _
      (alone.writes_next phase book images clean dirty found),
      fun clean => congrArg _ (alone.clears phase book header clean)⟩

end Sys2Proof.Machine
end

section
/-! ## The journal's entries and its header (O48) -/

namespace Sys2Proof.Machine

/-- The engine once a unit is at its place: the port free. -/
def State.unitWritten (s : State) (place : Nat) (bytes : List Byte) : State :=
  { s with memory := writeUnit s.memory place bytes, port := { s.port with inProgress := none } }

section
variable {s : State} {user : JournalUser}

/-- A journal entry's completion, before the work it belongs to goes on. -/
theorem exec_journalEntryWrite {n : Nat} {i : Image} (op : s.port.inProgress = some (.journalEntry user n i)) :
    exec .journalEntryWrite s = .next
      ((s.unitWritten (6304 + 32 * n) (recordBytes i.account i.record)).afterEntry user).completed := by
  change Host.Outcome.next s.journalEntryDone = _
  simp only [State.journalEntryDone, op]
  rfl

/-- A header's completion, before the work it belongs to goes on; the header copy goes with it (R130). -/
theorem exec_journalHeaderWrite {h : Header} (op : s.port.inProgress = some (.journalHeader user h)) :
    exec .journalHeaderWrite s = .next ((s.headerCleared h).afterHeader user).completed := by
  change Host.Outcome.next s.journalHeaderDone = _
  simp only [State.journalHeaderDone, op]
  rfl

end

/-! ### Two images in the lines that hold their accounts (R124, step 3; R140; log 48) -/

section
variable {c : Cache} {i j : Nat} {p q : Image}

theorem Cache.find_place_two (first : c.find p.account = some i) (second : c.find q.account = some j) (a : Nat) :
    ((c.place i p).place j q).find a = c.find a := by
  rw [Cache.find_place_held ((Cache.find_place_held first q.account).trans second), Cache.find_place_held first]

/-- The first image's line stays dirty when the second is placed. -/
theorem Cache.isDirty_place_two (first : c.find p.account = some i) (second : c.find q.account = some j)
    (differ : p.account ≠ q.account) : ((c.place i p).place j q).isDirty i = true := by
  rw [Cache.isDirty_place_other _ q (Cache.lt_of_find second) (Cache.ne_of_find first second differ),
    Cache.isDirty_place _ _ _ (Cache.lt_of_find first)]

theorem Cache.find_clean (c : Cache) (i a : Nat) : (c.clean i).find a = c.find a := by
  rw [Cache.clean]
  rcases held : c.line i with _ | l
  · rfl
  · refine Cache.find_congr (fun k => ?_) a
    rw [Cache.line_set c i k _ (Cache.lt_of_line held)]
    split
    · rename_i same
      rw [same, held]
      rfl
    · rfl

end

/-! ### TRANSFER's entries and header (R124) -/

section
variable {s : State} {tag code : Byte} {o : TransferOrder} {images : List Image} {n : Nat}

/-- TRANSFER goes on from an entry written to the next. -/
theorem State.afterEntry_of_transfer
    (he : s.link.executing = some { tag := tag, code := code, run := .transferJournal o images n })
    (more : n + 1 < images.length) :
    s.afterEntry .transfer = s.executing tag code (.transferJournal o images (n + 1)) := by
  simp only [State.afterEntry, State.run_of_executing he, State.setRun_of_executing he, more, if_true]

/-- After its last entry TRANSFER goes on to the header. -/
theorem State.afterEntry_of_transfer_last
    (he : s.link.executing = some { tag := tag, code := code, run := .transferJournal o images n })
    (last : images.length ≤ n + 1) : s.afterEntry .transfer = s.executing tag code (.transferHeader o images) := by
  simp only [State.afterEntry, State.run_of_executing he, State.setRun_of_executing he, Nat.not_lt.2 last, if_false]

/-- TRANSFER asks for the write of its next entry. -/
theorem State.resting.transfer_entry (rest : s.resting) {q : Image} (image : images[n]? = some q) :
    (s.executing tag code (.transferJournal o images n)).completed =
      (s.executing tag code (.transferJournal o images n)).onPort (.journalEntry .transfer n q) := by
  have rest' : (s.executing tag code (.transferJournal o images n)).resting := rest
  have want : (s.executing tag code (.transferJournal o images n)).commandWant =
      some (.op (.journalEntry .transfer n q)) := by
    change images[n]?.map (fun i => Want.op (.journalEntry .transfer n i)) = _
    rw [image, Option.map_some]
  exact State.drive_of_resting_op rest' rfl want

/-- Its entries written, TRANSFER asks for the header TRANSFER_READY, whose other fields come from the copy (R130). -/
theorem State.resting.transfer_header (rest : s.resting) {copy : Header} (header : s.port.header = some copy) :
    (s.executing tag code (.transferHeader o images)).completed =
      (s.executing tag code (.transferHeader o images)).onPort
        (.journalHeader .transfer { copy with journal := .transferReady, book := none, count := 2 }) := by
  have rest' : (s.executing tag code (.transferHeader o images)).resting := rest
  have want : (s.executing tag code (.transferHeader o images)).commandWant =
      some (.op (.journalHeader .transfer { copy with journal := .transferReady, book := none, count := 2 })) := by
    change some (Want.op (.journalHeader .transfer
      { s.port.copy with journal := .transferReady, book := none, count := 2 })) = _
    rw [MemoryPort.copy, header]
    rfl
  exact State.drive_of_resting_op rest' rfl want

/-- An image applied to the line that holds its account. -/
theorem State.applyImage_of_held {i : Image} {line : Nat} (found : s.cache.find i.account = some line) :
    s.applyImage i = s.imagePlaced line i := by
  simp only [State.applyImage, found, State.placeImage_eq]

/-- The header marked, TRANSFER applies both images (R124, step 3). -/
theorem State.afterHeader_of_transfer {p q : Image} {i j : Nat}
    (he : s.link.executing = some { tag := tag, code := code, run := .transferHeader o [p, q] })
    (first : s.cache.find p.account = some i) (second : s.cache.find q.account = some j) :
    s.afterHeader .transfer =
      ((s.imagePlaced i p).imagePlaced j q).executing tag code (.transferWriteBack o [p, q] 0) := by
  have second' : (s.imagePlaced i p).cache.find q.account = some j :=
    (Cache.find_place_held first q.account).trans second
  have he' : ((s.imagePlaced i p).imagePlaced j q).link.executing =
      some { tag := tag, code := code, run := .transferHeader o [p, q] } := he
  have applied : [p, q].foldl State.applyImage s = (s.imagePlaced i p).imagePlaced j q := by
    rw [List.foldl_cons, List.foldl_cons, List.foldl_nil, State.applyImage_of_held first,
      State.applyImage_of_held second']
  simp only [State.afterHeader, State.run_of_executing he, applied, State.setRun_of_executing he']

/-- Both images applied, TRANSFER asks for the write-back of the payer's line (R124, step 4; log 48). -/
theorem State.resting.transfer_applied (rest : s.resting) {p q : Image} {i j : Nat}
    (first : s.cache.find p.account = some i) (second : s.cache.find q.account = some j)
    (differ : p.account ≠ q.account) :
    (((s.imagePlaced i p).imagePlaced j q).executing tag code (.transferWriteBack o [p, q] 0)).completed =
      (((s.imagePlaced i p).imagePlaced j q).executing tag code (.transferWriteBack o [p, q] 0)).onPort
        (.writeBack .transfer i p.account) := by
  have rest' : ((s.imagePlaced i p).imagePlaced j q).resting := rest
  exact rest'.transfer_writes rfl ((Cache.find_place_two first second p.account).trans first)
    (Cache.isDirty_place_two first second differ)

end

/-! ### A posting's entries and header (R116, R117) -/

section
variable {s : State} {start : Nat}

/-- A phase kept: the cursor alone changes. -/
theorem State.setPosting_of_phase {phase : PostingPhase} (same : s.posting.phase = phase) (n : Nat) :
    s.setPosting phase n = { s with posting := { s.posting with cursor := n } } := by
  rw [State.setPosting, ← same]

/-- The Posting Unit goes on from an entry written. -/
theorem State.afterEntry_of_posting (phase : s.posting.phase = .journal) (awake : s.isQuiesced = false) :
    s.afterEntry .posting = s.setPosting .journal (s.posting.cursor + 1) := by
  simp [State.afterEntry, phase, awake]

/-- The header written, the posting is durable (R117). -/
theorem State.afterHeader_of_posting (phase : s.posting.phase = .apply) (awake : s.isQuiesced = false) :
    s.afterHeader .posting = { s with posting := { s.posting with durable := true } } := by
  simp [State.afterHeader, phase, awake]

/-- A dirty victim written back, its line takes the image (R138). -/
theorem State.afterWriteBack_of_victim (phase : s.posting.phase = .apply) (awake : s.isQuiesced = false) (line : Nat)
    (i : Image) :
    s.afterWriteBack (.postingVictim i) line = (s.placeImage line i).setPosting .apply (s.posting.cursor + 1) := by
  simp [State.afterWriteBack, phase, awake]

namespace State.postingAlone

variable (h : s.postingAlone)
include h

/-- JOURNAL asks for the write of the next entry (R116). -/
theorem journals_entry (phase : s.posting.phase = .journal) (book : s.posting.book = some start) {i : Image}
    (entry : s.posting.images[s.posting.cursor]? = some i) :
    s.completed = s.onPort (.journalEntry .posting s.posting.cursor i) :=
  h.completed_of_turns (n := 0) rfl (by decide) h (State.postTurn_of_journal phase)
    (State.postWant_of_entry phase book entry)

/-- Its entries written, it asks for the header BOOK_READY, whose grant makes the phase APPLY (R117). -/
theorem journals_header (phase : s.posting.phase = .journal) (book : s.posting.book = some start) {copy : Header}
    (header : s.port.header = some copy) (written : s.posting.images[s.posting.cursor]? = none) :
    s.completed = (s.setPosting .apply 0).onPort (.journalHeader .posting
      { copy with journal := .bookReady, book := some start, count := s.posting.images.length }) := by
  have want := State.postWant_of_header phase book written
  rw [show s.port.copy = copy by rw [MemoryPort.copy, header]; rfl] at want
  exact h.completed_of_turns (n := 0) rfl (by decide) h (State.postTurn_of_journal phase) want

/-- An entry written, the next one's write is granted. -/
theorem entry_next (phase : s.posting.phase = .journal) (book : s.posting.book = some start) {i : Image}
    (next : s.posting.images[s.posting.cursor + 1]? = some i) :
    (s.afterEntry .posting).completed =
      ({ s with posting := { s.posting with cursor := s.posting.cursor + 1 } } : State).onPort
        (.journalEntry .posting (s.posting.cursor + 1) i) := by
  have alone : (s.setPosting .journal (s.posting.cursor + 1)).postingAlone := h.update rfl
  rw [State.afterEntry_of_posting phase h.notQuiesced, alone.journals_entry rfl book next,
    State.setPosting_of_phase phase]

/-- The last entry written, the header's write is granted. -/
theorem entry_last (phase : s.posting.phase = .journal) (book : s.posting.book = some start) {copy : Header}
    (header : s.port.header = some copy) (last : s.posting.images[s.posting.cursor + 1]? = none) :
    (s.afterEntry .posting).completed = (s.setPosting .apply 0).onPort (.journalHeader .posting
      { copy with journal := .bookReady, book := some start, count := s.posting.images.length }) := by
  have alone : (s.setPosting .journal (s.posting.cursor + 1)).postingAlone := h.update rfl
  rw [State.afterEntry_of_posting phase h.notQuiesced]
  exact alone.journals_header rfl book header last

/-- An image in its line: APPLY takes one turn for it. -/
theorem places {i : Image} {line : Nat} (phase : s.posting.phase = .apply) (durable : s.posting.durable = true)
    (image : s.posting.images[s.posting.cursor]? = some i) (found : s.cache.find i.account = some line) :
    State.takesTurns 1 s ((s.placeImage line i).setPosting .apply (s.posting.cursor + 1)) :=
  h.takesTurn (State.postTurn_of_image phase durable image h.freePort (State.placeLine_of_held found))

/-- Every image applied, WRITE_BACK asks for the first image's line (R118). -/
theorem applied {t : State} {n : Nat} {p : Image} {more : List Image} {i : Nat} (turns : State.takesTurns n s t)
    (within : n ≤ 8191) (alone : t.postingAlone) (phase : t.posting.phase = .apply)
    (durable : t.posting.durable = true) (book : t.posting.book = some start) (images : t.posting.images = p :: more)
    (done : t.posting.images[t.posting.cursor]? = none) (found : t.cache.find p.account = some i)
    (dirty : t.cache.isDirty i = true) :
    s.completed = (t.setPosting .writeBack 0).onPort (.writeBack .postingWriteBack i p.account) := by
  have first : (t.setPosting .writeBack 0).nextWriteBack = some (i, p.account) :=
    State.nextWriteBack_of_dirty (before := []) images nofun found dirty
  exact h.completed_of_turns (turns.trans (alone.takesTurn (State.postTurn_of_applied phase durable done))) (by omega)
    (alone.update rfl) (State.postTurn_of_writing rfl first)
    (State.postWant_of_writing (s := t.setPosting .writeBack 0) rfl book first)

/-- Two images that lines hold are applied, and the first's line is granted its write-back (R117, R118). -/
theorem applies_two {p q : Image} {i j : Nat} (phase : s.posting.phase = .apply) (durable : s.posting.durable = true)
    (cursor : s.posting.cursor = 0) (book : s.posting.book = some start) (images : s.posting.images = [p, q])
    (first : s.cache.find p.account = some i) (second : s.cache.find q.account = some j)
    (differ : p.account ≠ q.account) :
    s.completed = (((s.imagePlaced i p).imagePlaced j q).setPosting .writeBack 0).onPort
      (.writeBack .postingWriteBack i p.account) := by
  have placedFirst := h.places phase durable (by rw [images, cursor]; rfl) first
  rw [cursor, State.placeImage_eq] at placedFirst
  have aloneFirst := h.update (t := (s.imagePlaced i p).setPosting .apply (0 + 1)) rfl
  have placedSecond := aloneFirst.places (line := j) rfl durable (congrArg (·[1]?) images)
    ((Cache.find_place_held first q.account).trans second)
  rw [State.placeImage_eq] at placedSecond
  exact h.applied (t := ((s.imagePlaced i p).imagePlaced j q).setPosting .apply 2) (placedFirst.trans placedSecond)
    (by decide) (h.update rfl) rfl durable book images (congrArg (·[2]?) images)
    ((Cache.find_place_two first second p.account).trans first) (Cache.isDirty_place_two first second differ)

/-- An image without a line whose victim is dirty has that written back first (R138). -/
theorem writes_victim {p : Image} {more : List Image} {i : Nat} {l : CacheLine} (phase : s.posting.phase = .apply)
    (durable : s.posting.durable = true) (cursor : s.posting.cursor = 0) (book : s.posting.book = some start)
    (images : s.posting.images = p :: more) (miss : s.cache.find p.account = none)
    (victim : s.cache.victim none = some i) (held : s.cache.line i = some l) (dirty : l.dirty = true) :
    s.completed = s.onPort (.writeBack (.postingVictim p) i l.tag) := by
  have image : s.posting.images[s.posting.cursor]? = some p := by rw [images, cursor]; rfl
  have unplaced := State.placeLine_of_dirty miss h.freePort victim held dirty
  exact h.completed_of_turns (n := 0) rfl (by decide) h (State.postTurn_of_unplaced phase durable image unplaced)
    (State.postWant_of_victim phase durable book image h.freePort unplaced victim held)

/-- A dirty victim written back, the book's one image takes its line, which is granted its write-back (R138, R118). -/
theorem victim_taken {p : Image} {i : Nat} (phase : s.posting.phase = .apply) (durable : s.posting.durable = true)
    (cursor : s.posting.cursor = 0) (book : s.posting.book = some start) (images : s.posting.images = [p])
    (miss : s.cache.find p.account = none) (inCache : i < 32) :
    (s.afterWriteBack (.postingVictim p) i).completed =
      ((s.imagePlaced i p).setPosting .writeBack 0).onPort (.writeBack .postingWriteBack i p.account) := by
  rw [State.afterWriteBack_of_victim phase h.notQuiesced, State.placeImage_eq, cursor]
  have alone := h.update (t := (s.imagePlaced i p).setPosting .apply (0 + 1)) rfl
  exact alone.applied (t := (s.imagePlaced i p).setPosting .apply (0 + 1)) (n := 0) rfl (by decide) alone rfl durable book
    images (congrArg (·[1]?) images) (Cache.find_place_victim miss inCache) (Cache.isDirty_place _ _ _ inCache)

end State.postingAlone

end

/-- Settles O48: TRANSFER's entries and header, then a posting's, its dirty victim too. -/
theorem transferJournalsBothImagesThenMarksTheHeader : Obligations.TransferJournalsBothImagesThenMarksTheHeader := by
  refine ⟨fun s tag code o p q copy header rest => ⟨fun he op => ?first, fun he op => ?second,
      fun h i j he op findPayer findPayee differ => ?mark⟩,
    fun s start copy book header ready done settled oldest rest => ⟨fun n i op phase cursor => ?entry,
      fun h op phase cursor => ?header, fun p i l r op phase durable cursor images held record miss => ?victim⟩⟩
  case first =>
    have goesOn := State.afterEntry_of_transfer (s := s.unitWritten 6304 (recordBytes p.account p.record)) he
      Nat.one_lt_two
    rw [exec_journalEntryWrite op, goesOn]
    exact congrArg Host.Outcome.next
      (State.resting.transfer_entry (s := s.unitWritten 6304 (recordBytes p.account p.record)) rest rfl)
  case second =>
    have goesOn := State.afterEntry_of_transfer_last (s := s.unitWritten 6336 (recordBytes q.account q.record)) he
      (Nat.le_refl 2)
    rw [exec_journalEntryWrite op, goesOn]
    exact congrArg Host.Outcome.next
      (State.resting.transfer_header (s := s.unitWritten 6336 (recordBytes q.account q.record)) rest header)
  case mark =>
    rw [exec_journalHeaderWrite op, State.afterHeader_of_transfer (s := s.headerCleared h) he findPayer findPayee]
    exact congrArg Host.Outcome.next
      (State.resting.transfer_applied (s := s.headerCleared h) rest findPayer findPayee differ)
  case entry =>
    have alone : (s.unitWritten (6304 + 32 * n) (recordBytes i.account i.record)).postingAlone :=
      State.postingAlone_of_resting rest ready done settled oldest
    subst cursor
    rw [exec_journalEntryWrite op]
    exact ⟨fun k next => congrArg Host.Outcome.next (alone.entry_next phase book next),
      fun last => congrArg Host.Outcome.next (alone.entry_last phase book header last)⟩
  case header =>
    have alone : (s.headerCleared h).postingAlone := State.postingAlone_of_resting rest ready done settled oldest
    have durable : ({ s.headerCleared h with posting := { s.posting with durable := true } } : State).postingAlone :=
      alone.update rfl
    rw [exec_journalHeaderWrite op, State.afterHeader_of_posting (s := s.headerCleared h) phase alone.notQuiesced]
    refine ⟨fun p q i j images first second differ => congrArg Host.Outcome.next
        ((durable.applies_two phase rfl cursor book images first second differ).trans ?_),
      fun p more i l images miss victim held dirty => congrArg Host.Outcome.next
        (durable.writes_victim phase rfl cursor book images miss victim held dirty)⟩
    simp only [State.imagePlaced, State.headerCleared, State.setPosting, AttentionList.afterImage]
  case victim =>
    obtain ⟨tag, _, dirty, locked⟩ := l
    subst record
    have alone : (s.lineWritten i tag r locked).postingAlone :=
      State.postingAlone_of_resting rest ready done settled oldest
    rw [exec_cacheWriteBack op held, Cache.clean_of_held held]
    have missing : (s.lineWritten i tag r locked).cache.find p.account = none := by
      rw [← miss, ← Cache.find_clean s.cache i, Cache.clean_of_held held]
      rfl
    refine congrArg Host.Outcome.next
      ((alone.victim_taken phase durable cursor book images missing (Cache.lt_of_line held)).trans ?_)
    simp only [State.imagePlaced, State.lineWritten, State.setPosting, AttentionList.afterImage]

end Sys2Proof.Machine
end

section
/-! ## Every step keeps account memory in canonical form (O54; R128, section 12.4) -/

namespace Sys2Proof.Machine

/-- Bytes put into the place of the operation in progress keep the canonical form. -/
theorem State.writesPlace.memoryCanonical {s t : State} (h : s.writesPlace t) (canonical : s.memoryCanonical) :
    t.memoryCanonical := by
  obtain same | ⟨_, place, bytes, -, -, -, written⟩ := h
  · rw [State.memoryCanonical, same]
    exact canonical
  · rw [State.memoryCanonical, written]
    exact Memory.wf_writeBytes place bytes canonical

/-- Settles O54: an event leaves account memory or puts bytes into one place of it, and a write keeps the form. -/
theorem everyStepKeepsMemoryCanonical : Obligations.EveryStepKeepsMemoryCanonical := by
  intro s t canonical next
  rcases queue : s.pending with _ | ⟨c, rest⟩
  · simp only [step, queue] at next
    cases next
    exact canonical
  · simp only [step, queue] at next
    exact (exec_writesPlace next).memoryCanonical canonical

end Sys2Proof.Machine
end

section
/-! ## READ ACCOUNT (O16) and FLUSH (O23) as they start -/

namespace Sys2Proof.Machine

/-! ### READ ACCOUNT (R137, R180) -/

section
variable {s : State} {a line : Nat}

theorem State.readAccountTurn_of_good {r : AccountRecord} (good : s.cache.lookup a = .good line r) :
    s.readAccountTurn a =
      some ((s.touch line).answer .done 0 (be 1 a ++ recordFields r ++ [flagByte (s.cache.isDirty line)])) := by
  simp only [State.readAccountTurn, good]
  rfl

theorem State.readAccountTurn_of_damaged (damaged : s.cache.lookup a = .damaged line) :
    s.readAccountTurn a = some ((s.touch line).answer .done 0 (be 1 a ++ [1])) := by
  simp only [State.readAccountTurn, damaged]
  rfl

theorem State.readAccountTurn_of_miss (miss : s.cache.lookup a = .miss) : s.readAccountTurn a = none := by
  simp only [State.readAccountTurn, miss]

theorem State.startReadAccount_of_notReady (notReady : s.port.state = .notReady) :
    s.startReadAccount a = s.refuse notReadyCode := by
  simp [State.startReadAccount, State.memoryReady, notReady]

/-- Over a READY memory, READ ACCOUNT is served at once or goes to the arbiter (R180). -/
theorem State.startReadAccount_of_ready (ready : s.port.state = .ready) :
    s.startReadAccount a = (s.readAccountTurn a).getD (s.setRun (.readAccount a)).drive := by
  rw [State.startReadAccount, if_neg (by simp [State.memoryReady, ready])]
  rcases s.readAccountTurn a with _ | t <;> rfl

end

/-- Settles O16: the refusal of the start, then the three answers of the cache. -/
theorem readAccountIsServedByTheCacheOrAFill : Obligations.ReadAccountIsServedByTheCacheOrAFill := by
  intro s tag a h inRange
  have start : exec (.readAccount tag a) s = .next ((s.install tag 0x01).startReadAccount a) :=
    exec_accepts h (c := .readAccount a) (decide_eq_true inRange) tag
  rw [start]
  refine ⟨fun notReady => ?notReady, fun line r ready good => ?good, fun line ready damaged => ?damaged,
    fun line ready rest miss victim => ?miss⟩
  case notReady =>
    exact congrArg Host.Outcome.next (State.startReadAccount_of_notReady (s := s.install tag 0x01) notReady)
  case good =>
    rw [State.startReadAccount_of_ready (s := s.install tag 0x01) ready,
      State.readAccountTurn_of_good (s := s.install tag 0x01) good]
    rfl
  case damaged =>
    rw [State.startReadAccount_of_ready (s := s.install tag 0x01) ready,
      State.readAccountTurn_of_damaged (s := s.install tag 0x01) damaged]
    rfl
  case miss =>
    rw [State.startReadAccount_of_ready (s := s.install tag 0x01) ready,
      State.readAccountTurn_of_miss (s := s.install tag 0x01) miss]
    exact congrArg Host.Outcome.next (State.drive_of_resting_read (s := s.executing tag 0x01 (.readAccount a)) rest
      (State.readAccountTurn_of_miss (s := s.executing tag 0x01 (.readAccount a)) miss) rfl victim)

/-! ### FLUSH (R144) -/

/-- The dirty accounts are those of the valid dirty lines. -/
theorem Cache.mem_dirtyAccounts {c : Cache} {a : Nat} :
    a ∈ c.dirtyAccounts ↔ ∃ i : Fin 32, ∃ l, c.lines[i] = some l ∧ l.dirty = true ∧ l.tag = a := by
  have listed (l : Option CacheLine) :
      (match l with | some l => if l.dirty then some l.tag else none | none => none) = some a ↔
        ∃ x, l = some x ∧ x.dirty = true ∧ x.tag = a := by
    rcases l with _ | x
    · simp
    · cases hd : x.dirty <;> simp [hd]
  rw [Cache.dirtyAccounts, (ascending_perm _).mem_iff, List.mem_filterMap]
  constructor
  · rintro ⟨l, here, dirty⟩
    obtain ⟨i, hi, rfl⟩ := Vector.getElem_of_mem (Vector.mem_toList_iff.1 here)
    obtain ⟨x, held, rest⟩ := (listed _).1 dirty
    exact ⟨⟨i, hi⟩, x, held, rest⟩
  · rintro ⟨i, x, held, rest⟩
    exact ⟨c.lines[i], Vector.mem_toList_iff.2 (Vector.getElem_mem i.isLt), (listed _).2 ⟨x, held, rest⟩⟩

/-- With no fill in progress the flush list is the dirty accounts (R144). -/
theorem State.flushList_of_freePort {s : State} (free : s.port.inProgress = none) :
    s.flushList = s.cache.dirtyAccounts := by
  simp only [State.flushList, MemoryPort.evicting, free]

/-- Settles O23: the refusal of the start, the list without a line or with a first one, and what the list holds. -/
theorem flushWritesTheDirtyLinesInOrder : Obligations.FlushWritesTheDirtyLinesInOrder := by
  intro s tag h
  have start : exec (.flush tag) s = .next (s.install tag 0x48).startFlush := exec_accepts h (c := .flush) rfl tag
  refine ⟨fun notReady => ?notReady, fun ready rest => ?ready⟩
  case notReady =>
    rw [start, State.startFlush, if_pos (by simp [State.memoryReady, State.install, notReady])]
    rfl
  case ready =>
    have goes : exec (.flush tag) s = .next (s.executing tag 0x48 (.flush s.cache.dirtyAccounts 0)).drive := by
      rw [start, State.startFlush, if_neg (by simp [State.memoryReady, State.install, ready]),
        State.flushList_of_freePort (s := s.install tag 0x48) rest.freePort]
      rfl
    refine ⟨fun clean => ?clean, fun a more line dirty found isDirty => ?dirty, ascending_pairwise _,
      fun a => Cache.mem_dirtyAccounts⟩
    case clean =>
      rw [goes, clean]
      exact congrArg Host.Outcome.next (rest.flush_done (by decide) (List.forall_mem_nil _))
    case dirty =>
      rw [goes, dirty]
      exact congrArg Host.Outcome.next
        (rest.flush_goesOn (before := []) (Nat.zero_le _) (List.forall_mem_nil _) found isDirty)

end Sys2Proof.Machine
end

section
/-! ## Units at rest beside a start-up -/

namespace Sys2Proof.Machine

/-- Every unit rests but start-up, whose operation may hold the port, and the Command Unit. -/
structure State.restsBesideStartup (s : State) : Prop where
  notQuiesced : s.isQuiesced = false
  noSequence : s.sequence = .none
  noWork : s.work = none
  noPosting : s.posting.phase = .idle
  notAwaiting : s.activation.phase ≠ .awaitQuiet
  notChecking : s.activation.phase ≠ .checking
  noMarking : s.activation.marking = []
  books : ∀ b ∈ s.books, b.state ≠ .waiting ∧ b.state ≠ .settling ∧ b.state ≠ .posting
  noNotice : ∀ f : Feeder, s.ports[f].prefetch.isWaiting = false

/-- Units at rest are at rest beside a start-up too. -/
theorem State.resting.besideStartup {s : State} (h : s.resting) : s.restsBesideStartup := by
  obtain ⟨awake, sequence, work, posting, -, -, awaiting, checking, marking, books, notices⟩ := h
  exact ⟨awake, sequence, work, posting, awaiting, checking, marking, books, notices⟩

/-- An operation that is no header write of a posting begins with no more than the port. -/
theorem State.beginOp_eq_onPort {s : State} {o : PortOp} (other : ∀ h, o ≠ .journalHeader .posting h) :
    s.beginOp o = s.onPort o := by
  unfold State.beginOp
  dsimp only
  split
  case h_1 h => exact absurd rfl (other h)
  case h_2 => rfl

/-- What start-up asks for is no write of a posting (R131 to R133). -/
theorem State.beginOp_of_startup {s : State} {o : PortOp} (asks : s.port.startupWant = some (.op o)) :
    s.beginOp o = s.onPort o := by
  refine State.beginOp_eq_onPort fun h same => ?_
  subst same
  unfold MemoryPort.startupWant at asks
  split at asks <;> cases asks

namespace State.restsBesideStartup

variable {s : State} (h : s.restsBesideStartup)
include h

/-- Once start-up has ended and the port is free, every unit rests. -/
theorem resting (free : s.port.inProgress = none) (ended : s.port.startup = .idle) : s.resting :=
  ⟨h.notQuiesced, h.noSequence, h.noWork, h.noPosting, free, ended, h.notAwaiting, h.notChecking, h.noMarking, h.books,
    h.noNotice⟩

/-- The other units do not go by the memory, the port, the executing command or the Attention List. -/
theorem update {memory : List Host.Cell} {port : MemoryPort} {link : StationLink} {attention : AttentionList} :
    ({ s with memory := memory, port := port, link := link, attention := attention } : State).restsBesideStartup :=
  ⟨h.notQuiesced, h.noSequence, h.noWork, h.noPosting, h.notAwaiting, h.notChecking, h.noMarking, h.books, h.noNotice⟩

/-- The only turn is the executing command's. -/
theorem turn_eq : s.turn = s.commandTurn := by
  have command : s.commandOrBookTurn = s.commandTurn := by
    simp only [State.commandOrBookTurn, State.admissible_of_none fun b hb => (h.books b hb).1]
    rcases s.commandTurn with _ | c <;> rfl
  have commit : s.commitTurn = none := by simp [State.commitTurn, State.commitMoment_of_phase h.notAwaiting]
  simp only [State.turn, h.notQuiesced, h.noSequence, State.settleTurn_of_noWork h.noWork,
    State.postTurn_of_idle h.noPosting, State.checkTurn_of_notChecking h.notChecking, State.markTurn_of_nil h.noMarking,
    command, commit, State.noticeTurn_of_none h.noNotice, Bool.false_eq_true, if_false]
  rcases s.commandTurn with _ | c <;> rfl

/-- What start-up asks for comes before any other request (R142). -/
theorem want_eq {w : Want} (asks : s.port.startupWant = some w) : s.want = some w := by
  simp only [State.want, h.notQuiesced, h.noSequence, asks, Bool.false_eq_true, if_false]
  rfl

/-- A start-up that goes on is granted its next operation. -/
theorem completed_of_want (done : s.commandDone = true) (free : s.port.inProgress = none) {o : PortOp}
    (asks : s.port.startupWant = some (.op o)) : s.completed = s.onPort o := by
  have begins : s.beginOp o = s.onPort o := State.beginOp_of_startup asks
  rw [State.completed, State.endCut_of_done done,
    State.drive_of_none (h.turn_eq.trans (State.commandTurn_of_done done)), State.grant_of_op free (h.want_eq asks),
    begins]

/-- A start-up that ends leaves its memory state, and nothing else follows (R131). -/
theorem completed_of_end (done : s.commandDone = true) (free : s.port.inProgress = none) (m : MemoryState) :
    (s.endStartup m).completed = { s with port := { s.port with state := m, startup := .idle } } := by
  have ended : s.endStartup m = { s with port := { s.port with state := m, startup := .idle } } := by
    simp only [State.endStartup, State.startupEnded, h.noSequence]
  rw [ended]
  exact State.completed_of_resting (h.update.resting free rfl) done

end State.restsBesideStartup

/-- The header that ends a start-up whose records are all written (R132). -/
theorem closingHeader_replayed (h : Header) :
    closingHeader h .replayed =
      { h with journal := .empty, count := 0, lastPosted := if h.journal = .bookReady then h.book else h.lastPosted } := by
  simp [closingHeader]

/-- The header that ends a start-up whose journal is lost (R133). -/
theorem closingHeader_lost (h : Header) (place : Nat) :
    closingHeader h (.lost place) = { h with journal := .empty, count := 0 } := by
  simp [closingHeader]

end Sys2Proof.Machine
end

section
/-! ## INIT ACCOUNT MEMORY (O24, O53; R135) -/

namespace Sys2Proof.Machine

section
variable {s : State} {tag code : Byte}

/-- At rest INIT ACCOUNT MEMORY makes the memory NOT_READY and every line invalid, and writes the header (R135). -/
theorem State.resting.init_starts (rest : s.resting) :
    (s.executing tag code .initWait).drive =
      (({ s with cache := .empty, port := { s.port with state := .notReady } } : State).executing tag code
        .initHeader).onPort (.initHeader false) := by
  have rest' : (({ s with cache := .empty, port := { s.port with state := .notReady } } : State).executing tag code
    .initHeader).resting := rest
  have turn : (s.executing tag code .initWait).commandTurn =
      some (({ s with cache := .empty, port := { s.port with state := .notReady } } : State).executing tag code
        .initHeader) := if_pos rest.unitsRest.noStartup
  exact State.drive_of_command_op (s := s.executing tag code .initWait) rest rest' turn rfl rfl

/-- While a start-up runs INIT ACCOUNT MEMORY waits (R135, step 3). -/
theorem State.restsBesideStartup.init_waits (h : s.restsBesideStartup) (runs : s.port.startup ≠ .idle) {o : PortOp}
    (op : s.port.inProgress = some o) : (s.executing tag code .initWait).drive = s.executing tag code .initWait := by
  have turn : (s.executing tag code .initWait).commandTurn = none := if_neg runs
  have rests : (s.executing tag code .initWait).restsBesideStartup := h.update
  exact State.drive_of_blocked ⟨rests.turn_eq.trans turn, by simp [State.executing, op]⟩

end

/-- Settles O24: the refusal of the start, the first turn at rest, and the wait beside a start-up. -/
theorem initAccountMemoryStartsOrWaits : Obligations.InitAccountMemoryStartsOrWaits := by
  intro s tag h
  have start : exec (.initAccountMemory tag) s = .next (s.install tag 0x49).startInit :=
    exec_accepts h (c := .initAccountMemory) rfl tag
  have goes (unconfigured : s.engine = .unconfigured) :
      exec (.initAccountMemory tag) s = .next (s.executing tag 0x49 .initWait).drive := by
    rw [start, State.startInit, if_neg (by simp [State.install, unconfigured])]
    rfl
  refine ⟨fun running => ?refused, fun unconfigured rest => ?starts, fun o unconfigured runs op rest => ?waits⟩
  case refused =>
    rw [start, State.startInit, if_pos (by simp [State.install, running])]
    rfl
  case starts => rw [goes unconfigured, rest.init_starts]
  case waits =>
    have beside : s.restsBesideStartup := rest.besideStartup.update
    rw [goes unconfigured, beside.init_waits runs op]

/-! ### The writes and the read-back -/

/-- The engine once a header is written under a format marker, the header copy with it (R130). -/
def State.headedAs (s : State) (marker : Nat) (h : Header) : State :=
  { s with memory := writeUnit s.memory 0 (headerBytes marker h),
           port := { s.port with inProgress := none, header := some h } }

/-- A completed header write leaves the engine so. -/
theorem State.idlePort_writeHeaderAs (s : State) (marker : Nat) (h : Header) :
    s.idlePort.writeHeaderAs marker h = s.headedAs marker h := rfl

/-- A completed record write leaves the record in its place. -/
theorem State.idlePort_writeRecord (s : State) (account : Nat) (r : AccountRecord) :
    s.idlePort.writeRecord account r = s.recordWritten account r := rfl

section
variable {s : State} {tag code : Byte} {run : Run}

/-- At rest an executing command that asks for an operation, and not for a posting, is granted it (R143). -/
theorem State.resting.completed_of_want {o : PortOp} (rest : s.resting) (uncut : ∀ reason n, run ≠ .cutting reason n)
    (still : (s.executing tag code run).commandTurn = none)
    (want : (s.executing tag code run).commandWant = some (.op o)) (other : ∀ h, o ≠ .journalHeader .posting h) :
    (s.executing tag code run).completed = (s.executing tag code run).onPort o := by
  have running : (s.executing tag code run).run = some run := rfl
  rw [State.completed, State.endCut_of_run running uncut, ← State.beginOp_eq_onPort other]
  exact State.drive_of_resting_op (s := s.executing tag code run) rest still want

/-- A header write of INIT ACCOUNT MEMORY completes (R135, steps 2 and 4). -/
theorem exec_initHeaderWrite {final : Bool} (op : s.port.inProgress = some (.initHeader final)) :
    exec .initHeaderWrite s =
      .next (s.headedAs (if final then Config.marker else 0) freshHeader).afterInitHeader.completed := by
  change Host.Outcome.next s.initHeaderDone = _
  simp only [State.initHeaderDone, op, State.idlePort_writeHeaderAs]

/-- A fresh record's write completes (R135, step 3). -/
theorem exec_initRecordWrite {a : Nat} (op : s.port.inProgress = some (.initRecord a)) :
    exec .initRecordWrite s = .next (s.recordWritten a freshRecord).afterInitRecord.completed := by
  change Host.Outcome.next s.initRecordDone = _
  simp only [State.initRecordDone, op, State.idlePort_writeRecord]

/-- The header's read-back completes (R135, step 5). -/
theorem exec_initHeaderReadback {returned : Option (List Byte)} (op : s.port.inProgress = some .initReadback) :
    exec (.initHeaderReadback returned) s =
      .next (s.idlePort.initEnd (headerOf (returned.getD (readBytes s.memory 0 16)))).completed := by
  change Host.Outcome.next (s.initReadbackDone returned) = _
  simp only [State.initReadbackDone, op]
  rfl

/-- With the first header written, the first record follows (R135). -/
theorem State.afterInitHeader_of_first (he : s.link.executing = some { tag := tag, code := code, run := .initHeader }) :
    s.afterInitHeader = s.executing tag code (.initRecords 0) := by
  simp only [State.afterInitHeader, State.run_of_executing he, State.setRun_of_executing he]

/-- With the last header written, its read-back follows (R135). -/
theorem State.afterInitHeader_of_final (he : s.link.executing = some { tag := tag, code := code, run := .initFinal }) :
    s.afterInitHeader = s.executing tag code .initReadback := by
  simp only [State.afterInitHeader, State.run_of_executing he, State.setRun_of_executing he]

/-- With a record written the next one follows, or after the last the header (R135). -/
theorem State.afterInitRecord_of_records {a : Nat}
    (he : s.link.executing = some { tag := tag, code := code, run := .initRecords a }) :
    s.afterInitRecord = s.executing tag code (if a + 1 < 196 then .initRecords (a + 1) else .initFinal) := by
  simp only [State.afterInitRecord, State.run_of_executing he, State.setRun_of_executing he, Config.accounts]
  split <;> rfl

/-- A good read-back makes the memory READY and the command DONE (R135, step 5). -/
theorem State.resting.initEnd_good (rest : s.resting)
    (he : s.link.executing = some { tag := tag, code := code, run := .initReadback }) (h : Header) :
    (s.initEnd (some h)).completed =
      ({ s with port := { s.port with header := some h, state := .ready } } : State).answered tag code .done 0 [] := by
  simp only [State.initEnd, State.run_of_executing he]
  exact State.completed_of_answer (s := { s with port := { s.port with header := some h, state := .ready } }) rest he
    _ _ _

/-- A bad read-back empties the header copy, and the command is CUT NOT_READY (R135, step 5; log 18). -/
theorem State.resting.initEnd_bad (rest : s.resting)
    (he : s.link.executing = some { tag := tag, code := code, run := .initReadback }) :
    (s.initEnd none).completed = (s.loadHeader none).answered tag code .cut 8 [] := by
  simp only [State.initEnd, State.run_of_executing he]
  exact State.completed_of_answer (s := s.loadHeader none) rest he _ _ _

end

/-- Settles O53: the two header writes, the records between them, and the read-back. -/
theorem initWritesTheWholeAccountMemory : Obligations.InitWritesTheWholeAccountMemory := by
  intro s tag code returned rest
  have headed (marker : Nat) (h : Header) : (s.headedAs marker h).resting :=
    rest.besideStartup.update.resting rfl rest.unitsRest.noStartup
  have written (a : Nat) (r : AccountRecord) : (s.recordWritten a r).resting :=
    rest.besideStartup.update.resting rfl rest.unitsRest.noStartup
  refine ⟨fun he op => ?first, fun a he op => ?records, fun he op => ?final, fun he op => ?readback⟩
  case first =>
    rw [exec_initHeaderWrite op, State.afterInitHeader_of_first (s := s.headedAs _ _) he,
      (headed _ _).completed_of_want (fun _ _ => Run.noConfusion) rfl rfl (fun _ => PortOp.noConfusion)]
    simp only [State.headedAs, freshHeader, Bool.false_eq_true, if_false, State.executing, State.onPort]
  case records =>
    rw [exec_initRecordWrite op, State.afterInitRecord_of_records (s := s.recordWritten a freshRecord) he]
    refine ⟨fun more => ?_, fun last => ?_⟩
    · rw [if_pos (by omega),
        (written a freshRecord).completed_of_want (fun _ _ => Run.noConfusion) rfl rfl (fun _ => PortOp.noConfusion)]
      simp only [State.recordWritten, freshRecord, State.executing, State.onPort]
    · rw [if_neg (by omega),
        (written a freshRecord).completed_of_want (fun _ _ => Run.noConfusion) rfl rfl (fun _ => PortOp.noConfusion)]
      simp only [State.recordWritten, freshRecord, State.executing, State.onPort]
  case final =>
    rw [exec_initHeaderWrite op, State.afterInitHeader_of_final (s := s.headedAs _ _) he,
      (headed _ _).completed_of_want (fun _ _ => Run.noConfusion) rfl rfl (fun _ => PortOp.noConfusion)]
    simp only [State.headedAs, freshHeader, Config.marker, if_true, State.executing, State.onPort]
  case readback =>
    rw [exec_initHeaderReadback op]
    refine ⟨fun h good => ?_, fun bad => ?_⟩
    · rw [good]
      exact congrArg Host.Outcome.next (State.resting.initEnd_good (s := s.idlePort) rest he h)
    · rw [bad]
      exact congrArg Host.Outcome.next (State.resting.initEnd_bad (s := s.idlePort) rest he)

end Sys2Proof.Machine
end

section
/-! ## Start-up: the header, the verification pass, the write pass, and its close (O51, O52) -/

namespace Sys2Proof.Machine

section
variable {s : State}

/-! ### The header read and the verification pass (R131 to R133) -/

/-- Start-up's header read completes (R131). -/
theorem exec_startupHeaderRead {returned : Option (List Byte)} (op : s.port.inProgress = some .startupHeaderRead)
    (reading : s.port.startup = .readingHeader) :
    exec (.startupHeaderRead returned) s =
      .next (s.idlePort.headerRead (headerOf (returned.getD (readBytes s.memory 0 16)))).completed := by
  change Host.Outcome.next (s.startupReadDone returned) = _
  simp only [State.startupReadDone, op, reading, if_true]
  rfl

/-- A journal entry's read completes (R132, R133). -/
theorem exec_journalVerifyRead {returned : Option (List Byte)} {place : Nat} {h : Header}
    {seen : List (Nat × AccountRecord)} (op : s.port.inProgress = some (.journalVerifyRead place))
    (verifying : s.port.startup = .verifying h seen) :
    exec (.journalVerifyRead returned) s =
      .next (s.idlePort.setStartup (verifyEntry h seen
        (entryOf (returned.getD (readBytes s.memory (6304 + 32 * place) 28))))).completed := by
  change Host.Outcome.next (s.verifyDone returned) = _
  simp only [State.verifyDone, op, verifying]
  rfl

/-- A start-up put where it asks for an operation is granted it. -/
theorem State.restsBesideStartup.completed_setStartup (rest : s.restsBesideStartup) (done : s.commandDone = true)
    (free : s.port.inProgress = none) {x : Startup} {o : PortOp}
    (asks : (s.setStartup x).port.startupWant = some (.op o)) :
    (s.setStartup x).completed = (s.setStartup x).onPort o :=
  rest.update.completed_of_want (s := s.setStartup x) done free asks

/-- An entry that fails its check, is CLEARING's or repeats an account loses the journal (R133). -/
theorem verifyEntry_of_bad {h : Header} {seen : List (Nat × AccountRecord)} {entry : Option (Nat × AccountRecord)}
    (bad : entry = none ∨ (∃ r, entry = some (192, r)) ∨ (∃ a r, entry = some (a, r) ∧ a ∈ seen.map Prod.fst)) :
    verifyEntry h seen entry = .closing h (.lost seen.length) := by
  rcases bad with rfl | ⟨r, rfl⟩ | ⟨a, r, rfl, repeats⟩
  · rfl
  · rfl
  · have held : (seen.any fun x => x.1 == a) = true := by simpa using repeats
    simp only [verifyEntry, held, Bool.or_true, if_true]

/-- A good entry is kept; the last one begins the write pass (R132). -/
theorem verifyEntry_of_good {h : Header} {seen : List (Nat × AccountRecord)} {a : Nat} (r : AccountRecord)
    (other : a ≠ 192) (new : a ∉ seen.map Prod.fst) :
    verifyEntry h seen (some (a, r)) =
      if seen.length + 1 < h.count then .verifying h (seen ++ [(a, r)]) else .writing h (seen ++ [(a, r)]) := by
  have unseen : (seen.any fun x => x.1 == a) = false := by
    simpa using fun x y held same => new (List.mem_map.2 ⟨(x, y), held, same⟩)
  simp only [verifyEntry, Config.clearing, other, unseen, decide_false, Bool.or_false, Bool.false_eq_true, if_false]

/-- A start-up whose records are all written asks for the EMPTY header (R132). -/
theorem State.startupWant_replayed (h : Header) :
    (s.setStartup (.closing h .replayed)).port.startupWant =
      some (.op (.startupHeaderWrite
        { h with journal := .empty, count := 0, lastPosted := if h.journal = .bookReady then h.book else h.lastPosted })) := by
  rw [← closingHeader_replayed]
  rfl

/-- A start-up whose journal is lost asks for the EMPTY header (R133). -/
theorem State.startupWant_lost (h : Header) (place : Nat) :
    (s.setStartup (.closing h (.lost place))).port.startupWant =
      some (.op (.startupHeaderWrite { h with journal := .empty, count := 0 })) := by
  rw [← closingHeader_lost h place]
  rfl

end

/-- Settles O51: the header read by what it returned, then the entry by whether it is good and the last. -/
theorem startupReadsTheHeaderAndVerifiesTheJournal : Obligations.StartupReadsTheHeaderAndVerifiesTheJournal := by
  intro s returned done rest
  have beside : s.restsBesideStartup := rest.besideStartup.update
  refine ⟨fun op reading => ?header, fun h seen place op verifying => ?entry⟩
  case header =>
    rw [exec_startupHeaderRead op reading]
    refine ⟨fun bad => ?bad, fun h good => ?good⟩
    case bad =>
      rw [bad]
      have emptied : (s.idlePort.loadHeader none).restsBesideStartup := beside.update
      exact congrArg Host.Outcome.next (emptied.completed_of_end done rfl .notReady)
    case good =>
      have loaded : (s.idlePort.loadHeader (some h)).restsBesideStartup := beside.update
      simp only [good, State.headerRead]
      refine ⟨fun empty => ?_, fun journal noEntry => ?_, fun journal entries => ?_⟩
      · rw [if_pos empty]
        exact congrArg Host.Outcome.next (loaded.completed_of_end done rfl .ready)
      · rw [if_neg journal, if_pos noEntry]
        exact congrArg Host.Outcome.next (loaded.completed_setStartup done rfl (State.startupWant_replayed h))
      · rw [if_neg journal, if_neg entries]
        exact congrArg Host.Outcome.next (loaded.completed_setStartup (x := .verifying h []) done rfl rfl)
  case entry =>
    have free : s.idlePort.restsBesideStartup := beside.update
    rw [exec_journalVerifyRead op verifying]
    refine ⟨fun bad => ?bad, fun a r good other new => ?good⟩
    case bad =>
      rw [verifyEntry_of_bad bad]
      exact congrArg Host.Outcome.next (free.completed_setStartup done rfl (State.startupWant_lost h seen.length))
    case good =>
      rw [good, verifyEntry_of_good r other new]
      refine ⟨fun more => ?_, fun b x others last first => ?_⟩
      · have asks : (s.idlePort.setStartup (.verifying h (seen ++ [(a, r)]))).port.startupWant =
            some (.op (.journalVerifyRead (seen.length + 1))) := by
          simp only [State.setStartup, MemoryPort.startupWant, List.length_append, List.length_singleton]
        rw [if_pos more]
        exact congrArg Host.Outcome.next (free.completed_setStartup done rfl asks)
      · rw [if_neg (by omega), first]
        exact congrArg Host.Outcome.next (free.completed_setStartup (x := .writing h ((b, x) :: others)) done rfl rfl)

/-! ### The write pass and its close (R132, R133) -/

section
variable {s : State}

/-- A replayed record's write completes (R132). -/
theorem exec_replayRecordWrite {a : Nat} {r : AccountRecord} (op : s.port.inProgress = some (.replayRecord a r)) :
    exec .replayRecordWrite s = .next (s.recordWritten a r).afterReplay.completed := by
  change Host.Outcome.next s.replayDone = _
  simp only [State.replayDone, op, State.idlePort_writeRecord]

/-- After a record the next one is asked for, and after the last the EMPTY header (R132). -/
theorem State.afterReplay_of_writing {h : Header} {x : Nat × AccountRecord} {rest : List (Nat × AccountRecord)}
    (writing : s.port.startup = .writing h (x :: rest)) :
    s.afterReplay = s.setStartup (if rest = [] then .closing h .replayed else .writing h rest) := by
  rcases rest with _ | ⟨y, more⟩ <;> simp only [State.afterReplay, writing] <;> rfl

/-- The header write that ends a start-up completes (R132, R133). -/
theorem exec_startupHeaderWrite {written : Header} (op : s.port.inProgress = some (.startupHeaderWrite written)) :
    exec .startupHeaderWrite s = .next (s.headerCleared written).afterClosing.completed := by
  change Host.Outcome.next s.startupWriteDone = _
  simp only [State.startupWriteDone, op]
  rfl

/-- With the EMPTY header written, the item is raised and the memory is READY (R132, R133). -/
theorem State.afterClosing_of_closing {h : Header} {outcome : ReplayOutcome}
    (closing : s.port.startup = .closing h outcome) :
    s.afterClosing = (s.raise (replayItem h outcome)).endStartup .ready := by
  simp only [State.afterClosing, closing]

end

/-- Settles O52: a record written, by whether another follows, and the header that closes the journal. -/
theorem startupReplaysTheJournalAndClosesIt : Obligations.StartupReplaysTheJournalAndClosesIt := by
  intro s done rest
  have beside : s.restsBesideStartup := rest.besideStartup.update
  refine ⟨fun h a r more op writing => ?record, fun written h outcome op closing => ?header⟩
  case record =>
    have written : (s.recordWritten a r).restsBesideStartup := beside.update
    rw [exec_replayRecordWrite op, State.afterReplay_of_writing (s := s.recordWritten a r) writing]
    refine ⟨fun last => ?_, fun b x others next => ?_⟩
    · rw [if_pos last, written.completed_setStartup done rfl (State.startupWant_replayed h)]
      simp only [State.recordWritten, State.setStartup, State.onPort]
    · subst next
      rw [if_neg (List.cons_ne_nil _ _),
        written.completed_setStartup (x := .writing h ((b, x) :: others)) done rfl rfl]
      simp only [State.recordWritten, State.setStartup, State.onPort]
  case header =>
    rw [exec_startupHeaderWrite op, State.afterClosing_of_closing (s := s.headerCleared written) closing]
    have closed : ((s.headerCleared written).raise (replayItem h outcome)).restsBesideStartup := beside.update
    exact congrArg Host.Outcome.next (closed.completed_of_end done rfl .ready)

end Sys2Proof.Machine
end

section
/-! ## The Attention List stays sound (O56; R172) -/

namespace Sys2Proof.Machine

/-- What an item coalesces by: its kind and object (R172). -/
def AttentionItem.key (i : AttentionItem) : Nat × Nat := (i.event.kind, i.event.object)

theorem AttentionItem.matches_iff_key (i j : AttentionItem) : i.event.matches j.event = true ↔ i.key = j.key := by
  rw [Attention.matches_iff, AttentionItem.key, AttentionItem.key, Prod.mk.injEq]

/-- No two items share kind and object exactly when no key stands twice. -/
theorem distinctItems_iff (l : List AttentionItem) : distinctItems l ↔ (l.map AttentionItem.key).Nodup := by
  induction l with
  | nil => simp [distinctItems]
  | cons i rest ih =>
    have apart : (∀ j ∈ rest, i.event.matches j.event = false) ↔ i.key ∉ rest.map AttentionItem.key := by
      simp only [List.mem_map, not_exists, not_and]
      exact forall₂_congr fun j _ => by rw [← Bool.not_eq_true, AttentionItem.matches_iff_key, eq_comm]
    rw [distinctItems, ih, apart, List.map_cons, List.nodup_cons]

/-- Coalescing moves no key. -/
theorem coalesce_keys (e : Attention) (l : List AttentionItem) :
    (coalesce e l).map AttentionItem.key = l.map AttentionItem.key := by
  induction l with
  | nil => rfl
  | cons i rest ih =>
    rw [coalesce]
    split
    case isTrue same =>
      have key : i.key = AttentionItem.key { event := e, repeats := min 255 (i.repeats + 1) } :=
        (AttentionItem.matches_iff_key _ _).1 same
      rw [List.map_cons, List.map_cons, key]
    case isFalse => rw [List.map_cons, List.map_cons, ih]

/-- The first item of the event's kind and object takes the new detail and one more repeat. -/
theorem coalesce_of_first {e : Attention} {before after : List AttentionItem} {i : AttentionItem}
    (same : i.event.matches e = true) (none : ∀ x ∈ before, x.event.matches e = false) :
    coalesce e (before ++ i :: after) = before ++ { event := e, repeats := min 255 (i.repeats + 1) } :: after := by
  induction before with
  | nil => simp [coalesce, same]
  | cons x rest ih =>
    have other : x.event.matches e = false := none x List.mem_cons_self
    simp [coalesce, other, ih fun y hy => none y (List.mem_cons_of_mem x hy)]

namespace AttentionList

variable {l : AttentionList} {e : Attention}

theorem raise_of_held (held : l.holds e = true) : l.raise e = { l with items := coalesce e l.items } := if_pos held

theorem raise_of_room (new : l.holds e = false) (room : l.items.length < 16) :
    l.raise e = { l with items := l.items ++ [{ event := e, repeats := 1 }] } := by
  simp only [raise, new, Bool.false_eq_true, if_false]
  exact if_pos room

theorem raise_of_full (new : l.holds e = false) (full : 16 ≤ l.items.length) :
    l.raise e = { l with overflow := true } := by
  simp only [raise, new, Bool.false_eq_true, if_false]
  exact if_neg (Nat.not_lt.2 full)

/-- No item of an event's kind and object, in the statement's words. -/
theorem holds_eq_false : l.holds e = false ↔ ∀ x ∈ l.items, ¬(x.event.kind = e.kind ∧ x.event.object = e.object) := by
  rw [← Bool.not_eq_true, AttentionList.holds_iff]
  simp only [not_exists, not_and]

theorem sound_iff : l.sound ↔ l.items.length ≤ 16 ∧ (l.items.map AttentionItem.key).Nodup := by
  rw [sound, distinctItems_iff]
  rfl

/-- An event raised keeps the list sound (R172). -/
theorem sound.raise (h : l.sound) (e : Attention) : (l.raise e).sound := by
  obtain ⟨short, distinct⟩ := sound_iff.1 h
  rcases held : l.holds e with _ | _
  · rcases Nat.lt_or_ge l.items.length 16 with room | full
    · rw [raise_of_room held room, sound_iff, List.length_append, List.map_append, List.nodup_append]
      refine ⟨room, distinct, List.nodup_singleton _, fun key old key' new same => ?_⟩
      obtain ⟨x, hx, rfl⟩ := List.mem_map.1 old
      have shares : x.key = (e.kind, e.object) := same.trans (List.mem_singleton.1 new)
      exact holds_eq_false.1 held x hx (Prod.mk.inj shares)
    · rw [raise_of_full held full]
      exact h
  · rw [raise_of_held held, sound_iff, coalesce_length, coalesce_keys]
    exact ⟨short, distinct⟩

/-- The oldest item removed. -/
theorem sound.tail {i : AttentionItem} {rest : List AttentionItem} {overflow : Bool}
    (h : (⟨i :: rest, overflow⟩ : AttentionList).sound) (cleared : Bool) : (⟨rest, cleared⟩ : AttentionList).sound := by
  obtain ⟨short, distinct⟩ := sound_iff.1 h
  exact sound_iff.2 ⟨(Nat.le_succ _).trans short, (List.nodup_cons.1 distinct).2⟩

/-- The empty list. -/
theorem sound_empty (overflow : Bool) : (⟨[], overflow⟩ : AttentionList).sound :=
  sound_iff.2 ⟨Nat.zero_le _, List.nodup_nil⟩

end AttentionList

end Sys2Proof.Machine
end

section
/-! ## The capacities (O56): what an update leaves of the bounds -/

namespace Sys2Proof.Machine

/-- An update after which the Attention List is as sound as before, the Book List and the Directed Queues hold as little,
the command buffers and the outbound queue hold as many frames, and no command that was held back is let through. -/
structure State.keepsBounds (s t : State) : Prop where
  attention : s.attention.sound → t.attention.sound
  books : s.booksBounded → t.booksBounded
  queues : s.queuesBounded → t.queuesBounded
  executing : t.link.executing.isSome = s.link.executing.isSome
  waiting : t.link.waiting = s.link.waiting
  outbound : t.link.outbound.length = s.link.outbound.length
  held : s.commandsHeld = true → t.commandsHeld = true

/-- The fields the bounds speak of. -/
def State.boundFields (s : State) : AttentionList × List Book × Vector FeederPort 4 × StationLink × Sequence :=
  (s.attention, s.books, s.ports, s.link, s.sequence)

namespace State.keepsBounds

variable {s t u : State}

theorem trans (h : s.keepsBounds t) (h' : t.keepsBounds u) : s.keepsBounds u where
  attention := h'.attention ∘ h.attention
  books := h'.books ∘ h.books
  queues := h'.queues ∘ h.queues
  executing := h'.executing.trans h.executing
  waiting := h'.waiting.trans h.waiting
  outbound := h'.outbound.trans h.outbound
  held := h'.held ∘ h.held

theorem refl (s : State) : s.keepsBounds s := ⟨id, id, id, rfl, rfl, rfl, id⟩

/-- An update of anything else. -/
theorem of_same (same : t.boundFields = s.boundFields) : s.keepsBounds t := by
  obtain ⟨attention, books, ports, link, sequence⟩ : t.attention = s.attention ∧ t.books = s.books ∧
      t.ports = s.ports ∧ t.link = s.link ∧ t.sequence = s.sequence := by simpa [State.boundFields] using same
  constructor <;> simp only [attention, State.booksBounded, books, State.queuesBounded, ports, State.commandsHeld, link,
    sequence, imp_self]

/-- The executing command's run replaced. -/
theorem run (h : s.keepsBounds t) (r : Run) : s.keepsBounds (t.setRun r) :=
  h.trans { refl t with executing := Option.isSome_map }

/-- The Activation Unit replaced. -/
theorem activation (h : s.keepsBounds t) (a : Activation) : s.keepsBounds (t.setActivation a) := h.trans (.of_same (by rfl))

/-- An item raised. -/
theorem raise (h : s.keepsBounds t) (e : Attention) : s.keepsBounds (t.raise e) :=
  h.trans { refl t with attention := fun sound => sound.raise e }

/-- The Book List changed. -/
theorem bookList (h : s.keepsBounds t) {books : List Book} (short : t.booksBounded → books.length ≤ Config.books) :
    s.keepsBounds { t with books := books } := h.trans { refl t with books := short }

/-- The books of a start minute changed. -/
theorem updateBook (h : s.keepsBounds t) (start : Nat) (f : Book → Book) : s.keepsBounds (t.updateBook start f) :=
  h.bookList fun short => (List.length_map _).trans_le short

/-- The feeder ports changed. -/
theorem feeders (h : s.keepsBounds t) {ports : Vector FeederPort 4}
    (short : t.queuesBounded → ∀ f : Feeder, ports[f].queue.length ≤ Config.queue) :
    s.keepsBounds { t with ports := ports } := h.trans { refl t with queues := short }

/-- One port changed. -/
theorem setPort (h : s.keepsBounds t) (f : Feeder) {p : FeederPort}
    (short : t.ports[f].queue.length ≤ Config.queue → p.queue.length ≤ Config.queue) : s.keepsBounds (t.setPort f p) := by
  refine h.feeders fun bounded g => ?_
  by_cases same : f = g
  · subst same
    simpa using short (bounded f)
  · simpa [Fin.val_ne_of_ne same] using bounded g

/-- One port changed, its queue kept. -/
theorem modifyPort (h : s.keepsBounds t) (f : Feeder) {g : FeederPort → FeederPort}
    (kept : ∀ p, (g p).queue = p.queue) : s.keepsBounds (t.modifyPort f g) :=
  h.setPort f fun short => by rw [kept]; exact short

/-- Every port changed, no queue lengthened. -/
theorem mapPorts (h : s.keepsBounds t) {g : FeederPort → FeederPort}
    (short : ∀ p, (g p).queue.length ≤ p.queue.length) : s.keepsBounds { t with ports := t.ports.map g } :=
  h.feeders fun bounded f => by simpa using (short _).trans (bounded f)

/-- Updates one after another. -/
theorem foldl {α : Type} {f : State → α → State} (step : ∀ (s : State) (x : α), s.keepsBounds (f s x)) (l : List α) (s : State) :
    s.keepsBounds (l.foldl f s) := by
  induction l generalizing s with
  | nil => exact .refl s
  | cons x rest ih => exact (step s x).trans (ih (f s x))

end State.keepsBounds

/-- A turn that keeps the bounds. -/
def turnKeepsBounds (s : State) (turn : Option State) : Prop := ∀ t, turn = some t → s.keepsBounds t

theorem turnKeepsBounds_none (s : State) : turnKeepsBounds s none := fun _ h => nomatch h

theorem turnKeepsBounds_some {s t : State} (h : s.keepsBounds t) : turnKeepsBounds s (some t) := by
  rintro _ ⟨⟩
  exact h

/-- The first of two turns that has something to do. -/
theorem turnKeepsBounds_orElse {s : State} {first : Option State} {second : Unit → Option State}
    (h : turnKeepsBounds s first) (h' : turnKeepsBounds s (second ())) : turnKeepsBounds s (first.orElse second) := by
  cases first with
  | none => exact h'
  | some t => exact h

section
variable (s : State)

/-! ### The Book List and the Day Clock -/

theorem State.countAbsence_keepsBounds (i : Nat) : s.keepsBounds (s.countAbsence i) := by
  simp only [State.countAbsence]
  split
  · exact .raise (.of_same (by rfl)) _
  · exact .of_same (by rfl)

theorem State.endCollection_keepsBounds : s.keepsBounds s.endCollection := by
  rw [State.endCollection]
  split
  · exact .refl s
  · split
    · exact .refl s
    · exact .updateBook (.foldl (fun s (m : Member) => s.countAbsence_keepsBounds m.index) _ s) _ _

/-- The end of a collection changes no book that can be replaced. -/
theorem State.endCollection_books :
    ∃ f : Book → Book, (∀ b, b.replaceable = true → f b = b) ∧ s.endCollection.books = s.books.map f := by
  have absences (l : List Member) (t : State) :
      (l.foldl (fun t m => t.countAbsence m.index) t).books = t.books := by
    induction l generalizing t with
    | nil => rfl
    | cons m rest ih =>
      rw [List.foldl_cons, ih, State.countAbsence]
      dsimp only
      split <;> rfl
  rw [State.endCollection]
  split
  · exact ⟨id, fun _ _ => rfl, (List.map_id _).symm⟩
  · split
    · exact ⟨id, fun _ _ => rfl, (List.map_id _).symm⟩
    · refine ⟨_, fun b final => ?_, congrArg (List.map _) (absences _ s)⟩
      have closed : b.state ≠ .collecting := fun open_ => by simp [Book.replaceable, Book.isFinal, open_] at final
      simp [closed]

/-- A full list has room for one book once a record that can be replaced is free (R74, step 2). -/
theorem freeRecord_length {books : List Book} (short : books.length ≤ Config.books)
    (room : books.length < Config.books ∨ books.any Book.replaceable = true) :
    (freeRecord books).length + 1 ≤ Config.books := by
  rw [freeRecord]
  split
  case isTrue free => exact free
  case isFalse full =>
    obtain ⟨b, hb, replaceable⟩ := List.any_eq_true.1 (room.resolve_left full)
    rw [List.length_eraseP_of_mem hb replaceable]
    have : 0 < books.length := List.length_pos_of_mem hb
    omega

theorem State.takeBoundary_keepsBounds {start candidate : Nat}
    (room : s.books.length < Config.books ∨ s.books.any Book.replaceable = true) :
    s.keepsBounds (s.takeBoundary start candidate) := by
  obtain ⟨f, final, books⟩ := s.endCollection_books
  have room' : s.endCollection.books.length < Config.books ∨ s.endCollection.books.any Book.replaceable = true := by
    rw [books, List.length_map]
    refine room.imp_right fun some => ?_
    obtain ⟨b, hb, replaceable⟩ := List.any_eq_true.1 some
    exact List.any_eq_true.2 ⟨b, List.mem_map.2 ⟨b, hb, final b replaceable⟩, replaceable⟩
  have opened (b : Book) : s.keepsBounds { s.endCollection with books := freeRecord s.endCollection.books ++ [b] } :=
    s.endCollection_keepsBounds.bookList fun short => by
      rw [List.length_append]
      exact freeRecord_length short room'
  simp only [State.takeBoundary]
  split
  · exact .trans (.trans (opened _) (.of_same (by rfl))) (State.endCollection_keepsBounds _)
  · exact (opened _).trans (.of_same (by rfl))

/-- A boundary search takes a boundary only where the Book List has room for its book (R73, R74). -/
theorem State.boundarySearch_keepsBounds : s.keepsBounds s.boundarySearch.1 := by
  rw [State.boundarySearch]
  split
  · exact .refl s
  · split
    · exact .refl s
    · split
      · exact .refl s
      · split
        case isTrue => exact .raise (.refl s) _
        case isFalse room =>
          refine s.takeBoundary_keepsBounds ?_
          by_cases free : s.books.length < Config.books
          · exact .inl free
          · exact .inr (by simpa [Nat.le_of_not_lt free] using room)

theorem State.serveDeadline_keepsBounds : s.keepsBounds s.serveDeadline := by
  rw [State.serveDeadline]
  split
  · exact s.endCollection_keepsBounds
  · exact .refl s

theorem State.serveBoundary_keepsBounds : s.keepsBounds s.serveBoundary := by
  rw [State.serveBoundary]
  split
  · exact .trans (.of_same (by rfl)) (State.boundarySearch_keepsBounds _)
  · exact .refl s

/-! ### Snapshot Intake -/

theorem State.compareReport_keepsBounds (i : Nat) (r : Report) (round : RoundNumber) :
    s.keepsBounds (s.compareReport i r round) := by
  rw [State.compareReport]
  split
  · exact .refl s
  · split
    · split
      · dsimp only
        split
        · exact .trans (.of_same (by rfl)) (State.endCollection_keepsBounds _)
        · exact .of_same (by rfl)
      · split
        · exact .refl s
        · exact .raise (.refl s) _
    · exact .refl s

theorem State.goodReport_keepsBounds (f : Feeder) (slot i : Nat) (r : Report) (round : RoundNumber) :
    s.keepsBounds (s.goodReport f slot i r round) := by
  have tamper (t : State) (h : s.keepsBounds t) :
      s.keepsBounds (if r.tamper && !(s.liveOf i).tamper then t.raise (.tamper i f.val slot round) else t) := by
    split
    · exact h.raise _
    · exact h
  exact ((tamper _ (.of_same (by rfl))).setPort f ((List.length_filter_le _ _).trans ·)).trans
    (State.compareReport_keepsBounds _ i r round)

theorem State.handReport_keepsBounds (f : Feeder) (slot : Nat) (outcome : SlotOutcome) (r : Report)
    (round : RoundNumber) : s.keepsBounds (s.handReport f slot outcome r round) := by
  cases outcome
  case good =>
    simp only [State.handReport]
    split
    · exact s.goodReport_keepsBounds _ _ _ _ _
    · exact .refl s
  case foreign | intruder => exact .raise (.refl s) _
  all_goals exact .refl s

/-! ### The feeder ports -/

theorem State.endEnrolment_keepsBounds (f : Feeder) (ending : EnrolEnding) : s.keepsBounds (s.endEnrolment f ending) :=
  .raise (.modifyPort (.refl s) f (by intro; rfl)) _

theorem State.hearEnrolment_keepsBounds (f : Feeder) (q : QuietOutcome) : s.keepsBounds (s.hearEnrolment f q) := by
  simp only [State.hearEnrolment]
  split
  · split
    · exact .trans (.modifyPort (.refl s) f (by intro; rfl)) (State.endEnrolment_keepsBounds _ _ _)
    · exact .modifyPort (.refl s) f (by intro; rfl)
  · exact .refl s

theorem State.feederOff_keepsBounds (f : Feeder) : s.keepsBounds (s.feederOff f) := by
  have stopped : s.keepsBounds (s.modifyPort f fun p => p.stop .off) := .modifyPort (.refl s) f fun _ => rfl
  simp only [State.feederOff]
  split
  · exact stopped.trans (State.endEnrolment_keepsBounds _ _ _)
  · exact stopped

theorem State.actOnRestart_keepsBounds (f : Feeder) (keepHeld : Bool) : s.keepsBounds (s.actOnRestart f keepHeld) := by
  have reached : s.keepsBounds (s.modifyPort f fun p => { p with restartDue := none, prefetch := .none }) :=
    .modifyPort (.refl s) f fun _ => rfl
  have off := reached.trans (State.feederOff_keepsBounds _ f)
  have runs := reached.modifyPort f (g := FeederPort.newRound) fun _ => rfl
  simp only [State.actOnRestart]
  split
  · exact reached
  · split
    · exact runs
    · exact off
  · split
    · exact off
    · split
      · exact reached.modifyPort f fun _ => rfl
      · exact runs
  · split
    · exact reached
    · split
      · exact runs
      · exact off

theorem State.commitFeeder_keepsBounds (f : Feeder) : s.keepsBounds (s.commitFeeder f) := by
  rw [State.commitFeeder]
  split
  · split
    · exact .modifyPort (.refl s) f fun _ => rfl
    · exact .refl s
  · exact .refl s
  · split
    · exact s.feederOff_keepsBounds f
    · exact .refl s

theorem State.servePrefetch_keepsBounds (f : Feeder) (target : Nat) : s.keepsBounds (s.servePrefetch f target) := by
  rw [State.servePrefetch]
  split
  · exact .modifyPort (.of_same (by rfl)) f fun _ => rfl
  · exact .modifyPort (.of_same (by rfl)) f fun _ => rfl
  · exact .modifyPort (.refl s) f fun _ => rfl

theorem State.startPrefetch_keepsBounds (f : Feeder) (slotCount : Nat) : s.keepsBounds (s.startPrefetch f slotCount) := by
  have cleared : s.keepsBounds (s.modifyPort f fun p => { p with prefetch := .none }) := .modifyPort (.refl s) f fun _ => rfl
  simp only [State.startPrefetch]
  split
  · exact cleared
  · split
    · exact cleared
    · exact cleared.trans (State.servePrefetch_keepsBounds _ _ _)

theorem State.noticeTurn_keepsBounds : turnKeepsBounds s s.noticeTurn := by
  intro t h
  obtain ⟨f, -, hf⟩ := List.exists_of_findSome?_eq_some h
  split at hf
  · split at hf
    · cases hf
    · cases hf
      exact s.servePrefetch_keepsBounds f _
  · cases hf

/-! ### The Activation Unit -/

theorem State.failChecks_keepsBounds (f : CheckFailure) : s.keepsBounds (s.failChecks f) :=
  .trans (.raise (.of_same (by rfl)) _) (State.boundarySearch_keepsBounds _)

theorem State.exchange_keepsBounds : s.keepsBounds s.exchange :=
  { State.keepsBounds.refl s with
    queues := fun bounded f => by
      simpa [State.exchange, commitQueue] using (List.length_filter_le _ _).trans (bounded f) }

theorem State.commit_keepsBounds : s.keepsBounds s.commit := by
  have running (t : State) : t.keepsBounds t.becomeRunning := by
    rw [State.becomeRunning]
    split
    · exact .of_same (by rfl)
    · exact .refl t
  have feeders := s.exchange_keepsBounds.trans (.foldl State.commitFeeder_keepsBounds (List.finRange 4) _)
  exact (((feeders.trans (running _)).activation _).raise _).trans (State.boundarySearch_keepsBounds _)

theorem State.beginChecks_keepsBounds : s.keepsBounds s.beginChecks := by
  simp only [State.beginChecks]
  split
  · exact .trans (.of_same (by rfl)) (State.failChecks_keepsBounds _ _)
  · exact .of_same (by rfl)

theorem State.checkTurn_keepsBounds : turnKeepsBounds s s.checkTurn := by
  rw [State.checkTurn]
  split
  · exact turnKeepsBounds_none s
  · split
    · exact turnKeepsBounds_some s.commit_keepsBounds
    · split
      · dsimp only
        split
        · exact turnKeepsBounds_some (.of_same (by rfl))
        · exact turnKeepsBounds_some (.trans (.of_same (by rfl)) (State.failChecks_keepsBounds _ _))
      · exact turnKeepsBounds_some (.trans (.of_same (by rfl)) (State.failChecks_keepsBounds _ _))
      · exact turnKeepsBounds_none s

theorem State.markTurn_keepsBounds : turnKeepsBounds s s.markTurn := by
  rw [State.markTurn]
  split
  · exact turnKeepsBounds_none s
  · split
    · exact turnKeepsBounds_none s
    · dsimp only
      split
      · split
        · exact turnKeepsBounds_none s
        · exact turnKeepsBounds_some (.of_same (by rfl))
      · exact turnKeepsBounds_some (.of_same (by rfl))
      · exact turnKeepsBounds_none s

/-! ### The Settlement Unit -/

theorem State.enterSettling_keepsBounds (b : Book) : s.keepsBounds (s.enterSettling b) :=
  .trans (.updateBook (.refl s) _ _) (.of_same (by rfl))

theorem State.raiseClamped_keepsBounds (rows : List MemberRow) : s.keepsBounds (s.raiseClamped rows) :=
  .foldl (fun s r => by
    split
    · exact .raise (.refl s) _
    · exact .refl s) rows s

theorem State.walkOn_keepsBounds (w : Work) (a : Aim) (rest : List Aim) (record : Option AccountRecord) :
    s.keepsBounds (s.walkOn w a rest record) := by
  cases record with
  | none => exact .raise (.of_same (by rfl)) _
  | some x =>
    simp only [State.walkOn]
    split <;> exact .of_same (by rfl)

theorem State.finishSettling_keepsBounds (w : Work) (b : Book) : s.keepsBounds (s.finishSettling w b) := by
  have held (f : Figures) (reason : HoldReason) (a : Nat) : s.keepsBounds (s.holdBook b f reason a) :=
    .raise (.trans (.updateBook (.refl s) _ _) (.of_same (by rfl))) _
  simp only [State.finishSettling]
  split
  · exact held _ _ _
  · split
    · exact held _ _ _
    · exact .trans (.updateBook (.refl s) _ _) (.of_same (by rfl))

theorem State.settleTurn_keepsBounds : turnKeepsBounds s s.settleTurn := by
  intro t h
  obtain ⟨w, b, -, -, -, ⟨-, reads | computes⟩ | ⟨-, walks | ends⟩⟩ := State.settleTurn_cases h
  · obtain ⟨_, _, _, _, -, -, rfl⟩ := reads
    exact .of_same (by rfl)
  · obtain ⟨-, rfl⟩ := computes
    exact .trans (s.raiseClamped_keepsBounds _) (.of_same (by rfl))
  · obtain ⟨_, _, _, _, -, -, rfl⟩ := walks
    exact .trans (.of_same (by rfl)) (State.walkOn_keepsBounds _ _ _ _ _)
  · obtain ⟨-, rfl⟩ := ends
    exact s.finishSettling_keepsBounds w b

/-! ### The reconciliation pass and the Posting Unit -/

/-- A request joins a queue only where it has room (R150). -/
theorem requestOrder_length {q q' : List OrderEntry} {slot participant watts : Nat} {kind : OrderKind}
    (taken : requestOrder q slot participant kind watts = some q') (short : q.length ≤ Config.queue) :
    q'.length ≤ Config.queue := by
  simp only [requestOrder] at taken
  split at taken
  · cases taken
    exact (List.length_map _).trans_le short
  · split at taken
    case isTrue room =>
      cases taken
      rw [List.length_append]
      exact room
    case isFalse => cases taken

theorem State.reconcileAt_keepsBounds (i : Nat) (st : Standing) : s.keepsBounds (s.reconcileAt i st) := by
  simp only [State.reconcileAt]
  split
  · exact .of_same (by rfl)
  · split
    · exact .of_same (by rfl)
    case h_2 p named =>
      split
      · split
        case h_1 q taken =>
          refine .trans (.feeders (.refl s) fun bounded f => ?_) (.of_same (by rfl))
          by_cases here : (s.active.entry i).feeder = f.val
          · have port : s.ports[f] = p := by simpa [here] using named
            simpa [here] using requestOrder_length taken (port ▸ bounded f)
          · simpa [here] using bounded f
        case h_2 => exact .raise (.of_same (by rfl)) _
      · exact .of_same (by rfl)

theorem State.reconcile_keepsBounds (concerned : List (Nat × Standing)) : s.keepsBounds (s.reconcile concerned) :=
  .foldl (fun s i => by
    split
    · exact s.reconcileAt_keepsBounds i _
    · exact .refl s) indices s

theorem State.placeImage_keepsBounds (line : Nat) (i : Image) : s.keepsBounds (s.placeImage line i) := by
  rw [State.placeImage, State.raiseArrears]
  split
  · exact .raise (.of_same (by rfl)) _
  · exact .of_same (by rfl)

theorem State.postTurn_keepsBounds : turnKeepsBounds s s.postTurn := by
  rw [State.postTurn]
  split
  · split
    · exact turnKeepsBounds_none s
    · split
      · split
        · exact turnKeepsBounds_none s
        · split
          · exact turnKeepsBounds_some (.trans (s.placeImage_keepsBounds _ _) (.of_same (by rfl)))
          · exact turnKeepsBounds_none s
      · exact turnKeepsBounds_some (.of_same (by rfl))
  · split
    · exact turnKeepsBounds_some (.of_same (by rfl))
    · exact turnKeepsBounds_none s
  · exact turnKeepsBounds_none s

theorem State.bookPosted_keepsBounds (start : Nat) : s.keepsBounds (s.bookPosted start) :=
  .trans (.trans (.updateBook (.refl s) _ _) (.of_same (by rfl))) (State.reconcile_keepsBounds _ _)

end

end Sys2Proof.Machine
end

section
/-! ## The capacities (O56): the executing command, the follow-on work of an event, and the station's commands -/

namespace Sys2Proof.Machine

namespace State.keepsBounds

variable {s t : State}

/-- The executing command answered. -/
theorem answer (h : s.keepsBounds t) (o : OutcomeClass) (d : Nat) (fl : List Byte) : s.keepsBounds (t.answer o d fl) :=
  h.run _

/-- A free value drawn. -/
theorem drawn (h : s.keepsBounds t) : s.keepsBounds t.drawn := h.trans (.of_same (by rfl))

end State.keepsBounds

section
variable (s : State)

/-! ### The executing command's turns -/

theorem State.sweepEnd_keepsBounds (r : SweepRun) : s.keepsBounds (s.sweepEnd r) := by
  have free : s.keepsBounds (if r.lastVisited.isNone then s.drawn else s) := by
    split
    · exact .of_same (by rfl)
    · exact .refl s
  simp only [State.sweepEnd]
  split <;> exact free.answer _ _ _

theorem State.sweepAdvance_keepsBounds (r : SweepRun) : s.keepsBounds (s.sweepAdvance r) := by
  rw [State.sweepAdvance]
  split
  · exact .run (.refl s) _
  · exact s.sweepEnd_keepsBounds _

theorem State.sweepVisit_keepsBounds (r : SweepRun) (record : Option AccountRecord) (dirty : Bool) :
    s.keepsBounds (s.sweepVisit r record dirty) := by
  simp only [State.sweepVisit]
  split
  · exact .run (.refl s) _
  · exact s.sweepAdvance_keepsBounds _

theorem State.scanEnd_keepsBounds (o : OutcomeClass) (detail : Nat) (r : ScanRun) (found : List Byte) :
    s.keepsBounds (s.scanEnd o detail r found) := by
  rw [State.scanEnd]
  split
  · exact .answer (.of_same (by rfl)) _ _ _
  · exact .answer (.refl s) _ _ _

theorem State.scanAdvance_keepsBounds (r : ScanRun) : s.keepsBounds (s.scanAdvance r) := by
  rw [State.scanAdvance]
  split
  · exact s.scanEnd_keepsBounds _ _ _ _
  · split
    · exact .run (.refl s) _
    · exact s.scanEnd_keepsBounds _ _ _ _

theorem State.scanCompare_keepsBounds (r : ScanRun) (x : AccountRecord) : s.keepsBounds (s.scanCompare r x) := by
  rw [State.scanCompare]
  split
  · exact s.scanEnd_keepsBounds _ _ _ _
  · exact s.scanAdvance_keepsBounds _

theorem State.transferDecide_keepsBounds (o : TransferOrder) (x y : AccountRecord) :
    s.keepsBounds (s.transferDecide o x y) := by
  have refuses (d : Nat) (fl : List Byte) : s.keepsBounds (s.transferRefuse d fl) := .answer (.of_same (by rfl)) _ _ _
  simp only [State.transferDecide]
  split
  · exact refuses _ _
  · split
    · exact refuses _ _
    · split
      · exact refuses _ _
      · exact .run (.refl s) _

theorem State.readAccountTurn_keepsBounds (account : Nat) : turnKeepsBounds s (s.readAccountTurn account) := by
  rw [State.readAccountTurn]
  split
  · exact turnKeepsBounds_some (.answer (.of_same (by rfl)) _ _ _)
  · exact turnKeepsBounds_some (.answer (.of_same (by rfl)) _ _ _)
  · exact turnKeepsBounds_none s

theorem State.sweepTurn_keepsBounds (r : SweepRun) : turnKeepsBounds s (s.sweepTurn r) := by
  rw [State.sweepTurn]
  split
  · exact turnKeepsBounds_none s
  · split
    · exact turnKeepsBounds_some (.trans (.of_same (by rfl)) (State.sweepVisit_keepsBounds _ _ _ _))
    · exact turnKeepsBounds_some (.trans (.of_same (by rfl)) (State.sweepVisit_keepsBounds _ _ _ _))
    · exact turnKeepsBounds_none s

theorem State.scanTurn_keepsBounds (r : ScanRun) : turnKeepsBounds s (s.scanTurn r) := by
  simp only [State.scanTurn]
  split
  · split
    · exact turnKeepsBounds_some (s.scanAdvance_keepsBounds _)
    · exact turnKeepsBounds_some (s.scanEnd_keepsBounds _ _ _ _)
  · split
    · exact turnKeepsBounds_some (.trans (.of_same (by rfl)) (State.scanCompare_keepsBounds _ _ _))
    · exact turnKeepsBounds_some (.trans (.of_same (by rfl)) (State.scanAdvance_keepsBounds _ _))
    · split
      · exact turnKeepsBounds_none s
      · exact turnKeepsBounds_some (.run (.refl s) _)

theorem State.rebaseTurn_keepsBounds (i : Nat) : turnKeepsBounds s (s.rebaseTurn i) := by
  rw [State.rebaseTurn]
  split
  · exact turnKeepsBounds_some (.answer (.of_same (by rfl)) _ _ _)
  · exact turnKeepsBounds_some (.answer (.of_same (by rfl)) _ _ _)
  · exact turnKeepsBounds_none s

theorem State.payerTurn_keepsBounds (o : TransferOrder) : turnKeepsBounds s (s.payerTurn o) := by
  rw [State.payerTurn]
  split
  · exact turnKeepsBounds_some (.run (.of_same (by rfl)) _)
  · exact turnKeepsBounds_some (.answer (.of_same (by rfl)) _ _ _)
  · exact turnKeepsBounds_none s

theorem State.payeeTurn_keepsBounds (o : TransferOrder) : turnKeepsBounds s (s.payeeTurn o) := by
  rw [State.payeeTurn]
  split
  · split
    · exact turnKeepsBounds_some (.trans (.of_same (by rfl)) (State.transferDecide_keepsBounds _ _ _ _))
    · exact turnKeepsBounds_some (.answer (.of_same (by rfl)) _ _ _)
  · exact turnKeepsBounds_some (.answer (.of_same (by rfl)) _ _ _)
  · exact turnKeepsBounds_none s

theorem State.transferWriteTurn_keepsBounds (o : TransferOrder) (images : List Image) (cursor : Nat) :
    turnKeepsBounds s (s.transferWriteTurn o images cursor) := by
  have goesOn (r : Run) : turnKeepsBounds s (some (s.setRun r)) := turnKeepsBounds_some (.run (.refl s) r)
  rw [State.transferWriteTurn]
  split
  · exact goesOn _
  · split
    · split
      · exact turnKeepsBounds_none s
      · exact goesOn _
    · exact goesOn _

theorem State.repairTurn_keepsBounds (o : RepairOrder) : turnKeepsBounds s (s.repairTurn o) := by
  rw [State.repairTurn]
  split
  · exact turnKeepsBounds_some (.answer (.of_same (by rfl)) _ _ _)
  · exact turnKeepsBounds_some (.run (.of_same (by rfl)) _)
  · exact turnKeepsBounds_none s

theorem State.flushTurn_keepsBounds (toWrite : List Nat) (count : Nat) : turnKeepsBounds s (s.flushTurn toWrite count) := by
  have goesOn (r : Run) : turnKeepsBounds s (some (s.setRun r)) := turnKeepsBounds_some (.run (.refl s) r)
  cases toWrite with
  | nil => exact goesOn _
  | cons a rest =>
    simp only [State.flushTurn]
    split <;> split
    · exact turnKeepsBounds_none s
    · exact goesOn _
    · exact turnKeepsBounds_none s
    · exact goesOn _

theorem State.initTurn_keepsBounds : turnKeepsBounds s s.initTurn := by
  rw [State.initTurn]
  split
  · exact turnKeepsBounds_some (.run (.of_same (by rfl)) _)
  · exact turnKeepsBounds_none s

/-- A command that waits for the books goes on once its wait is over. -/
theorem turnKeepsBounds_wait (waits : Bool) (r : Run) : turnKeepsBounds s (if waits then none else some (s.setRun r)) := by
  split
  · exact turnKeepsBounds_none s
  · exact turnKeepsBounds_some (.run (.refl s) r)

theorem State.commandTurn_keepsBounds : turnKeepsBounds s s.commandTurn := by
  rw [State.commandTurn]
  split
  · exact s.readAccountTurn_keepsBounds _
  · exact s.sweepTurn_keepsBounds _
  · exact s.scanTurn_keepsBounds _
  · exact turnKeepsBounds_wait s _ _
  · exact s.rebaseTurn_keepsBounds _
  · exact turnKeepsBounds_wait s _ _
  · exact s.payerTurn_keepsBounds _
  · exact s.payeeTurn_keepsBounds _
  · exact s.transferWriteTurn_keepsBounds _ _ _
  · exact turnKeepsBounds_wait s _ _
  · exact s.repairTurn_keepsBounds _
  · exact s.flushTurn_keepsBounds _ _
  · exact s.initTurn_keepsBounds
  · exact turnKeepsBounds_none s

/-! ### Cutting and stopping (R165, R168, R169) -/

theorem State.cutCommand_keepsBounds (reason : CutReason) : s.keepsBounds (s.cutCommand reason) := by
  have runs (r : Run) : s.keepsBounds (s.setRun r) := .run (.refl s) r
  rw [State.cutCommand]
  split
  · exact .refl s
  · exact .refl s
  · exact .refl s
  · split
    · exact runs _
    · exact runs _
  · dsimp only
    split
    · exact s.sweepEnd_keepsBounds _
    · exact runs _
  · dsimp only
    split
    · exact runs _
    · exact s.scanAdvance_keepsBounds _
  · split
    · exact runs _
    · exact runs _
  · split
    · exact runs _
    · exact runs _

theorem State.endCut_keepsBounds : s.keepsBounds s.endCut := by
  rw [State.endCut]
  split
  · exact .answer (.refl s) _ _ _
  · exact .refl s

theorem State.stopSweep_keepsBounds : s.keepsBounds s.stopSweep := by
  rw [State.stopSweep]
  split
  · split
    · exact .run (.refl s) _
    · exact .refl s
  · exact .refl s

/-! ### The follow-on work of an event: grants and turns -/

theorem State.beginOp_keepsBounds (o : PortOp) : s.keepsBounds (s.beginOp o) := by
  simp only [State.beginOp]
  split <;> exact .of_same (by rfl)

theorem State.grant_keepsBounds : s.keepsBounds s.grant := by
  obtain h | ⟨o, -, h⟩ | ⟨_, _, _, -, -, h⟩ := s.grant_cases <;> rw [h]
  · exact .refl s
  · exact s.beginOp_keepsBounds o
  · exact .of_same (by rfl)

theorem State.commandOrBookTurn_keepsBounds : turnKeepsBounds s s.commandOrBookTurn := by
  have command := s.commandTurn_keepsBounds
  rw [State.commandOrBookTurn]
  split
  case h_1 c b hc _ =>
    split
    · split
      · exact turnKeepsBounds_some (command c hc).drawn
      · exact turnKeepsBounds_some (.trans (.of_same (by rfl)) (State.enterSettling_keepsBounds _ _))
    · exact turnKeepsBounds_some (command c hc)
  case h_2 c hc _ => exact turnKeepsBounds_some (command c hc)
  case h_3 => exact turnKeepsBounds_some (s.enterSettling_keepsBounds _)
  case h_4 => exact turnKeepsBounds_none s

theorem State.commitTurn_keepsBounds : turnKeepsBounds s s.commitTurn := by
  rw [State.commitTurn]
  split
  · exact turnKeepsBounds_some s.beginChecks_keepsBounds
  · exact turnKeepsBounds_none s

/-- Steps 1 to 4 of a RESTART sequence empty the lists, and hold commands back (R164, R175). -/
theorem State.beginSequence_keepsBounds (keepHeld : Bool) : s.keepsBounds (s.beginSequence keepHeld) :=
  { State.keepsBounds.refl s with
    attention := fun _ => AttentionList.sound_empty false
    books := fun _ => Nat.zero_le _
    queues := fun _ f => by simp [State.beginSequence]
    held := fun _ => Bool.or_true _ }

theorem State.beginStartup_keepsBounds (keepHeld : Bool) : s.keepsBounds (s.beginStartup keepHeld) :=
  { State.keepsBounds.refl s with
    queues := fun bounded => (State.keepsBounds.mapPorts (.refl s) fun p => by split <;> exact Nat.le_refl _).queues bounded
    held := fun _ => Bool.or_true _ }

theorem State.releaseTurn_keepsBounds : turnKeepsBounds s s.releaseTurn := by
  rw [State.releaseTurn]
  split
  · exact turnKeepsBounds_some (.trans (.of_same (by rfl)) (State.beginSequence_keepsBounds _ _))
  · exact turnKeepsBounds_none s

/-- Every turn of every unit. -/
theorem State.turn_keepsBounds : turnKeepsBounds s s.turn := by
  rw [State.turn]
  split
  · exact turnKeepsBounds_orElse s.commandTurn_keepsBounds s.releaseTurn_keepsBounds
  · split
    case h_1 =>
      split
      · exact turnKeepsBounds_some (s.beginStartup_keepsBounds _)
      · exact turnKeepsBounds_none s
    case h_2 => exact turnKeepsBounds_none s
    case h_3 => exact s.noticeTurn_keepsBounds
    case h_4 =>
      exact turnKeepsBounds_orElse s.settleTurn_keepsBounds <| turnKeepsBounds_orElse s.postTurn_keepsBounds <|
        turnKeepsBounds_orElse s.checkTurn_keepsBounds <| turnKeepsBounds_orElse s.markTurn_keepsBounds <|
        turnKeepsBounds_orElse s.commandOrBookTurn_keepsBounds <|
        turnKeepsBounds_orElse s.commitTurn_keepsBounds s.noticeTurn_keepsBounds

/-- The follow-on work of an event. -/
theorem State.drive_keepsBounds : s.keepsBounds s.drive :=
  State.drive_keeps (P := s.keepsBounds) (fun t u kept turn => kept.trans (t.turn_keepsBounds u turn))
    (fun t kept => kept.trans t.grant_keepsBounds) (.refl s)

/-! ### The station's commands -/

end

namespace State.keepsBounds

variable {s t : State}

theorem drive (h : s.keepsBounds t) : s.keepsBounds t.drive := h.trans t.drive_keepsBounds

end State.keepsBounds

section
variable (s : State)

theorem State.refuse_keepsBounds (detail : Nat) : s.keepsBounds (s.refuse detail) := .answer (.refl s) _ _ _

/-- A command that starts to run, and the units' turns. -/
theorem State.runs_keepsBounds (r : Run) : s.keepsBounds (s.setRun r).drive := (State.keepsBounds.run (.refl s) r).drive

/-- A command that is refused, or else runs. -/
theorem State.refusedOr_keepsBounds (refused : Bool) (detail : Nat) {t : State} (h : s.keepsBounds t) :
    s.keepsBounds (if refused then s.refuse detail else t) := by
  split
  · exact s.refuse_keepsBounds detail
  · exact h

theorem State.startReadAccount_keepsBounds (account : Nat) : s.keepsBounds (s.startReadAccount account) := by
  refine s.refusedOr_keepsBounds _ _ ?_
  split
  case h_1 t turn => exact s.readAccountTurn_keepsBounds account t turn
  case h_2 => exact s.runs_keepsBounds _

theorem State.startHold_keepsBounds (feeder : Nat) : s.keepsBounds (s.startHold feeder) := by
  rw [State.startHold]
  split
  · exact s.refuse_keepsBounds _
  · split
    · exact .answer (.modifyPort (.refl s) _ (by intro; rfl)) _ _ _
    · exact .answer (.refl s) _ _ _
    · exact .answer (.refl s) _ _ _
    · exact s.refuse_keepsBounds _

theorem State.startResume_keepsBounds (feeder : Nat) : s.keepsBounds (s.startResume feeder) := by
  rw [State.startResume]
  split
  · exact s.refuse_keepsBounds _
  · split
    · exact .answer (.refl s) _ _ _
    · exact .answer (.modifyPort (.refl s) _ (by intro; rfl)) _ _ _
    · refine .answer ?_ _ _ _
      split
      · exact .modifyPort (.refl s) _ fun _ => rfl
      · exact s.feederOff_keepsBounds _
    · exact s.refuse_keepsBounds _

theorem State.startEnrol_keepsBounds (feeder rounds serial : Nat) : s.keepsBounds (s.startEnrol feeder rounds serial) := by
  rw [State.startEnrol]
  split
  · exact s.refuse_keepsBounds _
  · split
    · exact s.refuse_keepsBounds _
    · split
      · exact s.refuse_keepsBounds _
      · exact .answer (.modifyPort (.refl s) _ (by intro; rfl)) _ _ _

theorem State.stage_keepsBounds (write : TableSet → TableSet) : s.keepsBounds (s.stage write) :=
  s.refusedOr_keepsBounds _ _ (.answer (.of_same (by rfl)) _ _ _)

theorem State.startActivate_keepsBounds : s.keepsBounds s.startActivate := by
  rw [State.startActivate]
  split
  · split
    · exact s.refuse_keepsBounds _
    · exact .answer (.of_same (by rfl)) _ _ _
  · split
    · exact s.refuse_keepsBounds _
    · split
      · exact s.refuse_keepsBounds _
      · rw [State.activateNow]
        split
        · exact .answer (s.failChecks_keepsBounds _) _ _ _
        · exact .drive (.answer s.commit_keepsBounds _ _ _)

theorem State.startDisarm_keepsBounds : s.keepsBounds s.startDisarm := by
  refine s.refusedOr_keepsBounds _ _ ?_
  dsimp only
  split
  · exact .drive (.answer (.trans (.of_same (by rfl)) (State.boundarySearch_keepsBounds _)) _ _ _)
  · exact .answer (.of_same (by rfl)) _ _ _

theorem State.stepForward_keepsBounds (before : Nat) : s.keepsBounds (s.stepForward before).1 := by
  simp only [State.stepForward]
  split <;> split
  · exact s.endCollection_keepsBounds.trans (State.boundarySearch_keepsBounds _)
  · exact s.endCollection_keepsBounds
  · exact s.boundarySearch_keepsBounds
  · exact .refl s

theorem State.startSetClock_keepsBounds (day second weekday : Nat) : s.keepsBounds (s.startSetClock day second weekday) := by
  simp only [State.startSetClock]
  split
  · exact .answer (.of_same (by rfl)) _ _ _
  · split
    · exact s.refuse_keepsBounds _
    · split
      · exact .drive (.answer (.trans (.of_same (by rfl)) (State.stepForward_keepsBounds _ _)) _ _ _)
      · exact .answer (.of_same (by rfl)) _ _ _

theorem State.ofHeld_keepsBounds (start : Nat) {act : State → State} (h : s.keepsBounds (act s)) :
    s.keepsBounds (s.ofHeld start act) := by
  rw [State.ofHeld]
  split
  · exact s.refuse_keepsBounds _
  · split
    · exact h
    · exact s.refuse_keepsBounds _

theorem State.freeRegister_keepsBounds (e : Attention) : s.keepsBounds (s.freeRegister e) := by
  cases e with
  | enrolDone f ending others counted =>
    simp only [State.freeRegister]
    split
    · exact .modifyPort (.refl s) _ fun _ => rfl
    · exact .refl s
  | _ => exact .refl s

/-- SENSE ATTENTION takes the oldest item, or none (R173). -/
theorem State.startSense_keepsBounds : s.keepsBounds s.startSense := by
  rw [State.startSense]
  split
  case h_1 =>
    have emptied : s.keepsBounds { s with attention := { items := [], overflow := false } } :=
      { State.keepsBounds.refl s with attention := fun _ => AttentionList.sound_empty false }
    exact emptied.run _
  case h_2 i rest items =>
    have taken : s.keepsBounds { s with attention := { items := rest, overflow := false } } :=
      { State.keepsBounds.refl s with
        attention := fun sound => AttentionList.sound.tail (i := i) (overflow := s.attention.overflow)
          (by rw [← items]; exact sound) false }
    exact (taken.trans (State.freeRegister_keepsBounds _ _)).run _

/-- No command exceeds a bound as it starts. -/
theorem State.startCommand_keepsBounds (c : Command) : s.keepsBounds (s.startCommand c) := by
  have finishes (fl : List Byte) (d : Nat) : s.keepsBounds (s.finish d fl) := .answer (.refl s) _ _ _
  by_cases staging : commandCode c ∈ stagingCodes
  · rw [State.startCommand_of_staging staging]
    exact s.stage_keepsBounds _
  cases c with
  | readAccount a => exact s.startReadAccount_keepsBounds a
  | readParticipant i c => exact finishes _ _
  | readFeeder f c =>
    simp only [State.startCommand, State.startReadFeeder]
    split
    · exact finishes _ _
    · exact s.refuse_keepsBounds _
  | readBand p c => exact finishes _ _
  | readBook b p =>
    simp only [State.startCommand, State.startReadBook]
    split
    · exact s.refuse_keepsBounds _
    · exact finishes _ _
    · exact finishes _ _
  | readRoundStatus f =>
    simp only [State.startCommand, State.startReadRoundStatus]
    split
    · split <;> exact finishes _ _
    · exact s.refuse_keepsBounds _
  | readClock => exact finishes _ _
  | readEngine => exact finishes _ _
  | sweepAccounts o => exact s.refusedOr_keepsBounds _ _ (s.runs_keepsBounds _)
  | scanAccounts o => exact s.refusedOr_keepsBounds _ _ (s.runs_keepsBounds _)
  | hold f => exact s.startHold_keepsBounds f
  | resume f => exact s.startResume_keepsBounds f
  | enrol f n serial => exact s.startEnrol_keepsBounds f n serial
  | rebase i => exact s.refusedOr_keepsBounds _ _ (s.refusedOr_keepsBounds _ _ (s.runs_keepsBounds _))
  | activate => exact s.startActivate_keepsBounds
  | disarm => exact s.startDisarm_keepsBounds
  | setClock d sec w => exact s.startSetClock_keepsBounds d sec w
  | releaseBook m =>
    rw [State.startCommand, State.startReleaseBook]
    exact s.ofHeld_keepsBounds m (.drive (.answer (.updateBook (.refl s) _ _) _ _ _))
  | discardBook m =>
    rw [State.startCommand, State.startDiscardBook]
    exact s.ofHeld_keepsBounds m (.drive (.answer (.updateBook (.refl s) _ _) _ _ _))
  | transfer o =>
    simp only [State.startCommand, State.startTransfer]
    split
    · exact s.refuse_keepsBounds _
    · exact s.refusedOr_keepsBounds _ _ (s.runs_keepsBounds _)
  | repairAccount o => exact s.refusedOr_keepsBounds _ _ (s.runs_keepsBounds _)
  | flush => exact s.refusedOr_keepsBounds _ _ (s.runs_keepsBounds _)
  | initAccountMemory =>
    simp only [State.startCommand, State.startInit]
    split
    · exact s.refuse_keepsBounds _
    · exact s.runs_keepsBounds _
  | senseAttention => exact s.startSense_keepsBounds
  | restart k => exact .run (.refl s) _
  | _ => exact absurd (by simp [commandCode, stagingCodes]) staging

/-- A frame that becomes the executing command is decided within the bounds (R164, R166). -/
theorem State.begin_keepsBounds (b : Buffered) : ∃ tag code, (s.install tag code).keepsBounds (s.begin b) := by
  rw [State.begin]
  split
  · exact ⟨_, _, State.refuse_keepsBounds _ _⟩
  · exact ⟨b.tag, s.freeByte, .answer (.of_same (by rfl)) _ _ _⟩
  case h_3 code _ =>
    refine ⟨b.tag, code, ?_⟩
    rw [State.decideFaulty]
    split
    · exact State.refuse_keepsBounds _ _
    · split <;> exact State.refuse_keepsBounds _ _
  case h_4 c _ =>
    refine ⟨b.tag, BitVec.ofNat 8 (commandCode c), ?_⟩
    dsimp only
    split
    · exact State.refuse_keepsBounds _ _
    · exact State.startCommand_keepsBounds _ c

end

end Sys2Proof.Machine
end

section
/-! ## The capacities (O56): events -/

namespace Sys2Proof.Machine

/-- The bounds but for one: a command may wait that could execute. -/
structure State.boundedButWaiting (s : State) : Prop where
  outbound : s.outboundBounded
  buffers : (if s.link.executing.isSome then 1 else 0) + s.link.waiting.length ≤ 2
  books : s.booksBounded
  queues : s.queuesBounded

/-- An event after which the Attention List is as sound as before and the bounds hold as before. -/
structure State.staysBounded (s t : State) : Prop where
  attention : s.attention.sound → t.attention.sound
  bounded : s.bounded → t.bounded

section
variable {s t u : State}

theorem State.boundedButWaiting_of_bounded (h : s.bounded) : s.boundedButWaiting := by
  obtain ⟨outbound, ⟨buffers, -⟩, books, queues⟩ := h
  exact ⟨outbound, buffers, books, queues⟩

/-- The bounds hold once no command waits that could execute. -/
theorem State.boundedButWaiting.bounded (h : s.boundedButWaiting)
    (taken : s.link.executing = none → s.commandsHeld = false → s.link.waiting = []) : s.bounded :=
  ⟨h.outbound, ⟨h.buffers, taken⟩, h.books, h.queues⟩

theorem State.keepsBounds.boundedButWaiting (h : s.keepsBounds t) (bounds : s.boundedButWaiting) :
    t.boundedButWaiting where
  outbound := h.outbound.trans_le bounds.outbound
  buffers := by rw [h.executing, h.waiting]; exact bounds.buffers
  books := h.books bounds.books
  queues := h.queues bounds.queues

theorem State.keepsBounds.bounded (h : s.keepsBounds t) (bounds : s.bounded) : t.bounded := by
  refine (h.boundedButWaiting (State.boundedButWaiting_of_bounded bounds)).bounded fun free let_ => ?_
  obtain ⟨-, ⟨-, taken⟩, -, -⟩ := bounds
  have free' : s.link.executing = none := by
    rw [← Option.not_isSome_iff_eq_none, ← h.executing, Option.not_isSome_iff_eq_none]
    exact free
  have let' : s.commandsHeld = false := Bool.eq_false_iff.2 fun held => by simp [h.held held] at let_
  rw [h.waiting]
  exact taken free' let'

theorem State.keepsBounds.stays (h : s.keepsBounds t) : s.staysBounded t := ⟨h.attention, h.bounded⟩

theorem State.staysBounded.trans (h : s.staysBounded t) (h' : t.staysBounded u) : s.staysBounded u :=
  ⟨h'.attention ∘ h.attention, h'.bounded ∘ h.bounded⟩

/-- An event and what the units do after it. -/
theorem State.staysBounded.followed (h : s.staysBounded t) (h' : t.keepsBounds u) : s.staysBounded u := h.trans h'.stays

theorem State.staysBounded.drive (h : s.staysBounded t) : s.staysBounded t.drive := h.followed t.drive_keepsBounds

end

section
variable (s : State)

theorem State.staysBounded_refl : s.staysBounded s := (State.keepsBounds.refl s).stays

/-! ### Commands taken into the buffers (R164) -/

/-- A frame that becomes the executing command, where the rest of the buffers holds one frame at most. -/
theorem State.begin_bounded (b : Buffered) (outbound : s.outboundBounded) (waiting : s.link.waiting.length ≤ 1)
    (books : s.booksBounded) (queues : s.queuesBounded) : (s.begin b).bounded := by
  obtain ⟨tag, code, begun⟩ := s.begin_keepsBounds b
  have installed : (s.install tag code).boundedButWaiting :=
    ⟨outbound, by simp only [State.install, Option.isSome_some, if_true]; omega, books, queues⟩
  exact begun.bounded (installed.bounded fun none => nomatch none)

theorem State.begin_attention (b : Buffered) (sound : s.attention.sound) : (s.begin b).attention.sound := by
  obtain ⟨tag, code, begun⟩ := s.begin_keepsBounds b
  exact begun.attention sound

theorem State.takeWaiting_attention (sound : s.attention.sound) : s.takeWaiting.attention.sound := by
  rw [State.takeWaiting]
  split
  · split
    · exact sound
    · exact State.begin_attention _ _ sound
  · exact sound

/-- After the older waiting command has been taken none waits that could execute. -/
theorem State.takeWaiting_bounded (h : s.boundedButWaiting) : s.takeWaiting.bounded := by
  rw [State.takeWaiting]
  split
  case h_1 b rest free waits =>
    split
    case isTrue held => exact h.bounded fun _ let_ => by simp [held] at let_
    case isFalse =>
      have two := h.buffers
      simp only [free, waits, Option.isSome_none, List.length_cons] at two
      exact State.begin_bounded _ b h.outbound (by simpa using two) h.books h.queues
  case h_2 untaken =>
    refine h.bounded fun free _ => ?_
    rcases waits : s.link.waiting with _ | ⟨b, rest⟩
    · rfl
    · exact (untaken b rest free waits).elim

/-- Another condition of the receive side or another indicator. -/
theorem State.receiveChanged_keepsBounds (receive : ReceiveSide) (discards overrun : Bool) :
    s.keepsBounds
      { s with link := { s.link with receive := receive, discardsSeen := discards, overrun := overrun } } :=
  { State.keepsBounds.refl s with }

/-- A good COMMAND frame is taken into the buffers while they have room for it (R164). -/
theorem State.arrive_staysBounded (b : Buffered) : s.staysBounded (s.arrive b) := by
  simp only [State.arrive]
  split
  case isTrue free =>
    simp only [Bool.and_eq_true, Option.isNone_iff_eq_none, Bool.not_eq_true'] at free
    refine ⟨s.begin_attention b, fun ⟨outbound, ⟨_, taken⟩, books, queues⟩ => ?_⟩
    exact s.begin_bounded b outbound (by simp [taken free.1 free.2]) books queues
  case isFalse held =>
    split
    case isTrue => exact (s.receiveChanged_keepsBounds _ _ _).stays
    case isFalse room =>
      have waits : s.staysBounded { s with link := { s.link with waiting := s.link.waiting ++ [b] } } := by
        refine ⟨id, fun ⟨outbound, _, books, queues⟩ => ?_⟩
        refine State.boundedButWaiting.bounded ⟨outbound, ?_, books, queues⟩ fun free let_ => ?_
        · simp only [StationLink.buffersFull, decide_eq_true_eq] at room
          simp only [List.length_append, List.length_singleton]
          omega
        · have free' : s.link.executing = none := free
          have let' : s.commandsHeld = false := let_
          simp [free', let'] at held
      split
      · exact (waits.followed (State.cutCommand_keepsBounds _ _)).drive
      · exact waits

/-! ### The station link -/

theorem State.discard_keepsBounds : s.keepsBounds s.discard := s.receiveChanged_keepsBounds _ _ _

theorem State.judgeFrame_staysBounded (bytes : List Byte) : s.staysBounded (s.judgeFrame bytes) := by
  have hunts : s.keepsBounds (s.setReceive .hunting) := s.receiveChanged_keepsBounds _ _ _
  have discards := (hunts.trans (State.discard_keepsBounds _)).stays
  simp only [State.judgeFrame]
  split
  · exact discards
  · split
    · exact hunts.stays.trans (State.arrive_staysBounded _ _)
    · split
      · exact (hunts.trans (State.stopSweep_keepsBounds _)).stays
      · exact discards

theorem State.receiveByte_staysBounded (b : Byte) : s.staysBounded (s.receiveByte b) := by
  have receives (r : ReceiveSide) : s.staysBounded (s.setReceive r) := (s.receiveChanged_keepsBounds r _ _).stays
  rw [State.receiveByte]
  split
  · split
    · exact receives _
    · exact s.staysBounded_refl
  · split
    · exact s.judgeFrame_staysBounded _
    · exact receives _

theorem State.receiveBytes_staysBounded (bytes : List Byte) : s.staysBounded (bytes.foldl State.receiveByte s) := by
  induction bytes generalizing s with
  | nil => exact s.staysBounded_refl
  | cons b rest ih => exact (s.receiveByte_staysBounded b).trans (ih _)

theorem State.badStopBit_keepsBounds : s.keepsBounds s.badStopBit := by
  rw [State.badStopBit]
  split
  · exact s.discard_keepsBounds
  · exact .refl s

theorem State.gapTimeout_staysBounded (next : Option Byte) : s.staysBounded (s.gapTimeout next) := by
  have ended : s.staysBounded (if s.link.isAssembling then s.discard else s) := s.badStopBit_keepsBounds.stays
  cases next with
  | none => exact ended
  | some b => exact ended.trans (State.receiveByte_staysBounded _ b)

/-- A frame enters the outbound queue only where it has room (R170). -/
theorem State.push_bounded {s : State} (f : OutFrame) (room : s.link.hasRoom = true) (h : s.bounded) :
    ({ s with link := s.link.push f } : State).bounded := by
  obtain ⟨-, buffers, books, queues⟩ := h
  refine ⟨?_, buffers, books, queues⟩
  have room' : s.link.outbound.length < Config.outbound := of_decide_eq_true room
  simp only [State.outboundBounded, StationLink.push, List.length_append, List.length_singleton]
  omega

theorem State.queueResult_staysBounded : s.staysBounded s.queueResult := by
  rw [State.queueResult]
  split
  case h_1 tag code r executing =>
    split
    case isTrue room =>
      refine ⟨fun sound => State.takeWaiting_attention _ sound, fun h => State.takeWaiting_bounded _ ?_⟩
      have pushed := State.boundedButWaiting_of_bounded (State.push_bounded (s.resultFrame tag r) room h)
      have buffers := pushed.buffers
      refine ⟨pushed.outbound, ?_, pushed.books, pushed.queues⟩
      simp only [StationLink.push, executing, Option.isSome_some, if_true] at buffers
      simp only [StationLink.push, Option.isSome_none, Bool.false_eq_true, if_false]
      omega
    case isFalse => exact s.staysBounded_refl
  case h_2 => exact s.staysBounded_refl

theorem State.queueBlock_staysBounded : s.staysBounded s.queueBlock := by
  rw [State.queueBlock]
  split
  · split
    · split
      case isTrue room =>
        have pushed (f : OutFrame) : s.staysBounded { s with link := s.link.push f } := ⟨id, State.push_bounded f room⟩
        exact ((pushed _).followed (State.sweepAdvance_keepsBounds _ _)).drive
      case isFalse => exact s.staysBounded_refl
    · exact s.staysBounded_refl
  · exact s.staysBounded_refl

theorem State.queueStatement_staysBounded : s.staysBounded s.queueStatement := by
  rw [State.queueStatement]
  split
  case h_1 b due =>
    have room : s.link.hasRoom = true := by
      simp only [State.statementDue] at due
      split at due
      case isTrue all => simp only [Bool.and_eq_true] at all; exact all.1.1
      case isFalse => cases due
    have pushed : s.staysBounded { s with link := s.link.push (statementFrame b) } := ⟨id, State.push_bounded _ room⟩
    exact pushed.followed (.updateBook (.refl _) _ _)
  case h_2 => exact s.staysBounded_refl

theorem State.frameSent_staysBounded : s.staysBounded s.frameSent := by
  rw [State.frameSent]
  split
  case h_1 => exact s.staysBounded_refl
  case h_2 f rest queue =>
    have sent : s.staysBounded { s with link := { s.link with outbound := rest } } := by
      refine ⟨id, fun ⟨outbound, buffers, books, queues⟩ => ⟨?_, buffers, books, queues⟩⟩
      rw [State.outboundBounded, queue, List.length_cons] at outbound
      exact (Nat.le_succ _).trans outbound
    dsimp only
    split
    · split
      · exact sent
      · exact (sent.followed (State.beginSequence_keepsBounds _ _)).drive
    · exact sent

/-! ### The end of a RESTART sequence -/

/-- The end of what held commands back, with the units' work at it, and the waiting command taken. -/
theorem State.takeWaiting_staysBounded {t u : State} (attention : t.attention = s.attention)
    (relaxed : s.bounded → t.boundedButWaiting) (then_ : t.keepsBounds u) : s.staysBounded u.takeWaiting :=
  ⟨fun sound => u.takeWaiting_attention (then_.attention (by rw [attention]; exact sound)),
   fun h => u.takeWaiting_bounded (then_.boundedButWaiting (relaxed h))⟩

theorem State.sequenceOn_staysBounded : s.staysBounded s.sequenceOn := by
  rw [State.sequenceOn]
  split
  · split
    · refine State.takeWaiting_staysBounded s (t := { s with sequence := .none, link := { s.link with restartHold := false } })
        rfl (fun h => ?_) (State.boundarySearch_keepsBounds _)
      obtain ⟨outbound, buffers, books, queues⟩ := State.boundedButWaiting_of_bounded h
      exact ⟨outbound, buffers, books, queues⟩
    · exact s.staysBounded_refl
  · exact s.staysBounded_refl

theorem State.cutRound_keepsBounds (f : Feeder) : s.keepsBounds (s.modifyPort f FeederPort.cutRound) :=
  .modifyPort (.refl s) f fun _ => rfl

theorem State.restartPort_keepsBounds (keepHeld : Bool) (f : Feeder) : s.keepsBounds (s.restartPort keepHeld f) :=
  (s.cutRound_keepsBounds f).trans (State.actOnRestart_keepsBounds _ f keepHeld)

theorem State.reachPort_keepsBounds (keepHeld : Bool) (f : Feeder) : s.keepsBounds (State.reachPort keepHeld s f) := by
  rw [State.reachPort]
  split
  · exact .modifyPort (.refl s) f fun _ => rfl
  · exact s.restartPort_keepsBounds keepHeld f

theorem State.startupEnded_staysBounded : s.staysBounded s.startupEnded := by
  rw [State.startupEnded]
  split
  case h_1 keepHeld _ =>
    have reaches : s.keepsBounds { s with sequence := .ports keepHeld } :=
      { State.keepsBounds.refl s with held := fun _ => Bool.or_true _ }
    exact (reaches.trans (.foldl (fun t f => t.reachPort_keepsBounds keepHeld f) _ _)).stays.trans
      (State.sequenceOn_staysBounded _)
  case h_2 => exact s.staysBounded_refl

/-! ### The windows of a round -/

theorem State.nextWindow_staysBounded (f : Feeder) (w : Window) : s.staysBounded (s.nextWindow f w) := by
  rw [State.nextWindow]
  split
  · exact (s.cutRound_keepsBounds f).stays
  · split
    · exact ((s.restartPort_keepsBounds _ f).stays.trans (State.sequenceOn_staysBounded _)).drive
    · exact (s.cutRound_keepsBounds f).stays
    · exact (State.keepsBounds.modifyPort (.refl s) f (by intro; rfl)).stays

theorem State.setRound_keepsBounds (f : Feeder) (r : Round) : s.keepsBounds (s.setRound f r) := .modifyPort (.refl s) f fun _ => rfl

theorem State.openHead_keepsBounds (f : Feeder) : s.keepsBounds (s.openHead f) := by
  simp only [State.openHead]
  split
  · exact .setPort (.refl s) f (List.length_map _).trans_le
  · exact .refl s

theorem State.closeHead_staysBounded (f : Feeder) (readback : List Sample) :
    s.staysBounded (s.closeHead f readback) := by
  rw [State.closeHead]
  split
  · split
    · exact (((s.setRound_keepsBounds f _).trans (State.startPrefetch_keepsBounds _ f _)).stays.trans
        (State.nextWindow_staysBounded _ f _)).drive
    · exact (s.setRound_keepsBounds f _).stays.trans (State.nextWindow_staysBounded _ f _)
  · exact s.staysBounded_refl

theorem State.openOrder_keepsBounds (f : Feeder) : s.keepsBounds (s.openOrder f) := by
  rw [State.openOrder]
  split
  · split
    · exact .refl s
    · split
      · exact .modifyPort (.refl s) f fun _ => rfl
      · exact .refl s
  · exact .refl s

/-- A readback result lengthens no queue (R153). -/
theorem applyReadback_length (q : List OrderEntry) (j : Nat) (ok : Bool) :
    (applyReadback q j ok).1.length ≤ q.length := by
  rw [applyReadback]
  split
  · exact Nat.le_refl _
  · split
    · exact (List.length_map _).le
    · exact List.length_filter_le _ _

theorem State.orderResult_keepsBounds (f : Feeder) (j : Nat) (ok : Bool) : s.keepsBounds (s.orderResult f j ok) := by
  have applied : s.keepsBounds (s.modifyPort f fun p => { p with queue := (applyReadback s.ports[f].queue j ok).1 }) :=
    .setPort (.refl s) f (applyReadback_length _ j ok).trans
  simp only [State.orderResult]
  split
  · exact applied.raise _
  · exact applied

theorem State.closeOrder_staysBounded (f : Feeder) (readback : List Sample) :
    s.staysBounded (s.closeOrder f readback) := by
  rw [State.closeOrder]
  split
  · exact ((s.orderResult_keepsBounds f _ _).trans (State.setRound_keepsBounds _ f _)).stays.trans
      (State.nextWindow_staysBounded _ f _)
  · exact s.staysBounded_refl

theorem State.closeSlot_staysBounded (f : Feeder) (heard : List LineChar) : s.staysBounded (s.closeSlot f heard) := by
  rw [State.closeSlot]
  split
  · refine State.staysBounded.drive (.trans ?_ (State.nextWindow_staysBounded _ f _))
    split
    · exact ((s.setRound_keepsBounds f _).trans (State.handReport_keepsBounds _ _ _ _ _ _)).stays
    · exact (s.setRound_keepsBounds f _).stays
  · exact s.staysBounded_refl

theorem State.openNotice_keepsBounds (f : Feeder) : s.keepsBounds (s.openNotice f) := by
  rw [State.openNotice]
  split
  · split
    · exact .refl s
    · exact .modifyPort (.refl s) f fun _ => rfl
  · exact .refl s

theorem State.closeNotice_staysBounded (f : Feeder) (readback : List Sample) :
    s.staysBounded (s.closeNotice f readback) := by
  rw [State.closeNotice]
  split
  · exact (State.keepsBounds.modifyPort (.refl s) f (by intro; rfl)).stays.trans (State.nextWindow_staysBounded _ f _)
  · exact s.staysBounded_refl

theorem State.countRound_keepsBounds (f : Feeder) (headOk : Bool) : s.keepsBounds (s.countRound f headOk) := by
  simp only [State.countRound]
  split
  · exact .trans (.setPort (.refl s) f (List.length_filterMap_le _ _).trans)
      (.foldl (fun t e => .raise (.refl t) (unconfirmed f e)) _ _)
  · exact .refl s

theorem State.afterQuiet_keepsBounds (f : Feeder) : s.keepsBounds (s.afterQuiet f) := by
  rw [State.afterQuiet]
  split
  · exact s.feederOff_keepsBounds f
  · split
    · exact .modifyPort (.refl s) f fun _ => rfl
    · exact .modifyPort (.refl s) f fun _ => rfl

theorem State.completeRound_keepsBounds (f : Feeder) (r : Round) (q : QuietOutcome) :
    s.keepsBounds (s.completeRound f r q) :=
  (((s.hearEnrolment_keepsBounds f q).modifyPort f (by intro; rfl)).trans (State.countRound_keepsBounds _ f _)).trans
    (State.afterQuiet_keepsBounds _ f)

theorem State.closeQuiet_staysBounded (f : Feeder) (heard : List LineChar) : s.staysBounded (s.closeQuiet f heard) := by
  rw [State.closeQuiet]
  split
  · split
    · exact s.nextWindow_staysBounded f _
    · exact (s.completeRound_keepsBounds f _ _).stays
  · exact s.staysBounded_refl

/-! ### The board -/

theorem State.hardwareReset_staysBounded (left : Option (List Byte)) : s.staysBounded (s.hardwareReset left) := by
  refine ⟨fun _ => AttentionList.sound_empty false, fun _ => ⟨Nat.zero_le _, ⟨Nat.zero_le _, fun _ _ => rfl⟩, Nat.zero_le _, ?_⟩⟩
  intro f
  simp [State.hardwareReset, State.afterHardwareReset, FeederPort.afterReset]

theorem State.warn_staysBounded : s.staysBounded s.warn := by
  have warned : s.staysBounded { s with powerWarning := true } := (State.keepsBounds.of_same (by rfl)).stays
  simp only [State.warn]
  split
  · exact warned
  · refine State.staysBounded.drive (State.takeWaiting_staysBounded s
      (t := State.enterQuiesced { s with powerWarning := true }) rfl (fun h => ?_) (State.cutCommand_keepsBounds _ _))
    obtain ⟨outbound, buffers, books, queues⟩ := State.boundedButWaiting_of_bounded h
    refine ⟨(List.length_map _).trans_le outbound, ?_, books, fun f => ?_⟩
    · simpa only [State.enterQuiesced, Option.isSome_map] using buffers
    · simp only [State.enterQuiesced, Fin.getElem_fin, Vector.getElem_map, FeederPort.warned]
      split <;> exact queues f

theorem State.unwarn_keepsBounds : s.keepsBounds s.unwarn := .drive (.of_same (by rfl))

theorem State.tick_keepsBounds : s.keepsBounds s.tick := by
  rw [State.tick]
  split
  · exact .trans (.drive (s.serveDeadline_keepsBounds.trans (State.serveBoundary_keepsBounds _))) (.of_same (by rfl))
  · exact .of_same (by rfl)

theorem State.boundary_keepsBounds : s.keepsBounds s.boundary := by
  rw [State.boundary]
  split
  · exact s.serveBoundary_keepsBounds.drive
  · exact .refl s

theorem State.deadline_keepsBounds : s.keepsBounds s.deadline := by
  rw [State.deadline]
  split
  · exact s.serveDeadline_keepsBounds.drive
  · exact .refl s

end

end Sys2Proof.Machine
end

section
/-! ## Every step keeps the bounds (O56) -/

namespace Sys2Proof.Machine

section
variable (s : State)

/-! ### What follows a completion -/

theorem State.completed_keepsBounds : s.keepsBounds s.completed := s.endCut_keepsBounds.drive

theorem State.idlePort_keepsBounds : s.keepsBounds s.idlePort := .of_same (by rfl)

/-- A completion that leaves its work within the bounds. -/
theorem State.completion_keepsBounds {t u : State} (h : s.idlePort.keepsBounds t) (h' : t.keepsBounds u) :
    s.keepsBounds u.completed := ((s.idlePort_keepsBounds.trans h).trans h').trans u.completed_keepsBounds

theorem State.writeAt_keepsBounds (place : Nat) (bytes : List Byte) : s.keepsBounds (s.writeAt place bytes) := .of_same (by rfl)

theorem State.writeRecord_keepsBounds (account : Nat) (r : AccountRecord) : s.keepsBounds (s.writeRecord account r) :=
  s.writeAt_keepsBounds _ _

theorem State.writeHeaderAs_keepsBounds (marker : Nat) (h : Header) : s.keepsBounds (s.writeHeaderAs marker h) :=
  .of_same (by rfl)

theorem State.writeHeader_keepsBounds (h : Header) : s.keepsBounds (s.writeHeader h) := s.writeHeaderAs_keepsBounds _ h

theorem State.writeVictim_keepsBounds (victim : Option (Nat × AccountRecord)) : s.keepsBounds (s.writeVictim victim) := by
  cases victim with
  | none => exact .refl s
  | some v => exact s.writeRecord_keepsBounds v.1 v.2

theorem State.fillLine_keepsBounds (reader : Reader) (account line : Nat) (record : Option AccountRecord) :
    s.keepsBounds (s.fillLine reader account line record) := by
  simp only [State.fillLine]
  split
  · exact .raise (.of_same (by rfl)) _
  · exact .of_same (by rfl)

theorem State.fillArrived_keepsBounds (account : Nat) : s.keepsBounds (s.fillArrived account) :=
  .foldl (fun t f => by
    split
    · exact t.servePrefetch_keepsBounds f account
    · exact .refl t) _ s

theorem State.fillDone_keepsBounds (returned : Option (List Byte)) : s.keepsBounds (s.fillDone returned) := by
  rw [State.fillDone]
  split
  · exact s.completion_keepsBounds (State.writeVictim_keepsBounds _ _)
      ((State.fillLine_keepsBounds _ _ _ _ _).trans (State.fillArrived_keepsBounds _ _))
  · exact .refl s

theorem State.writeLine_keepsBounds (line account : Nat) : s.keepsBounds (s.writeLine line account) := by
  rw [State.writeLine]
  split
  · split
    · exact .of_same (by rfl)
    · exact .refl s
  · exact .refl s

theorem State.flushCounted_keepsBounds : s.keepsBounds s.flushCounted := by
  rw [State.flushCounted]
  split
  · exact .run (.refl s) _
  · exact .run (.refl s) _
  · exact .refl s

theorem State.afterWriteBack_keepsBounds (purpose : WriteBackUse) (line : Nat) :
    s.keepsBounds (s.afterWriteBack purpose line) := by
  cases purpose with
  | postingVictim image =>
    simp only [State.afterWriteBack]
    split
    · exact (s.placeImage_keepsBounds _ _).trans (.of_same (by rfl))
    · exact .refl s
  | transfer =>
    simp only [State.afterWriteBack]
    split
    · exact .run (.refl s) _
    · exact .refl s
  | flush => exact s.flushCounted_keepsBounds
  | powerFlush => exact .refl s
  | restartFlush => exact .refl s
  | postingWriteBack => exact .refl s

theorem State.writeBackDone_keepsBounds : s.keepsBounds s.writeBackDone := by
  rw [State.writeBackDone]
  split
  · exact s.completion_keepsBounds (State.writeLine_keepsBounds _ _ _) (State.afterWriteBack_keepsBounds _ _ _)
  · exact .refl s

theorem State.afterEntry_keepsBounds (user : JournalUser) : s.keepsBounds (s.afterEntry user) := by
  cases user <;> simp only [State.afterEntry] <;> split
  · exact .of_same (by rfl)
  · exact .refl s
  · split <;> exact .run (.refl s) _
  · exact .refl s

theorem State.journalEntryDone_keepsBounds : s.keepsBounds s.journalEntryDone := by
  rw [State.journalEntryDone]
  split
  · exact s.completion_keepsBounds (State.writeAt_keepsBounds _ _ _) (State.afterEntry_keepsBounds _ _)
  · exact .refl s

theorem State.applyImage_keepsBounds (i : Image) : s.keepsBounds (s.applyImage i) := by
  rw [State.applyImage]
  split
  · exact s.placeImage_keepsBounds _ _
  · exact .refl s

theorem State.afterHeader_keepsBounds (user : JournalUser) : s.keepsBounds (s.afterHeader user) := by
  cases user <;> simp only [State.afterHeader] <;> split
  · exact .of_same (by rfl)
  · exact .refl s
  · exact .run (.foldl State.applyImage_keepsBounds _ s) _
  · exact .refl s

theorem State.journalHeaderDone_keepsBounds : s.keepsBounds s.journalHeaderDone := by
  rw [State.journalHeaderDone]
  split
  · exact s.completion_keepsBounds (State.writeHeader_keepsBounds _ _) (State.afterHeader_keepsBounds _ _)
  · exact .refl s

theorem State.afterClear_keepsBounds (user : JournalUser) : s.keepsBounds (s.afterClear user) := by
  cases user <;> simp only [State.afterClear] <;> split
  · split
    · exact .refl s
    · exact s.bookPosted_keepsBounds _
  · exact .refl s
  · exact .answer (.trans (.of_same (by rfl)) (State.reconcile_keepsBounds _ _)) _ _ _
  · exact .refl s

theorem State.journalClearDone_keepsBounds : s.keepsBounds s.journalClearDone := by
  rw [State.journalClearDone]
  split
  · exact s.completion_keepsBounds (State.writeHeader_keepsBounds _ _) (State.afterClear_keepsBounds _ _)
  · exact .refl s

theorem State.repairLine_keepsBounds (account : Nat) (r : AccountRecord) : s.keepsBounds (s.repairLine account r) := by
  rw [State.repairLine]
  split
  · exact .of_same (by rfl)
  · exact .refl s

theorem State.afterRepair_keepsBounds : s.keepsBounds s.afterRepair := by
  rw [State.afterRepair]
  split
  · refine .answer ?_ _ _ _
    split
    · exact s.reconcile_keepsBounds _
    · exact .refl s
  · exact .refl s

theorem State.repairDone_keepsBounds : s.keepsBounds s.repairDone := by
  rw [State.repairDone]
  split
  · exact s.completion_keepsBounds (State.writeRecord_keepsBounds _ _ _) ((State.repairLine_keepsBounds _ _ _).trans (State.afterRepair_keepsBounds _))
  · exact .refl s

/-! ### Start-up (R131 to R133) -/

theorem State.endStartup_staysBounded (m : MemoryState) : s.staysBounded (s.endStartup m) :=
  (State.keepsBounds.of_same (t := { s with port := { s.port with state := m, startup := .idle } }) (by rfl)).stays.trans
    (State.startupEnded_staysBounded _)

theorem State.headerRead_staysBounded (h : Option Header) : s.staysBounded (s.headerRead h) := by
  have loaded (h : Option Header) : s.staysBounded (s.loadHeader h) := (State.keepsBounds.of_same (by rfl)).stays
  cases h with
  | none => exact (loaded none).trans (State.endStartup_staysBounded _ _)
  | some h =>
    simp only [State.headerRead]
    split
    · exact (loaded _).trans (State.endStartup_staysBounded _ _)
    · split
      · exact (loaded (some h)).followed (.of_same (by rfl))
      · exact (loaded (some h)).followed (.of_same (by rfl))

theorem State.startupReadDone_staysBounded (returned : Option (List Byte)) :
    s.staysBounded (s.startupReadDone returned) := by
  rw [State.startupReadDone]
  split
  · split
    · exact (s.idlePort_keepsBounds.stays.trans (State.headerRead_staysBounded _ _)).followed (State.completed_keepsBounds _)
    · exact (s.completion_keepsBounds (.refl _) (.refl _)).stays
  · exact s.staysBounded_refl

theorem State.verifyDone_keepsBounds (returned : Option (List Byte)) : s.keepsBounds (s.verifyDone returned) := by
  rw [State.verifyDone]
  split
  · split
    · exact s.completion_keepsBounds (.of_same (by rfl)) (.refl _)
    · exact s.completion_keepsBounds (.refl _) (.refl _)
  · exact .refl s

theorem State.afterReplay_keepsBounds : s.keepsBounds s.afterReplay := by
  rw [State.afterReplay]
  split
  · exact .of_same (by rfl)
  · exact .of_same (by rfl)
  · exact .refl s

theorem State.replayDone_keepsBounds : s.keepsBounds s.replayDone := by
  rw [State.replayDone]
  split
  · exact s.completion_keepsBounds (State.writeRecord_keepsBounds _ _ _) (State.afterReplay_keepsBounds _)
  · exact .refl s

theorem State.startupWriteDone_staysBounded : s.staysBounded s.startupWriteDone := by
  rw [State.startupWriteDone]
  split
  case h_1 h _ =>
    have written := s.idlePort_keepsBounds.trans (State.writeHeader_keepsBounds _ h)
    refine State.staysBounded.followed (written.stays.trans ?_) (State.completed_keepsBounds _)
    rw [State.afterClosing]
    split
    · exact (State.keepsBounds.raise (.refl _) _).stays.trans (State.endStartup_staysBounded _ _)
    · exact State.staysBounded_refl _
  case h_2 => exact s.staysBounded_refl

/-! ### INIT ACCOUNT MEMORY (R135) -/

theorem State.afterInitHeader_keepsBounds : s.keepsBounds s.afterInitHeader := by
  rw [State.afterInitHeader]
  split
  · exact .run (.refl s) _
  · exact .run (.refl s) _
  · exact .refl s

theorem State.initHeaderDone_keepsBounds : s.keepsBounds s.initHeaderDone := by
  rw [State.initHeaderDone]
  split
  · exact s.completion_keepsBounds (State.writeHeaderAs_keepsBounds _ _ _) (State.afterInitHeader_keepsBounds _)
  · exact .refl s

theorem State.afterInitRecord_keepsBounds : s.keepsBounds s.afterInitRecord := by
  rw [State.afterInitRecord]
  split
  · split <;> exact .run (.refl s) _
  · exact .refl s

theorem State.initRecordDone_keepsBounds : s.keepsBounds s.initRecordDone := by
  rw [State.initRecordDone]
  split
  · exact s.completion_keepsBounds (State.writeRecord_keepsBounds _ _ _) (State.afterInitRecord_keepsBounds _)
  · exact .refl s

theorem State.initEnd_keepsBounds (h : Option Header) : s.keepsBounds (s.initEnd h) := by
  cases h <;> simp only [State.initEnd] <;> split
  · exact .answer (.of_same (by rfl)) _ _ _
  · exact .refl s
  · exact .answer (.of_same (by rfl)) _ _ _
  · exact .refl s

theorem State.initReadbackDone_keepsBounds (returned : Option (List Byte)) :
    s.keepsBounds (s.initReadbackDone returned) := by
  rw [State.initReadbackDone]
  split
  · exact s.completion_keepsBounds (.refl _) (State.initEnd_keepsBounds _ _)
  · exact .refl s

end

/-! ### Every command and event -/

/-- The next state of an outcome that is one. -/
theorem staysBounded_of_next {s t u : State} (h : s.staysBounded u)
    (next : (.next u : Host.Outcome State Fault Refusal) = .next t) : s.staysBounded t := by
  cases next
  exact h

/-- Every command and event keeps the bounds and the Attention List sound (R77, R149, R164, R170, R172). -/
theorem exec_staysBounded {c : Instr} {s t : State} (h : exec c s = .next t) : s.staysBounded t := by
  cases c with
  | hardwareReset left => exact staysBounded_of_next (s.hardwareReset_staysBounded left) h
  | powerWarningAsserted =>
    change execPowerWarningAsserted s = _ at h
    rw [execPowerWarningAsserted] at h
    split at h
    · exact staysBounded_of_next s.staysBounded_refl h
    · exact staysBounded_of_next s.warn_staysBounded h
  | powerWarningReleased =>
    change execPowerWarningReleased s = _ at h
    rw [execPowerWarningReleased] at h
    split at h
    · exact staysBounded_of_next s.unwarn_keepsBounds.stays h
    · exact staysBounded_of_next s.staysBounded_refl h
  | frameReceived bytes => exact staysBounded_of_next (s.receiveBytes_staysBounded bytes) h
  | frameGapTimeout next => exact staysBounded_of_next (s.gapTimeout_staysBounded next) h
  | byteWithoutStopBit => exact staysBounded_of_next s.badStopBit_keepsBounds.stays h
  | resultQueued => exact staysBounded_of_next s.queueResult_staysBounded h
  | blockQueued => exact staysBounded_of_next s.queueBlock_staysBounded h
  | statement => exact staysBounded_of_next s.queueStatement_staysBounded h
  | frameSent => exact staysBounded_of_next s.frameSent_staysBounded h
  | headWindowOpen f => exact staysBounded_of_next (s.openHead_keepsBounds f).stays h
  | headWindowClose f readback => exact staysBounded_of_next (s.closeHead_staysBounded f readback) h
  | orderWindowOpen f => exact staysBounded_of_next (s.openOrder_keepsBounds f).stays h
  | orderWindowClose f readback => exact staysBounded_of_next (s.closeOrder_staysBounded f readback) h
  | meterSlotClose f heard => exact staysBounded_of_next (s.closeSlot_staysBounded f heard) h
  | noticeWindowOpen f => exact staysBounded_of_next (s.openNotice_keepsBounds f).stays h
  | noticeWindowClose f readback => exact staysBounded_of_next (s.closeNotice_staysBounded f readback) h
  | quietWindowClose f heard => exact staysBounded_of_next (s.closeQuiet_staysBounded f heard) h
  | clockTick => exact staysBounded_of_next s.tick_keepsBounds.stays h
  | intervalBoundary => exact staysBounded_of_next s.boundary_keepsBounds.stays h
  | collectionDeadline => exact staysBounded_of_next s.deadline_keepsBounds.stays h
  | cacheFill returned => exact staysBounded_of_next (s.fillDone_keepsBounds returned).stays h
  | cacheWriteBack => exact staysBounded_of_next s.writeBackDone_keepsBounds.stays h
  | journalEntryWrite => exact staysBounded_of_next s.journalEntryDone_keepsBounds.stays h
  | journalHeaderWrite => exact staysBounded_of_next s.journalHeaderDone_keepsBounds.stays h
  | journalHeaderClear => exact staysBounded_of_next s.journalClearDone_keepsBounds.stays h
  | repairRecordWrite => exact staysBounded_of_next s.repairDone_keepsBounds.stays h
  | startupHeaderRead returned => exact staysBounded_of_next (s.startupReadDone_staysBounded returned) h
  | journalVerifyRead returned => exact staysBounded_of_next (s.verifyDone_keepsBounds returned).stays h
  | replayRecordWrite => exact staysBounded_of_next s.replayDone_keepsBounds.stays h
  | startupHeaderWrite => exact staysBounded_of_next s.startupWriteDone_staysBounded h
  | initHeaderWrite => exact staysBounded_of_next s.initHeaderDone_keepsBounds.stays h
  | initRecordWrite => exact staysBounded_of_next s.initRecordDone_keepsBounds.stays h
  | initHeaderReadback returned => exact staysBounded_of_next (s.initReadbackDone_keepsBounds returned).stays h
  | _ => exact staysBounded_of_next (s.arrive_staysBounded _) h

/-- A step takes the front event or idles. -/
theorem step_staysBounded {s t : State} (h : step s = .next t) : s.staysBounded t := by
  rcases queue : s.pending with _ | ⟨c, rest⟩
  · simp only [step, queue] at h
    cases h
    exact s.staysBounded_refl
  · simp only [step, queue] at h
    have taken : s.keepsBounds { s with pending := rest } := .of_same (by rfl)
    exact taken.stays.trans (exec_staysBounded h)

/-- Settles O56: each update keeps the bounds or is guarded by the room it needs, and an event is a run of such updates,
after which a waiting command that could execute has been taken. -/
theorem everyStepKeepsTheAttentionListSound : Obligations.EveryStepKeepsTheAttentionListSound := by
  refine ⟨fun s t sound next => (step_staysBounded next).attention sound,
    fun s t bounds next => (step_staysBounded next).bounded bounds,
    fun l e => ⟨fun before i after items kind object first => ?_, fun new => ⟨?_, ?_⟩⟩⟩
  · have same : i.event.matches e = true := (Attention.matches_iff _ _).2 ⟨kind, object⟩
    have others : ∀ x ∈ before, x.event.matches e = false := fun x hx => by
      rw [← Bool.not_eq_true, Attention.matches_iff]
      exact first x hx
    have held : l.holds e = true := (AttentionList.holds_iff l e).2 ⟨i, by simp [items], kind, object⟩
    rw [AttentionList.raise_of_held held, items, coalesce_of_first same others]
  · exact AttentionList.raise_of_room (AttentionList.holds_eq_false.2 new)
  · exact AttentionList.raise_of_full (AttentionList.holds_eq_false.2 new)

end Sys2Proof.Machine
end

section
/-! ## The command buffers (O26, O28, O29; R164, R166, R169) -/

namespace Sys2Proof.Machine

/-! ### A frame that does not become the executing command at once -/

section
variable {s : State} {b : Buffered}

/-- A frame that the buffers have no room for is discarded for overrun. -/
theorem State.arrive_of_full (busy : s.link.executing ≠ none ∨ s.commandsHeld = true)
    (full : 2 ≤ (if s.link.executing.isSome then 1 else 0) + s.link.waiting.length) :
    s.arrive b = { s with link := { s.link with overrun := true } } := by
  have notTaken : (s.link.executing.isNone && !s.commandsHeld) = false := by
    rcases busy with running | held
    · simp [running]
    · simp [held]
  have fullBuffers : s.link.buffersFull = true := decide_eq_true full
  simp only [State.arrive, notTaken, fullBuffers, Bool.false_eq_true, if_false, if_true]

/-- A frame that waits joins the frames that wait before it. -/
def State.waits (s : State) (b : Buffered) : State :=
  { s with link := { s.link with waiting := s.link.waiting ++ [b] } }

/-- A frame that the buffers have room for waits; it cuts the executing command when it is a RESTART. -/
theorem State.arrive_of_room (busy : s.link.executing ≠ none ∨ s.commandsHeld = true)
    (room : (if s.link.executing.isSome then 1 else 0) + s.link.waiting.length < 2) :
    s.arrive b = if b.request.cuts && s.link.executing.isSome then ((s.waits b).cutCommand .restart).drive
      else s.waits b := by
  have notTaken : (s.link.executing.isNone && !s.commandsHeld) = false := by
    rcases busy with running | held
    · simp [running]
    · simp [held]
  have roomy : s.link.buffersFull = false := decide_eq_false (Nat.not_le.2 room)
  simp only [State.arrive, notTaken, roomy, Bool.false_eq_true, if_false]
  rfl

/-- Beside no executing command nothing is cut. -/
theorem State.arrive_of_held (free : s.link.executing = none) (held : s.commandsHeld = true)
    (room : s.link.waiting.length < 2) : s.arrive b = s.waits b := by
  rw [State.arrive_of_room (.inr held) (by simpa [free] using room), free, Option.isSome_none, Bool.and_false]
  rfl

/-- The first frame beside an executing command. -/
theorem State.arrive_of_executing (busy : s.link.executing ≠ none) (empty : s.link.waiting = []) :
    s.arrive b = if b.request.cuts then ((s.waits b).cutCommand .restart).drive else s.waits b := by
  have some : s.link.executing.isSome = true := Option.isSome_iff_ne_none.2 busy
  rw [State.arrive_of_room (.inl busy) (by simp [some, empty]), some, Bool.and_true]

theorem State.waits_of_empty (empty : s.link.waiting = []) :
    s.waits b = { s with link := { s.link with waiting := [b] } } := by
  rw [State.waits, empty]
  rfl

/-- Only a RESTART cuts. -/
theorem Request.cuts_of_other {c : Command} (other : ∀ k, c ≠ .restart k) : (Request.command c).cuts = false := by
  cases c with
  | restart k => exact absurd rfl (other k)
  | _ => rfl

end

/-- Settles O28: a frame that is not taken at once waits while the buffers have room, and is discarded otherwise. -/
theorem buffersHoldOneExecutingAndOneWaitingCommand : Obligations.BuffersHoldOneExecutingAndOneWaitingCommand := by
  have row {c : Command} (tag : Byte) (s : State) (range : commandInRange c = true) :
      exec (c.row tag) s = .next (s.arrive { tag := tag, request := .command c }) := by
    rw [exec_row, Request.ofCommand_inRange range]
  refine ⟨fun s tag c range free held => ⟨fun room => ?_, fun full => ?_⟩,
    fun s tag c range busy => ⟨fun empty other => ?_, fun b one => ?_⟩⟩ <;> rw [row tag s range]
  · rw [State.arrive_of_held free held room]
    rfl
  · rw [State.arrive_of_full (.inr held) (full.trans (Nat.le_add_left _ _))]
  · rw [State.arrive_of_executing busy empty, Request.cuts_of_other other, State.waits_of_empty empty]
    rfl
  · rw [State.arrive_of_full (.inl busy) (by simp [Option.isSome_iff_ne_none.2 busy, one])]

/-- Settles O29: the code is looked up before anything else is, whatever the engine state. -/
theorem unknownCommandsAreRefusedInEveryEngineState : Obligations.UnknownCommandsAreRefusedInEveryEngineState := by
  have row (tag : Byte) (body : List Byte) (s : State) :
      exec (.unknownCommand tag body) s = .next (s.arrive { tag := tag, request := requestOf body }) := rfl
  refine fun s tag free taken => ⟨fun code p unknown => ?_, s.freeByte, ?_⟩ <;> rw [row, State.arrive_free free taken]
  · have request : requestOf (code :: p) = .unknown (some code) := by
      simp only [requestOf, List.contains_eq_mem, unknown, decide_false, Bool.false_eq_true, if_false]
    rw [request]
    rfl
  · rfl

/-! ### RESTART (R169, R174) -/

section
variable {s : State} {e : Executing}

/-- A SCAN cut by RESTART ends with its counts, or goes on while its read is in progress (R188). -/
theorem State.restart_cuts_scan {r : ScanRun} (he : s.link.executing = some e) (run : e.run = .scan r)
    (going : r.ending = .goingOn) :
    s.cutCommand .restart =
      if s.port.servesCommand then s.executing e.tag e.code (.scan { r with ending := .cut .restart })
      else (s.drawnFor r.lastVisited).answered e.tag e.code .cut 19 (scanFields r s.freeByte) := by
  have scanning : s.run = some (.scan r) := (State.run_of_executing he).trans (congrArg some run)
  have cut : cutEnding .restart r.ending = .cut .restart := by rw [going]; rfl
  have executing : (s.drawnFor r.lastVisited).link.executing = some e := he
  simp only [State.cutCommand, scanning, cut, State.scanAdvance, State.scanEnd, State.drawnFor_eq,
    State.setRun_of_executing he, State.answer_of_executing executing]
  rfl

/-- A SWEEP cut by RESTART completes its account in hand (R187). -/
theorem State.restart_cuts_sweep {r : SweepRun} (he : s.link.executing = some e) (run : e.run = .sweep r)
    (going : r.ending = .goingOn ∨ r.ending = .stopped) :
    s.cutCommand .restart = s.executing e.tag e.code (.sweep { r with ending := .cut .restart }) := by
  have sweeping : s.run = some (.sweep r) := (State.run_of_executing he).trans (congrArg some run)
  have cut : cutEnding .restart r.ending = .cut .restart := by rcases going with h | h <;> rw [h] <;> rfl
  simp only [State.cutCommand, sweeping, cut]
  exact State.setRun_of_executing he _

end

/-- Settles O26: RESTART that waits cuts by the kind of the executing command's run, and the units take their turns. -/
theorem restartIsTakenOrCutsTheExecutingCommand : Obligations.RestartIsTakenOrCutsTheExecutingCommand := by
  intro s tag keepHeld
  refine ⟨fun accepts => exec_accepts accepts (c := .restart keepHeld) rfl tag, fun e he empty => ?_⟩
  intro waits cuts
  have queued : s.waits { tag := tag, request := .command (.restart keepHeld) } = waits := State.waits_of_empty empty
  have row : exec (.restart tag keepHeld) s = .next (waits.cutCommand .restart).drive := by
    change Host.Outcome.next (s.arrive _) = _
    rw [Request.ofCommand_inRange (c := .restart keepHeld) rfl,
      State.arrive_of_executing (by rw [he]; exact Option.some_ne_none _) empty, queued]
    rfl
  have waiting : waits.link.executing = some e := he
  have run : waits.run = some e.run := State.run_of_executing waiting
  have leads {t : State} (cut : waits.cutCommand .restart = t) : cuts t :=
    ⟨by rw [row, cut], fun blocked => by rw [row, cut, State.drive_of_blocked blocked]⟩
  refine ⟨fun built result still => ?result, fun serves => ⟨fun plain => leads ?_, fun rest n flush => leads ?_,
      fun r scan going => leads ?_⟩,
    fun r sweep going => leads (State.restart_cuts_sweep waiting sweep going),
    fun free => ⟨fun plain => leads ?_, fun r scan going => ?counts, fun rest n flush => leads ?_⟩⟩
  case result =>
    have done : waits.commandDone = true := by rw [State.commandDone, run, result]
    rw [row, State.cutCommand_of_result (run.trans (congrArg some result))]
    rcases still with blocked | rest
    · rw [State.drive_of_blocked blocked]
    · rw [State.drive_of_resting (s := waits) rest done]
  case counts =>
    have cut := State.restart_cuts_scan waiting scan going
    rw [if_neg (by rw [free]; decide), scanFields] at cut
    refine ⟨fun last visited => leads ?_, fun unvisited => ⟨waits.freeByte, leads ?_⟩⟩
    · rw [cut, visited]
      rfl
    · rw [cut, unvisited]
      rfl
  · rw [State.cutCommand_of_plain run plain, if_pos serves, State.setRun_of_executing waiting]
  · rw [State.cutCommand_of_flush (run.trans (congrArg some flush)), if_pos serves, State.setRun_of_executing waiting]
  · rw [State.restart_cuts_scan waiting scan going, if_pos serves]
  · rw [State.cutCommand_of_plain run plain, if_neg (by rw [free]; decide), State.cutEnd_of_executing waiting]
    rfl
  · rw [State.cutCommand_of_flush (run.trans (congrArg some flush)), if_neg (by rw [free]; decide),
      State.cutEnd_of_executing waiting]
    rfl

end Sys2Proof.Machine
end

section
/-! ## Frames received (O31, O32; R162, R163, R165) -/

namespace Sys2Proof.Machine

/-! ### A whole frame judged -/

/-- The bytes after a frame's start byte but for the check code. -/
def frameCore (kind tag : Byte) (body : List Byte) : List Byte := be 1 body.length ++ [kind, tag] ++ body

section
variable {s : State} {kind tag c1 c2 : Byte} {body : List Byte}

/-- The receive side of a state that hunts. -/
theorem State.setReceive_hunting (h : s.link.receive = .hunting) : s.setReceive .hunting = s := by
  rw [State.setReceive, ← h]

/-- A frame received whole from HUNTING is judged. -/
theorem State.receive_core (hunting : s.link.receive = .hunting) (short : body.length ≤ 255) :
    (Config.startByte :: (frameCore kind tag body ++ [c1, c2])).foldl State.receiveByte s =
      s.judgeFrame (frameCore kind tag body ++ [c1, c2]) := by
  have split : frameCore kind tag body ++ [c1, c2] = be 1 body.length ++ ([kind, tag] ++ body ++ [c1, c2]) := by
    simp [frameCore]
  rw [split]
  exact State.receive_frame hunting short (by simp)

/-- The kind of a frame is its second byte. -/
theorem slice_frameCore_kind (check : List Byte) : slice (frameCore kind tag body ++ check) 1 1 = [kind] := rfl

/-- A frame with a wrong check code, or of a kind the engine does not accept, is discarded (R163). -/
theorem State.judgeFrame_of_bad
    (bad : [c1, c2] ≠ be 2 (checkCode (frameCore kind tag body)).toNat ∨ (kind ≠ 0x01 ∧ kind ≠ 0x02)) :
    s.judgeFrame (frameCore kind tag body ++ [c1, c2]) = s.discard := by
  have discards : (s.setReceive .hunting).discard = s.discard := rfl
  simp only [State.judgeFrame, discards, slice_frameCore_kind]
  rcases bad with check | ⟨notCommand, notStop⟩
  · rw [checkGood_other rfl check]
    rfl
  · rw [if_neg (c := [kind] = [commandKind]) (by simpa [commandKind] using notCommand),
      if_neg (c := [kind] = [stopKind]) (by simpa [stopKind] using notStop), ite_self]

/-- The tag and the body of a frame. -/
theorem frameCore_fields (check : List Byte) (short : body.length ≤ 255) :
    BitVec.ofNat 8 (field (frameCore kind tag body ++ check) 2 1) = tag ∧
    slice (frameCore kind tag body ++ check) 3 (field (frameCore kind tag body ++ check) 0 1) = body := by
  have length : field (frameCore kind tag body ++ check) 0 1 = body.length := by
    have first : slice (frameCore kind tag body ++ check) 0 1 = be 1 body.length := rfl
    rw [field, first, fromBe_be (by omega)]
  have third : slice (frameCore kind tag body ++ check) 2 1 = [tag] := rfl
  refine ⟨?_, ?_⟩
  · rw [field, third, fromBe_singleton, BitVec.ofNat_toNat, BitVec.setWidth_eq]
  · rw [length, slice_append_left (by simp [frameCore]; omega), frameCore, slice_append_right (by simp)]
    simpa using slice_all body

/-- A good frame received from HUNTING: a COMMAND arrives, a STOP asks a SWEEP to end (R162 to R165). -/
theorem State.receive_frameBytes (hunting : s.link.receive = .hunting) (short : body.length ≤ 255) :
    (frameBytes kind tag body).foldl State.receiveByte s =
      if kind = commandKind then s.arrive { tag := tag, request := requestOf body }
      else if kind = stopKind then s.stopSweep else s.discard := by
  obtain ⟨c1, c2, check⟩ : ∃ c1 c2, be 2 (checkCode (frameCore kind tag body)).toNat = [c1, c2] := ⟨_, _, rfl⟩
  have bytes : frameBytes kind tag body = Config.startByte :: (frameCore kind tag body ++ [c1, c2]) := by
    rw [← check]
    rfl
  have good : checkGood (frameCore kind tag body ++ [c1, c2]) = true := by
    rw [← check]
    exact checkGood_withCheck _
  obtain ⟨tagField, bodyField⟩ := frameCore_fields (kind := kind) (tag := tag) [c1, c2] short
  rw [bytes, State.receive_core hunting short]
  simp only [State.judgeFrame, State.setReceive_hunting hunting, good, slice_frameCore_kind, tagField, bodyField,
    List.cons.injEq, and_true, Bool.not_true, Bool.false_eq_true, if_false]

/-- Bytes before a start byte are ignored (R162). -/
theorem State.receive_noise {bytes : List Byte} (hunting : s.link.receive = .hunting) (noise : ∀ b ∈ bytes, b ≠ 0xA5) :
    bytes.foldl State.receiveByte s = s := by
  induction bytes with
  | nil => rfl
  | cons b rest ih =>
    have ignored : s.receiveByte b = s := by
      simp only [State.receiveByte, hunting]
      exact if_neg (noise b List.mem_cons_self)
    rw [List.foldl_cons, ignored, ih fun x hx => noise x (List.mem_cons_of_mem b hx)]

end

/-! ### Gaps and bytes without a stop bit -/

section
variable {s : State}

theorem State.badStopBit_of_assembling {held : List Byte} (h : s.link.receive = .assembling held) :
    s.badStopBit = s.discard := by
  have assembling : s.link.isAssembling = true := by simp only [StationLink.isAssembling, h]
  rw [State.badStopBit, if_pos assembling]

theorem State.badStopBit_of_hunting (h : s.link.receive = .hunting) : s.badStopBit = s := by
  have hunts : s.link.isAssembling = false := by simp only [StationLink.isAssembling, h]
  rw [State.badStopBit, hunts]
  rfl

/-- A gap ends a frame as a bad byte does; the byte that ended the gap is then received (R163). -/
theorem State.gapTimeout_eq (next : Option Byte) :
    s.gapTimeout next = match next with | some b => s.badStopBit.receiveByte b | none => s.badStopBit := by
  cases next <;> rfl

end

/-- Settles O31: a frame is judged only once it is whole, and what is not a frame of the engine's is discarded. -/
theorem badFramesAreDiscardedWithoutOtherEffect : Obligations.BadFramesAreDiscardedWithoutOtherEffect := by
  intro s
  refine ⟨fun kind tag c1 c2 body hunting short bad => ?bad, fun bytes hunting noise => ?noise,
    fun held assembling => ⟨?gap, ?start, fun b other => ?other, ?stop⟩, fun hunting => ⟨?still, ?silent⟩⟩
  case bad =>
    have received := State.receive_core (s := s) (kind := kind) (tag := tag) (c1 := c1) (c2 := c2) hunting short
    have bytes : [0xA5] ++ be 1 body.length ++ [kind, tag] ++ body ++ [c1, c2] =
        Config.startByte :: (frameCore kind tag body ++ [c1, c2]) := by
      simp [frameCore, Config.startByte]
    change Host.Outcome.next (List.foldl _ _ _) = _
    rw [bytes, received, State.judgeFrame_of_bad bad]
    rfl
  case noise => exact congrArg Host.Outcome.next (State.receive_noise hunting noise)
  case gap => exact congrArg Host.Outcome.next (State.badStopBit_of_assembling assembling)
  case start =>
    refine congrArg Host.Outcome.next ?_
    rw [State.gapTimeout_eq]
    dsimp only
    rw [State.badStopBit_of_assembling assembling]
    rfl
  case other =>
    refine congrArg Host.Outcome.next ?_
    rw [State.gapTimeout_eq]
    dsimp only
    rw [State.badStopBit_of_assembling assembling]
    exact State.receive_noise (s := s.discard) (bytes := [b]) rfl (by simpa using other)
  case stop => exact congrArg Host.Outcome.next (State.badStopBit_of_assembling assembling)
  case still => exact congrArg Host.Outcome.next (State.badStopBit_of_hunting hunting)
  case silent => exact congrArg Host.Outcome.next (State.badStopBit_of_hunting hunting)

/-- Settles O32: a good STOP frame is one request to the executing command's run. -/
theorem stopAsksASweepToEndAndIsIgnoredOtherwise : Obligations.StopAsksASweepToEndAndIsIgnoredOtherwise := by
  intro s tag body hunting short
  have stop : exec (.frameReceived (frameBytes 0x02 tag body)) s = .next s.stopSweep :=
    congrArg Host.Outcome.next (State.receive_frameBytes (kind := 0x02) hunting short)
  rw [stop]
  refine ⟨fun t code r he going => ?_, fun ignored => ?_⟩
  · simp only [State.stopSweep, State.run_of_executing he, going, if_true, State.setRun_of_executing he]
  · rw [State.stopSweep]
    split
    case h_1 r run =>
      obtain ⟨e, he, sweep⟩ := Option.map_eq_some_iff.1 run
      rw [if_neg (ignored e r he sweep)]
    case h_2 => rfl

end Sys2Proof.Machine
end

section
/-! ## The outbound queue (O33, O34; R164, R167, R170, R173, R186, R187) -/

namespace Sys2Proof.Machine

section
variable {s : State}

theorem StationLink.hasRoom_of_lt {l : StationLink} (h : l.outbound.length < 4) : l.hasRoom = true := decide_eq_true h

theorem StationLink.hasRoom_of_full {l : StationLink} (h : 4 ≤ l.outbound.length) : l.hasRoom = false :=
  decide_eq_false (Nat.not_lt.2 h)

/-! ### RESULTs -/

/-- The state as a built RESULT enters the queue, the waiting command not yet taken. -/
def State.resultQueued (s : State) (tag : Byte) (r : CommandResult) : State :=
  { s with link := { s.link with
      outbound := s.link.outbound ++ [s.resultFrame tag r], overrun := false, discardsSeen := false, executing := none,
      restartHold := s.holdsAfter r.restart } }

theorem State.queueResult_of_full {tag code : Byte} {r : CommandResult}
    (he : s.link.executing = some { tag := tag, code := code, run := .result r }) (full : 4 ≤ s.link.outbound.length) :
    s.queueResult = s := by
  simp only [State.queueResult, he, StationLink.hasRoom_of_full full, Bool.false_eq_true, if_false]

theorem State.queueResult_of_room {tag code : Byte} {r : CommandResult}
    (he : s.link.executing = some { tag := tag, code := code, run := .result r }) (room : s.link.outbound.length < 4) :
    s.queueResult = (s.resultQueued tag r).takeWaiting := by
  simp only [State.queueResult, he, StationLink.hasRoom_of_lt room, if_true]
  rfl

/-- Buffers that hold a command which nothing holds back give their older one. -/
theorem State.takeWaiting_of_cons {b : Buffered} {rest : List Buffered} (free : s.link.executing = none)
    (let_ : s.commandsHeld = false) (waiting : s.link.waiting = b :: rest) :
    s.takeWaiting = ({ s with link := { s.link with waiting := rest } } : State).begin b := by
  simp only [State.takeWaiting, free, waiting, let_, Bool.false_eq_true, if_false]

/-- The frame of a RESULT, byte by byte (section 12.3). -/
theorem State.resultFrame_eq (s : State) (tag : Byte) (r : CommandResult) :
    s.resultFrame tag r =
      { kind := 0x81, tag := tag, restart := r.restart,
        body := [r.code] ++ be 1 (match r.outcome with | .done => 0 | .cut => 1 | .refused => 2) ++ be 1 r.detail ++
          be 1 s.attention.items.length ++
          [BitVec.ofNat 8 ((if r.overflow.getD s.attention.overflow then 1 else 0) + (if s.link.overrun then 2 else 0) +
            (if s.link.discardsSeen then 4 else 0))] ++ r.fields } := by
  rw [State.resultFrame, resultBody]
  rcases r with ⟨code, _ | _ | _, detail, fields, overflow, restart⟩ <;> rfl

end

/-- Settles O33: a RESULT is queued with the indicators as they stand, and the buffers then give their older command. -/
theorem resultsEnterTheQueueWithTheIndicators : Obligations.ResultsEnterTheQueueWithTheIndicators := by
  intro s tag code r he bit frame queued
  have ordinary (absent : r.restart = .absent) : s.resultQueued tag r = queued := by
    rw [State.resultQueued, State.resultFrame_eq, absent]
    exact congrArg (fun m => { queued with link := { queued.link with
      outbound := s.link.outbound ++ [{ frame with restart := m }] } }) absent.symm
  refine ⟨fun full => ?full, fun room absent empty => ?empty, fun k room commanded => ?held,
    fun b rest room absent let_ waiting => ?taken⟩
  case full => exact congrArg Host.Outcome.next (State.queueResult_of_full he full)
  case empty =>
    refine congrArg Host.Outcome.next ?_
    rw [State.queueResult_of_room he room, ordinary absent, State.takeWaiting_of_empty (s := queued) empty]
  case held =>
    refine congrArg Host.Outcome.next ?_
    have held : (s.resultQueued tag r).commandsHeld = true := by
      simp only [State.commandsHeld, State.resultQueued, State.holdsAfter, commanded, Bool.true_or]
    rw [State.queueResult_of_room he room, State.takeWaiting_of_held held, State.resultQueued, State.resultFrame_eq]
    simp only [State.holdsAfter, commanded]
    exact congrArg (fun m => { queued with link := { queued.link with
      restartHold := true, outbound := s.link.outbound ++ [{ frame with restart := m }] } }) commanded.symm
  case taken =>
    refine congrArg Host.Outcome.next ?_
    rw [State.queueResult_of_room he room, ordinary absent,
      State.takeWaiting_of_cons (s := queued) rfl let_ waiting]

end Sys2Proof.Machine
end

section
/-! ## A waiting BLOCK enters the queue (O34) -/

namespace Sys2Proof.Machine

section
variable {s : State} {tag code : Byte} {r : SweepRun}

/-- The state with a BLOCK of the executing SWEEP placed in the queue (R170). -/
def State.blockQueued (s : State) (tag : Byte) (body : List Byte) : State :=
  { s with link := { s.link with
      outbound := s.link.outbound ++ [{ kind := 0x82, tag := tag, body := body, restart := .absent }] } }

theorem State.queueBlock_of_full {body : List Byte}
    (he : s.link.executing = some { tag := tag, code := code, run := .sweep r }) (block : r.block = some body)
    (full : 4 ≤ s.link.outbound.length) : s.queueBlock = s := by
  simp only [State.queueBlock, he, block, StationLink.hasRoom_of_full full, Bool.false_eq_true, if_false]

theorem State.queueBlock_of_room {body : List Byte}
    (he : s.link.executing = some { tag := tag, code := code, run := .sweep r }) (block : r.block = some body)
    (room : s.link.outbound.length < 4) :
    s.queueBlock = ((s.blockQueued tag body).sweepAdvance { r with blocks := r.blocks + 1, block := none }).drive := by
  simp only [State.queueBlock, he, block, StationLink.hasRoom_of_lt room, if_true]
  rfl

/-- A SWEEP that goes on takes its next account in hand while there is one (R186, step 5). -/
theorem State.sweepAdvance_of_more (he : s.link.executing = some { tag := tag, code := code, run := .sweep r })
    {x : SweepRun} (on : x.ending = .goingOn) (more : x.inHand + x.order.step ≤ x.order.last) :
    s.sweepAdvance x = s.executing tag code (.sweep { x with inHand := x.inHand + x.order.step, block := none }) := by
  rw [State.sweepAdvance, if_pos (by simp [on, more]), State.setRun_of_executing he]

/-- After the last account, or once stopped, a SWEEP is DONE with its counts (R186, R187). -/
theorem State.sweepAdvance_of_end (he : s.link.executing = some { tag := tag, code := code, run := .sweep r })
    {x : SweepRun} {last : Nat} (visited : x.lastVisited = some last)
    (ends : x.ending = .stopped ∨ (x.ending = .goingOn ∧ x.order.last < x.inHand + x.order.step)) :
    s.sweepAdvance x =
      s.answered tag code .done 0 (be 1 x.visited ++ be 1 x.blocks ++ be 1 x.damaged ++ be 1 last ++
        [if x.ending = .stopped then 1 else 0]) := by
  have halts : ¬ (x.ending = .goingOn && x.inHand + x.order.step ≤ x.order.last) = true := by
    rcases ends with stopped | ⟨-, beyond⟩
    · simp [stopped]
    · simpa using fun _ => beyond
  rw [State.sweepAdvance, if_neg halts, State.sweepEnd, visited]
  rcases ends with ending | ⟨ending, -⟩
  all_goals
    simp only [ending]
    rw [if_neg (by simp), State.answer_of_executing he, sweepFields]
    rfl

end

/-- Settles O34: the SWEEP's next account is asked for as its BLOCK is queued, and without one the SWEEP ends. -/
theorem blocksEnterTheQueueAndTheSweepMovesOn : Obligations.BlocksEnterTheQueueAndTheSweepMovesOn := by
  intro s tag code r body last he block visited queued
  have he' : queued.link.executing = some { tag := tag, code := code, run := .sweep r } := he
  refine ⟨fun full => congrArg Host.Outcome.next (State.queueBlock_of_full he block full),
    fun room rest ready => ⟨fun ended => congrArg Host.Outcome.next ?ends, fun line on more miss victim =>
      congrArg Host.Outcome.next ?goesOn⟩⟩
  case ends =>
    rw [State.queueBlock_of_room he block room]
    have advanced := State.sweepAdvance_of_end he' (x := { r with blocks := r.blocks + 1, block := none }) visited ended
    exact (congrArg State.drive advanced).trans (State.drive_of_resting rest rfl)
  case goesOn =>
    rw [State.queueBlock_of_room he block room]
    have advanced := State.sweepAdvance_of_more he' (x := { r with blocks := r.blocks + 1, block := none }) on more
    refine (congrArg State.drive advanced).trans (State.drive_of_resting_read rest ?noTurn rfl victim)
    exact State.sweepTurn_of_waiting (.inr miss)

end Sys2Proof.Machine
end

section
/-! ## A command's frame is its row (O30)

A command's parameters are bytes at fixed offsets: the bytes at a field's offset are the field as it was written, and each
field reads as its value when that lies in range. -/

namespace Sys2Proof.Machine

/-! ### One field -/

/-- An unsigned field reads as the value written there. -/
theorem field_of {p : List Byte} {offset n v : Nat} (written : slice p offset n = be n v) (fits : v < 256 ^ n) :
    field p offset n = v := by
  rw [field, written, fromBe_be fits]

/-- A balance field reads as the value written there. -/
theorem signed_of {p : List Byte} {offset : Nat} {v : Int} (written : slice p offset 6 = signedBe 6 v)
    (least : -140737488355327 ≤ v) (most : v ≤ 140737488355327) : fromSignedBe (slice p offset 6) = v := by
  rw [written]
  refine fromSignedBe_signedBe ?_ ?_
  all_goals
    norm_num
    omega

/-! ### Enumerations read as they were written -/

theorem copyOf_be (c : TableCopy) : copyOf (fromBe (be 1 (copyCode c))) = some c := by cases c <;> rfl

theorem filterOf_be (f : SweepFilter) : filterOf (fromBe (be 1 (filterCode f))) = some f := by cases f <;> rfl

theorem comparisonOf_be (c : Comparison) : comparisonOf (fromBe (be 1 (comparisonCode c))) = some c := by
  cases c <;> rfl

theorem kindOf_be (k : ParticipantKind) : kindOf (fromBe (be 1 (kindCode k))) = some k := by cases k <;> rfl

theorem statusOf_be (u : ParticipantStatus) : statusOf (fromBe (be 1 (statusCode u))) = some u := by cases u <;> rfl

theorem scopeOf_be (c : RedirectScope) : scopeOf (fromBe (be 1 (scopeCode c))) = some c := by cases c <;> rfl

theorem dayClassOf_be (d : DayClass) : dayClassOf (fromBe (be 1 (dayClassCode d))) = some d := by cases d <;> rfl

theorem dayClassOf_field {p : List Byte} {offset : Nat} {d : DayClass}
    (written : slice p offset 1 = be 1 (dayClassCode d)) : dayClassOf (field p offset 1) = some d := by
  rw [field, written, dayClassOf_be]

theorem bandClassOf_be (d : BandClass) : bandClassOf (fromBe (be 1 (bandClassCode d))) = some d := by cases d <;> rfl

theorem modeOf_be (m : TransferMode) : modeOf (fromBe (be 1 (modeCode m))) = some m := by cases m <;> rfl

theorem standingOf_be (t : Standing) : standingOf (fromBe (be 1 (standingCode t))) = some t := by cases t <;> rfl

/-- The seven classes of a week, named. -/
theorem week_eq (w : Vector DayClass 7) : w = #v[w[0], w[1], w[2], w[3], w[4], w[5], w[6]] := by
  refine Vector.ext fun i hi => ?_
  interval_cases i <;> rfl

/-! ### The commands with many fields -/

/-! ### The bytes of a row -/

/-- How many bytes a command's parameters take (section 12.3). -/
def parameterCount : Command → Nat
  | .readClock | .readEngine | .clearBands | .stageCopy | .activate | .disarm | .flush | .initAccountMemory
  | .senseAttention => 0
  | .readAccount _ | .readRoundStatus _ | .hold _ | .resume _ | .rebase _ | .restart _ => 1
  | .readParticipant _ _ | .readFeeder _ _ | .readBand _ _ => 2
  | .stageFeeder _ _ => 3
  | .sweepAccounts _ | .releaseBook _ | .discardBook _ => 4
  | .enrol _ _ _ => 6
  | .readBook _ _ | .setClock _ _ _ => 7
  | .transfer _ => 9
  | .stageGeneral _ _ => 10
  | .scanAccounts _ => 11
  | .stageBand _ _ => 16
  | .repairAccount _ => 21
  | .stageParticipant _ _ => 22

theorem commandParameters_length (c : Command) : (commandParameters c).length = parameterCount c := by
  cases c
  case readBook b part => cases b <;> cases part <;> rfl
  case stageParticipant i e => rcases e with ⟨_, _, _, _, _, _, _, _, _ | _⟩ <;> rfl
  case stageGeneral g w =>
    rw [week_eq w]
    rfl
  case stageBand p band => cases band <;> rfl
  case repairAccount o => rcases o with ⟨_, _, _, _, _ | _, _⟩ <;> rfl
  all_goals rfl

theorem parameterCount_le (c : Command) : parameterCount c ≤ 22 := by cases c <;> exact Nat.le_of_ble_eq_true rfl

/-- The parameters of a command read as that command. -/
def readsBack (c : Command) : Prop := parseParameters (commandCode c) (commandParameters c) = some c

/-- A row reads its fields when the bytes are as many as it lists. -/
theorem readsBack_of {c : Command} {read : List Byte → Option Command}
    (row : ∀ p, parseParameters (commandCode c) p = if p.length = parameterCount c then read p else none)
    (reads : read (commandParameters c) = some c) : readsBack c :=
  (row _).trans ((if_pos (commandParameters_length c)).trans reads)

theorem readBook_readsBack {b : BookSelector} {part : BookPart} (h : commandInRange (.readBook b part) = true) :
    readsBack (.readBook b part) := by
  obtain ⟨start, position⟩ := Bool.and_eq_true_iff.1 h
  have minute (m : Nat) (named : b = .startMinute m) : field (commandParameters (.readBook b part)) 1 4 = m := by
    subst named
    have least : m ≤ 94371839 := of_decide_eq_true start
    exact field_of rfl (by omega)
  have member (p : Nat) (named : part = .members p) : field (commandParameters (.readBook b part)) 6 1 = p := by
    subst named
    have least : p ≤ 191 := of_decide_eq_true position
    cases b <;> exact field_of rfl (by omega)
  cases b <;> cases part
  case startMinute.summary m =>
    exact readsBack_of (fun _ => rfl)
      (congrArg (fun m => some (Command.readBook (.startMinute m) .summary)) (minute m rfl))
  case startMinute.members m p =>
    exact readsBack_of (fun _ => rfl)
      (congrArg₂ (fun m p => some (Command.readBook (.startMinute m) (.members p))) (minute m rfl) (member p rfl))
  case newest.summary => rfl
  case newest.members p =>
    exact readsBack_of (fun _ => rfl)
      (congrArg (fun p => some (Command.readBook .newest (.members p))) (member p rfl))

theorem sweepAccounts_readsBack {o : SweepOrder} (h : commandInRange (.sweepAccounts o) = true) :
    readsBack (.sweepAccounts o) := by
  simp only [commandInRange, runInRange, Bool.and_eq_true, decide_eq_true_eq] at h
  obtain ⟨⟨⟨ordered, last⟩, -⟩, step⟩ := h
  have filter : filterOf (field (commandParameters (.sweepAccounts o)) 3 1) = some o.filter := filterOf_be _
  refine readsBack_of (fun _ => rfl) ?_
  rw [filter, field_of (v := o.first) rfl (by omega), field_of (v := o.last) rfl (by omega),
    field_of (v := o.step) rfl (by omega)]
  rfl

theorem scanAccounts_readsBack {o : ScanOrder} (h : commandInRange (.scanAccounts o) = true) :
    readsBack (.scanAccounts o) := by
  simp only [commandInRange, runInRange, balanceInRange, Config.balanceLimit, Bool.and_eq_true, decide_eq_true_eq] at h
  obtain ⟨⟨⟨⟨ordered, last⟩, -⟩, step⟩, least, most⟩ := h
  have comparison : comparisonOf (field (commandParameters (.scanAccounts o)) 3 1) = some o.comparison := comparisonOf_be _
  have skip : flagOf (field (commandParameters (.scanAccounts o)) 10 1) = some o.skipSuspended := flagOf_flagByte _
  refine readsBack_of (fun _ => rfl) ?_
  rw [comparison, skip, field_of (v := o.first) rfl (by omega), field_of (v := o.last) rfl (by omega),
    field_of (v := o.step) rfl (by omega), signed_of (v := o.threshold) rfl (of_decide_eq_true least) (of_decide_eq_true most)]
  rfl

theorem enrol_readsBack {f n serial : Nat} (h : commandInRange (.enrol f n serial) = true) :
    readsBack (.enrol f n serial) := by
  simp only [commandInRange, Bool.and_eq_true, decide_eq_true_eq] at h
  obtain ⟨⟨⟨feeder, -⟩, rounds⟩, wide⟩ := h
  refine readsBack_of (fun _ => rfl) ?_
  rw [field_of (v := f) rfl (by omega), field_of (v := n) rfl (by omega), field_of (v := serial) rfl (by omega)]

/-- A Redirect Rule, behind its presence byte (R55). -/
theorem redirect_readsBack {i : Nat} {e : ParticipantEntry} (target : ∀ r, e.redirect = some r → r.target ≤ 191) :
    optionalAt (commandParameters (.stageParticipant i e)) 19 2
      ((scopeOf (field (commandParameters (.stageParticipant i e)) 21 1)).map fun scope =>
        { target := field (commandParameters (.stageParticipant i e)) 20 1, scope := scope }) = some e.redirect := by
  obtain ⟨kind, status, serial, feeder, slot, ceiling, creditFloor, limit, _ | r⟩ := e
  case none => rfl
  case some =>
    have bound := target r rfl
    refine (congrArg₂ (fun scope target =>
      (scope.map fun scope => ({ target := target, scope := scope } : Redirect)).map some) (scopeOf_be r.scope) ?_)
    exact field_of (n := 1) rfl (by omega)

theorem stageParticipant_readsBack {i : Nat} {e : ParticipantEntry} (h : commandInRange (.stageParticipant i e) = true) :
    readsBack (.stageParticipant i e) := by
  simp only [commandInRange, entryInRange, Bool.and_eq_true, decide_eq_true_eq] at h
  obtain ⟨index, ⟨⟨⟨⟨⟨⟨⟨⟨-, serial⟩, feeder⟩, slot⟩, -⟩, ceiling⟩, least⟩, most⟩, limit⟩, target⟩ := h
  have redirect := redirect_readsBack (i := i) (e := e) (fun r given => by simpa [given] using target)
  have kind : kindOf (field (commandParameters (.stageParticipant i e)) 1 1) = some e.kind := kindOf_be _
  have status : statusOf (field (commandParameters (.stageParticipant i e)) 2 1) = some e.status := statusOf_be _
  refine readsBack_of (fun _ => rfl) ?_
  rw [redirect, kind, status, field_of (v := i) rfl (by omega), field_of (v := e.serial) rfl (by omega),
    field_of (v := e.feeder) rfl (by omega), field_of (v := e.slot) rfl (by omega),
    field_of (v := e.ceiling) rfl (by omega), signed_of (v := e.creditFloor) rfl (by omega) (by omega),
    field_of (v := e.limit) rfl (by omega)]
  rfl

theorem stageGeneral_readsBack {g : GeneralEntry} {w : Vector DayClass 7} (h : commandInRange (.stageGeneral g w) = true) :
    readsBack (.stageGeneral g w) := by
  simp only [commandInRange, generalInRange, Bool.and_eq_true, decide_eq_true_eq] at h
  obtain ⟨⟨named, -⟩, grace⟩ := h
  have interval : g.interval ≤ 60 := by
    simp at named
    omega
  rw [week_eq w]
  generalize w[0] = d0, w[1] = d1, w[2] = d2, w[3] = d3, w[4] = d4, w[5] = d5, w[6] = d6
  refine readsBack_of (fun _ => rfl) ?_
  rw [dayClassOf_field (d := d0) (offset := 3) rfl, dayClassOf_field (d := d1) (offset := 4) rfl,
    dayClassOf_field (d := d2) (offset := 5) rfl, dayClassOf_field (d := d3) (offset := 6) rfl,
    dayClassOf_field (d := d4) (offset := 7) rfl, dayClassOf_field (d := d5) (offset := 8) rfl,
    dayClassOf_field (d := d6) (offset := 9) rfl, field_of (v := g.interval) rfl (by omega), field_of (v := g.grace) rfl (by omega)]
  rfl

/-- A band, behind its presence byte (R51). -/
theorem band_readsBack {p : Nat} {band : Option Band} (ranges : ∀ b, band = some b → bandInRange b = true) :
    optionalAt (commandParameters (.stageBand p band)) 1 14
      ((bandClassOf (field (commandParameters (.stageBand p band)) 2 1)).map fun c =>
        { dayClass := c, start := field (commandParameters (.stageBand p band)) 3 2,
          gridPrice := field (commandParameters (.stageBand p band)) 5 3,
          feedPrice := field (commandParameters (.stageBand p band)) 8 3,
          share := field (commandParameters (.stageBand p band)) 11 2,
          fee := field (commandParameters (.stageBand p band)) 13 3 }) = some band := by
  obtain _ | b := band
  case none => rfl
  case some =>
    have inRange := ranges b rfl
    simp only [bandInRange, Bool.and_eq_true, decide_eq_true_eq] at inRange
    obtain ⟨⟨⟨⟨start, grid⟩, feed⟩, share⟩, fee⟩ := inRange
    have dayClass : bandClassOf (field (commandParameters (.stageBand p (some b))) 2 1) = some b.dayClass := bandClassOf_be _
    rw [dayClass, field_of (v := b.start) rfl (by omega), field_of (v := b.gridPrice) rfl (by omega),
      field_of (v := b.feedPrice) rfl (by omega), field_of (v := b.share) rfl (by omega),
      field_of (v := b.fee) rfl (by omega)]
    rfl

theorem stageBand_readsBack {p : Nat} {band : Option Band} (h : commandInRange (.stageBand p band) = true) :
    readsBack (.stageBand p band) := by
  obtain ⟨position, ranges⟩ := Bool.and_eq_true_iff.1 h
  have least : p ≤ 11 := of_decide_eq_true position
  refine readsBack_of (fun _ => rfl) ?_
  rw [band_readsBack fun b given => by simpa [given] using ranges, field_of (v := p) rfl (by omega)]
  rfl

theorem setClock_readsBack {day second weekday : Nat} (h : commandInRange (.setClock day second weekday) = true) :
    readsBack (.setClock day second weekday) := by
  simp only [commandInRange, Bool.and_eq_true, decide_eq_true_eq] at h
  obtain ⟨⟨date, time⟩, week⟩ := h
  refine readsBack_of (fun _ => rfl) ?_
  rw [field_of (v := day) rfl (by omega), field_of (v := second) rfl (by omega), field_of (v := weekday) rfl (by omega)]

theorem transfer_readsBack {o : TransferOrder} (h : commandInRange (.transfer o) = true) : readsBack (.transfer o) := by
  simp only [commandInRange, Bool.and_eq_true, decide_eq_true_eq] at h
  obtain ⟨⟨⟨⟨⟨⟨payer, payee⟩, -⟩, amount⟩, -⟩, -⟩, -⟩ := h
  have mode : modeOf (field (commandParameters (.transfer o)) 8 1) = some o.mode := modeOf_be _
  refine readsBack_of (fun _ => rfl) ?_
  rw [mode, field_of (v := o.payer) rfl (by omega), field_of (v := o.payee) rfl (by omega),
    field_of (v := o.amount) rfl (by omega)]
  rfl

/-- A base minute, behind its presence byte (R126). -/
theorem baseMinute_readsBack {o : RepairOrder} (ranges : ∀ m, o.baseMinute = some m → m ≤ 94371839) :
    optionalAt (commandParameters (.repairAccount o)) 15 4 (some (field (commandParameters (.repairAccount o)) 16 4)) =
      some o.baseMinute := by
  obtain ⟨account, balance, baseExport, baseImport, _ | m, standing⟩ := o
  case none => rfl
  case some =>
    have least := ranges m rfl
    rw [field_of (v := m) rfl (by omega)]
    rfl

theorem repairAccount_readsBack {o : RepairOrder} (h : commandInRange (.repairAccount o) = true) :
    readsBack (.repairAccount o) := by
  simp only [commandInRange, balanceInRange, Config.balanceLimit, Config.lastMinute, Bool.and_eq_true,
    decide_eq_true_eq] at h
  obtain ⟨⟨⟨⟨⟨⟨account, least, most⟩, bought⟩, sold⟩, minute⟩, -⟩, -⟩ := h
  have base := baseMinute_readsBack (o := o) fun m given => by
    rw [given] at minute
    exact of_decide_eq_true minute
  have standing : standingOf (field (commandParameters (.repairAccount o)) 20 1) = some o.standing := by
    rcases o with ⟨_, _, _, _, _ | _, _⟩ <;> exact standingOf_be _
  refine readsBack_of (fun _ => rfl) ?_
  rw [base, standing, field_of (v := o.account) rfl (by omega),
    signed_of (v := o.balance) rfl (of_decide_eq_true least) (of_decide_eq_true most),
    field_of (v := o.baseExport) rfl (by omega), field_of (v := o.baseImport) rfl (by omega)]
  rfl

/-! ### Every command -/

/-- A field of one byte, first of its row, reads as the value written there. -/
theorem firstByte_of {n v : Nat} {rest : List Byte} (bound : decide (v ≤ n) = true) (fits : n < 256) :
    field (be 1 v ++ rest) 0 1 = v :=
  field_of rfl (lt_of_le_of_lt (of_decide_eq_true bound) fits)

/-- The parameters of every command in range read as that command (R191). -/
theorem readsBack_of_inRange {c : Command} (h : commandInRange c = true) : readsBack c := by
  cases c
  case readAccount a =>
    exact readsBack_of (fun _ => rfl)
      (congrArg (fun a => some (Command.readAccount a)) (firstByte_of (rest := []) h (by decide)))
  case readParticipant i t =>
    exact readsBack_of (fun _ => rfl)
      (congrArg₂ (fun i t => Option.map (Command.readParticipant i) t)
        (firstByte_of (rest := []) h (by decide)) (copyOf_be t))
  case readFeeder f t =>
    exact readsBack_of (fun _ => rfl)
      (congrArg₂ (fun f t => Option.map (Command.readFeeder f) t)
        (firstByte_of (rest := []) h (by decide)) (copyOf_be t))
  case readBand p t =>
    exact readsBack_of (fun _ => rfl)
      (congrArg₂ (fun p t => Option.map (Command.readBand p) t)
        (firstByte_of (rest := []) h (by decide)) (copyOf_be t))
  case readBook => exact readBook_readsBack h
  case readRoundStatus f =>
    exact readsBack_of (fun _ => rfl)
      (congrArg (fun f => some (Command.readRoundStatus f)) (firstByte_of (rest := []) h (by decide)))
  case sweepAccounts => exact sweepAccounts_readsBack h
  case scanAccounts => exact scanAccounts_readsBack h
  case hold f =>
    exact readsBack_of (fun _ => rfl)
      (congrArg (fun f => some (Command.hold f)) (firstByte_of (rest := []) h (by decide)))
  case resume f =>
    exact readsBack_of (fun _ => rfl)
      (congrArg (fun f => some (Command.resume f)) (firstByte_of (rest := []) h (by decide)))
  case enrol => exact enrol_readsBack h
  case rebase i =>
    exact readsBack_of (fun _ => rfl)
      (congrArg (fun i => some (Command.rebase i)) (firstByte_of (rest := []) h (by decide)))
  case stageParticipant => exact stageParticipant_readsBack h
  case stageFeeder f e =>
    obtain ⟨feeder, slots⟩ := Bool.and_eq_true_iff.1 h
    have bound : e.slotCount ≤ 48 := of_decide_eq_true slots
    have enabled : flagOf (field (commandParameters (.stageFeeder f e)) 1 1) = some e.enabled := flagOf_flagByte _
    refine readsBack_of (fun _ => rfl) ?_
    rw [enabled, field_of (v := f) rfl (lt_of_le_of_lt (of_decide_eq_true feeder) (by decide)),
      field_of (v := e.slotCount) rfl (by omega)]
    rfl
  case stageGeneral => exact stageGeneral_readsBack h
  case stageBand => exact stageBand_readsBack h
  case setClock => exact setClock_readsBack h
  case releaseBook m =>
    have bound : m ≤ 94371839 := of_decide_eq_true h
    have minute : field (commandParameters (.releaseBook m)) 0 4 = m := field_of rfl (by omega)
    exact readsBack_of (fun _ => rfl) (congrArg (fun m => some (Command.releaseBook m)) minute)
  case discardBook m =>
    have bound : m ≤ 94371839 := of_decide_eq_true h
    have minute : field (commandParameters (.discardBook m)) 0 4 = m := field_of rfl (by omega)
    exact readsBack_of (fun _ => rfl) (congrArg (fun m => some (Command.discardBook m)) minute)
  case transfer => exact transfer_readsBack h
  case repairAccount => exact repairAccount_readsBack h
  case restart k => exact readsBack_of (fun _ => rfl) (congrArg (Option.map Command.restart) (flagOf_flagByte k))
  all_goals rfl

/-- The body of a command in range decodes to that command (R166, R191). -/
theorem requestOf_commandBody {c : Command} (h : commandInRange c = true) : requestOf (commandBody c) = .command c := by
  have body : commandBody c = BitVec.ofNat 8 (commandCode c) :: commandParameters c := by
    simp only [commandBody, be, Nat.pow_zero, Nat.div_one, List.singleton_append]
  have code : (BitVec.ofNat 8 (commandCode c)).toNat = commandCode c := by cases c <;> rfl
  have named : commandCodes.contains (commandCode c) = true := by cases c <;> rfl
  have parsed : parseParameters (commandCode c) (commandParameters c) = some c := readsBack_of_inRange h
  simp only [body, requestOf, code, named, if_true, parsed]
  exact Request.ofCommand_inRange h

theorem commandBody_length (c : Command) : (commandBody c).length = parameterCount c + 1 := by
  rw [commandBody, List.length_append, be_length, commandParameters_length, Nat.add_comm]

/-- Settles O30: the frame is good, and its body decodes, field by field, to the command it was written from. -/
theorem receivingACommandsFrameIsItsRow : Obligations.ReceivingACommandsFrameIsItsRow := by
  intro c tag s inRange hunting
  have decodes := requestOf_commandBody inRange
  have arrives : exec (.frameReceived (frameBytes commandKind tag (commandBody c))) s =
      .next (s.arrive { tag := tag, request := .command c }) := by
    have short : (commandBody c).length ≤ 255 := by
      have count := parameterCount_le c
      rw [commandBody_length]
      omega
    refine congrArg Host.Outcome.next ((State.receive_frameBytes hunting short).trans ?_)
    rw [if_pos rfl, decodes]
  refine ⟨decodes, arrives.trans ?_, arrives⟩
  rw [exec_row, Request.ofCommand_inRange inRange]

end Sys2Proof.Machine
end

section
/-! ## A frame is sent, and RESTART's begins its sequence (O36) -/

namespace Sys2Proof.Machine

section
variable {s : State} {f : OutFrame} {rest : List OutFrame} {keepHeld : Bool}

/-- The state whose oldest frame has left the queue (R170). -/
def State.sent (s : State) (rest : List OutFrame) : State := { s with link := { s.link with outbound := rest } }

theorem State.frameSent_of_empty (h : s.link.outbound = []) : s.frameSent = s := by
  simp only [State.frameSent, h]

theorem State.frameSent_of_ordinary (h : s.link.outbound = f :: rest) (absent : f.restart = .absent) :
    s.frameSent = s.sent rest := by
  simp only [State.frameSent, h, absent]
  rfl

theorem State.frameSent_of_restart (h : s.link.outbound = f :: rest) (restart : f.restart = .commanded keepHeld)
    (awake : s.isQuiesced = false) : s.frameSent = ((s.sent rest).beginSequence keepHeld).drive := by
  simp only [State.frameSent, h, restart]
  exact if_neg (ne_true_of_eq_false awake)

/-- Steps 1 to 4, in the form of the statement. -/
theorem State.beginSequence_eq (s : State) (keepHeld : Bool) :
    s.beginSequence keepHeld =
      { s with work := none,
               posting := { phase := .idle, book := none, cursor := 0, images := [], durable := false,
                            recheck := s.posting.recheck },
               activation := { s.activation with
                 phase := if s.activation.phase = .awaitQuiet ∨ s.activation.phase = .checking then .awaitBoundary
                          else s.activation.phase, toCheck := [] },
               books := [], live := Vector.replicate 192 .initial,
               ports := s.ports.map fun p => { p with queue := [], enrolment := .free },
               attention := { items := [], overflow := false }, sequence := .flush keepHeld } := by
  rw [State.beginSequence, Activation.abandon_eq]
  rfl

/-- A sequence's flush with nothing to write goes on at once to start-up's header read (R175). -/
theorem State.drive_of_flushed (awake : s.isQuiesced = false) (flush : s.sequence = .flush keepHeld)
    (free : s.port.inProgress = none) (clean : s.cache.dirtyAccounts = []) :
    s.drive = (s.beginStartup keepHeld).onPort .startupHeaderRead := by
  have asks : (s.beginStartup keepHeld).want = some (.op .startupHeaderRead) :=
    State.want_of_sequence_startup awake rfl rfl
  rw [State.drive_of_one (State.turn_of_sequence_flush awake flush (State.flushed_of_free free clean))
    (State.turn_of_sequence_startup awake rfl)]
  exact State.grant_of_op (s := s.beginStartup keepHeld) free asks

/-- A sequence's flush is granted the dirty line of the lowest account (R175, R176; log 46). -/
theorem State.drive_of_unflushed {a line : Nat} {more : List Nat} (awake : s.isQuiesced = false)
    (flush : s.sequence = .flush keepHeld) (free : s.port.inProgress = none)
    (dirty : s.cache.dirtyAccounts = a :: more) (found : s.cache.find a = some line) :
    s.drive = s.onPort (.writeBack .restartFlush line a) := by
  have unclean : s.cache.dirtyAccounts ≠ [] := by
    rw [dirty]
    exact List.cons_ne_nil _ _
  have still : s.turn = none := by
    simp only [State.turn, awake, flush, State.flushed_of_busy (.inr unclean), Bool.false_eq_true, if_false]
  have asks : s.want = some (.op (.writeBack .restartFlush line a)) := by
    simp only [State.want, awake, flush, Bool.false_eq_true, if_false]
    exact State.flushWant_of_cons dirty found
  rw [State.drive_of_none still, State.grant_of_op free asks]
  rfl

/-- Step 6, in the form of the statement. -/
theorem State.beginStartup_eq (s : State) (keepHeld : Bool) :
    s.beginStartup keepHeld =
      { s with cache := .empty, sequence := .startup keepHeld,
               ports := s.ports.map fun p => { p with prefetch := if p.prefetch.isWaiting then .none else p.prefetch },
               port := { s.port with state := .notReady, startup := .readingHeader } } := by
  rw [State.beginStartup, State.withdrawPrefetches_eq]

end

end Sys2Proof.Machine
end

section
/-! ## Steps 8 and 9 of a RESTART sequence (O36) -/

namespace Sys2Proof.Machine

/-! ### A port acts on its feeder's state (R21) -/

/-- A feeder's state once its port has acted: the table of R21. -/
def FeederState.acted (state : FeederState) (enabled keepHeld : Bool) : FeederState :=
  match state with
  | .off => .off
  | .running => if enabled then .running else .off
  | .holdPending => if enabled then (if keepHeld then .held else .running) else .off
  | .held => if keepHeld then .held else if enabled then .running else .off

/-- A port whose round is cut short and which has acted, its feeder left in a state. -/
def FeederPort.actedTo (p : FeederPort) (state : FeederState) : FeederPort :=
  { p with state := state, window := if state = .running then .headDue else .shut, round := none, sending := [],
           driving := false, restartDue := none, prefetch := .none,
           number := if p.round.isSome then p.number + 1 else p.number }

/-- A port that has reached step 8: its round is cut short and its prefetch gone (R161, R175). -/
def FeederPort.withdrawn (p : FeederPort) : FeederPort := { p.cutRound with restartDue := none, prefetch := .none }

/-- A port whose feeder does not run has nothing more to do. -/
theorem FeederPort.withdrawn_eq {p : FeederPort} {state : FeederState} (feeder : p.state = state)
    (still : state ≠ .running) : p.withdrawn = p.actedTo state := by
  subst feeder
  simp only [FeederPort.withdrawn, FeederPort.actedTo, FeederPort.cutRound, still, if_false]

section
variable {s : State} {f : Feeder} {keepHeld : Bool}

/-- The port of a feeder once it has acted (log 43: by the entry as it then stands). -/
def State.actedPort (s : State) (keepHeld : Bool) (f : Feeder) : FeederPort :=
  s.ports[f].actedTo (s.ports[f].state.acted (s.enabled f) keepHeld)

/-- A feeder without an enrolment listening goes OFF. -/
theorem State.setPort_feederOff {p : FeederPort} (deaf : p.enrolment.condition ≠ .listening) :
    (s.setPort f p).feederOff f = s.setPort f (p.stop .off) := by
  rw [State.feederOff_eq]
  simp only [State.setPort_self, deaf, if_false, State.setPort_setPort]

/-- A port acts, its round cut short (R21). -/
theorem State.restartPort_eq (deaf : s.ports[f].enrolment.condition ≠ .listening) :
    s.restartPort keepHeld f = s.setPort f (s.actedPort keepHeld f) := by
  have reached : (s.modifyPort f FeederPort.cutRound).modifyPort f
      (fun p => { p with restartDue := none, prefetch := .none }) = s.setPort f s.ports[f].withdrawn :=
    State.modifyPort_modifyPort ..
  have state : s.ports[f].withdrawn.state = s.ports[f].state := rfl
  have enabled : (s.setPort f s.ports[f].withdrawn).enabled f = s.enabled f := rfl
  have runs : (s.setPort f s.ports[f].withdrawn).modifyPort f FeederPort.newRound =
      s.setPort f (s.ports[f].actedTo .running) := State.modifyPort_setPort ..
  have holds : (s.setPort f s.ports[f].withdrawn).modifyPort f (fun p => p.stop .held) =
      s.setPort f (s.ports[f].actedTo .held) := State.modifyPort_setPort ..
  have off : (s.setPort f s.ports[f].withdrawn).feederOff f = s.setPort f (s.ports[f].actedTo .off) :=
    State.setPort_feederOff deaf
  simp only [State.restartPort, State.actOnRestart, reached, State.setPort_self, state, enabled, runs, holds, off,
    State.actedPort]
  cases feeder : s.ports[f].state with
  | off => rw [FeederPort.withdrawn_eq feeder (by decide)]; rfl
  | running => cases s.enabled f <;> rfl
  | holdPending => cases s.enabled f <;> cases keepHeld <;> rfl
  | held =>
    rw [FeederPort.withdrawn_eq feeder (by decide)]
    cases s.enabled f <;> cases keepHeld <;> rfl

end

end Sys2Proof.Machine
end

section
/-! ## The end of a RESTART sequence (O36) -/

namespace Sys2Proof.Machine

/-! ### Every port reaches step 8 (R175) -/

section
variable {s : State} {f : Feeder} {keepHeld : Bool}

/-- A port once step 8 has reached it: a window in progress is completed first. -/
def State.reachedPort (s : State) (keepHeld : Bool) (f : Feeder) : FeederPort :=
  if s.ports[f].window.isOpen then { s.ports[f] with restartDue := some (.restart keepHeld) }
  else s.actedPort keepHeld f

theorem State.reachPort_eq (deaf : s.ports[f].enrolment.condition ≠ .listening) :
    s.reachPort keepHeld f = s.setPort f (s.reachedPort keepHeld f) := by
  rw [State.reachPort, State.reachedPort]
  split
  · rfl
  · exact State.restartPort_eq deaf

/-- Ports changed one by one, each by what it was before. -/
theorem State.foldl_setPort {step : State → Feeder → State} {g : Feeder → FeederPort} {s : State}
    (each : ∀ (ports : Vector FeederPort 4) (f : Feeder), ports[f] = s.ports[f] →
      step (s.withPorts ports) f = (s.withPorts ports).setPort f (g f))
    (fs : List Feeder) (nodup : fs.Nodup) (ports : Vector FeederPort 4)
    (before : ∀ f ∈ fs, ports[f] = s.ports[f]) :
    fs.foldl step (s.withPorts ports) =
      s.withPorts (Vector.ofFn fun f : Feeder => if f ∈ fs then g f else ports[f]) := by
  induction fs generalizing ports with
  | nil => exact congrArg s.withPorts (Vector.ext fun i hi => by simp)
  | cons f fs ih =>
    obtain ⟨apart, nodup'⟩ := List.nodup_cons.1 nodup
    have other (h : Feeder) (hh : h ≠ f) : ((s.withPorts ports).setPort f (g f)).ports[h] = ports[h] :=
      State.setPort_other _ (Ne.symm hh) _
    have rest := ih nodup' ((s.withPorts ports).setPort f (g f)).ports fun h hh => by
      rw [other h fun same => apart (same ▸ hh)]
      exact before h (List.mem_cons_of_mem _ hh)
    rw [List.foldl_cons, each ports f (before f List.mem_cons_self)]
    refine rest.trans (congrArg s.withPorts (Vector.ext fun i hi => ?_))
    rw [Vector.getElem_ofFn, Vector.getElem_ofFn]
    generalize (⟨i, hi⟩ : Feeder) = h
    by_cases same : h = f
    · subst same
      rw [if_neg apart, if_pos List.mem_cons_self, State.setPort_self]
    · simp only [List.mem_cons, same, false_or, other h same]

/-- The engine as step 8 begins. -/
def State.atPorts (s : State) (keepHeld : Bool) : State := { s with sequence := .ports keepHeld }

/-- Start-up's end in a RESTART sequence: every port reaches step 8 (R175). -/
theorem State.startupEnded_of_startup (sequence : s.sequence = .startup keepHeld)
    (deaf : ∀ f : Feeder, s.ports[f].enrolment.condition ≠ .listening) :
    s.startupEnded = ((s.atPorts keepHeld).withPorts (Vector.ofFn (s.reachedPort keepHeld))).sequenceOn := by
  have each (ports : Vector FeederPort 4) (f : Feeder) (before : ports[f] = s.ports[f]) :
      ((s.atPorts keepHeld).withPorts ports).reachPort keepHeld f =
        ((s.atPorts keepHeld).withPorts ports).setPort f (s.reachedPort keepHeld f) := by
    have port : ((s.atPorts keepHeld).withPorts ports).ports[f] = s.ports[f] := before
    have same : ((s.atPorts keepHeld).withPorts ports).reachedPort keepHeld f = s.reachedPort keepHeld f := by
      simp only [State.reachedPort, State.actedPort, port]
      rfl
    rw [← same]
    exact State.reachPort_eq (port ▸ deaf f)
  have reached := State.foldl_setPort (s := s.atPorts keepHeld) each (List.finRange 4) (List.nodup_finRange 4) s.ports
    fun _ _ => rfl
  simp only [List.mem_finRange, if_true] at reached
  simp only [State.startupEnded, sequence]
  exact congrArg State.sequenceOn reached

/-- A window in progress puts off step 9 (log 15). -/
theorem State.sequenceOn_of_due (due : s.ports[f].restartDue ≠ none) : s.sequenceOn = s := by
  have notActed : s.portsActed = false := by
    refine List.all_eq_false.2 ⟨s.ports[f], by simp, ?_⟩
    simpa using due
  rw [State.sequenceOn]
  split
  · rw [notActed]
    rfl
  · rfl

/-- Step 9 follows when every port has acted (log 15). -/
theorem State.sequenceOn_of_acted (sequence : s.sequence = .ports keepHeld)
    (acted : ∀ f : Feeder, s.ports[f].restartDue = none) : s.sequenceOn = s.endSequence := by
  have all : s.portsActed = true := by
    refine List.all_eq_true.2 fun p hp => ?_
    obtain ⟨i, hi, rfl⟩ := List.getElem_of_mem hp
    have due := acted ⟨i, by simpa using hi⟩
    simpa using due
  simp only [State.sequenceOn, sequence, all, if_true]

end

/-! ### Step 9 (R73, R74, R164) -/

section
variable {s : State}

/-- The engine once its sequence has ended, with the commands that still wait. -/
def State.sequenceEnded (s : State) (waiting : List Buffered) : State :=
  { s with sequence := .none, link := { s.link with restartHold := false, waiting := waiting } }

theorem State.endSequence_eq (s : State) :
    s.endSequence = (s.sequenceEnded s.link.waiting).boundarySearch.1.takeWaiting := rfl

/-- No boundary is due. -/
theorem State.boundarySearch_of_still (waiting : List Buffered)
    (still : s.engine = .unconfigured ∨ ∀ start, s.clock.openStart = some start → s.candidate ≤ start) :
    (s.sequenceEnded waiting).boundarySearch = (s.sequenceEnded waiting, false) := by
  refine State.boundarySearch_of_none (still.imp (fun off => ?_) .inr)
  have engine : (s.sequenceEnded waiting).engine = .unconfigured := off
  rw [engine]
  decide

/-- Nothing waits and no boundary is due. -/
theorem State.endSequence_of_still (empty : s.link.waiting = [])
    (still : s.engine = .unconfigured ∨ ∀ start, s.clock.openStart = some start → s.candidate ≤ start) :
    s.endSequence = s.sequenceEnded [] := by
  rw [State.endSequence_eq, empty, State.boundarySearch_of_still [] still]
  exact State.takeWaiting_of_empty rfl

/-- READ CLOCK waits and no boundary is due. -/
theorem State.endSequence_of_readClock {tag : Byte} {rest : List Buffered} (idle : s.link.executing = none)
    (waiting : s.link.waiting = { tag := tag, request := .command .readClock } :: rest)
    (awake : s.isQuiesced = false)
    (still : s.engine = .unconfigured ∨ ∀ start, s.clock.openStart = some start → s.candidate ≤ start) :
    s.endSequence =
      (s.sequenceEnded rest).answered tag 0x07 .done 0 (clockFields s.engine s.active.week s.clock) := by
  have none : (s.sequenceEnded s.link.waiting).boundarySearch = (s.sequenceEnded s.link.waiting, false) :=
    State.boundarySearch_of_still _ still
  rw [State.endSequence_eq, none, State.takeWaiting_of_cons (s := s.sequenceEnded s.link.waiting) idle rfl waiting]
  exact State.begin_command (s := s.sequenceEnded rest) awake tag .readClock

/-- Nothing waits and a boundary is due, with no book open. -/
theorem State.endSequence_of_boundary {start : Nat} (empty : s.link.waiting = []) (books : s.books = [])
    (notChecking : s.activation.phase ≠ .checking) (running : s.engine = .running)
    (opened : s.clock.openStart = some start) (beyond : start < s.candidate) (someone : s.active.expectedSet ≠ []) :
    s.endSequence = (s.sequenceEnded []).bookOpened [] start s.candidate := by
  have noBooks : (s.sequenceEnded []).books = [] := books
  have taken : (s.sequenceEnded []).takeBoundary start s.candidate =
      (s.sequenceEnded []).bookOpened [] start s.candidate :=
    State.takeBoundary_eq (s := s.sequenceEnded []) (t := s.sequenceEnded [])
      (State.endCollection_of_none (by simp [noBooks])) (by rw [noBooks]; rfl) (by simp) someone _ _
  rw [State.endSequence_eq, empty,
    State.boundarySearch_of_beyond (s := s.sequenceEnded []) running notChecking rfl opened beyond, noBooks]
  exact (congrArg State.takeWaiting taken).trans (State.takeWaiting_of_empty rfl)

/-- Once its sequence has ended the engine is at rest, but for its Command Unit (R164). -/
def State.restsAfterSequence (s : State) : Prop := ∀ waiting, (s.sequenceEnded waiting).resting

theorem State.restsAfterSequence_of_units (awake : s.isQuiesced = false) (noWork : s.work = none)
    (noPosting : s.posting.phase = .idle) (free : s.port.inProgress = none) (startup : s.port.startup = .idle)
    (notAwaiting : s.activation.phase ≠ .awaitQuiet) (notChecking : s.activation.phase ≠ .checking)
    (noMarking : s.activation.marking = []) (books : s.books = [])
    (noNotice : ∀ f : Feeder, s.ports[f].prefetch.isWaiting = false) : s.restsAfterSequence := by
  intro waiting
  have noBook (b : Book) (hb : b ∈ (s.sequenceEnded waiting).books) : False := by
    have held : b ∈ s.books := hb
    rw [books] at held
    cases held
  exact ⟨awake, rfl, noWork, noPosting, free, startup, notAwaiting, notChecking, noMarking,
    fun b hb => (noBook b hb).elim, noNotice⟩

/-- Step 9's cases, and that no unit has more to do in any of them. -/
theorem State.endSequence_steps {after : State → State} (idle : s.link.executing = none) (books : s.books = [])
    (rest : s.restsAfterSequence) (settles : ∀ t : State, t.commandDone = true → t.drive = t → after t = t) :
    (s.link.waiting = [] → s.engine = .unconfigured ∨ (∀ start, s.clock.openStart = some start → s.candidate ≤ start) →
      after s.endSequence = s.sequenceEnded []) ∧
    (∀ tag more, s.link.waiting = { tag := tag, request := .command .readClock } :: more →
      s.engine = .unconfigured ∨ (∀ start, s.clock.openStart = some start → s.candidate ≤ start) →
      after s.endSequence =
        (s.sequenceEnded more).answered tag 0x07 .done 0 (clockFields s.engine s.active.week s.clock)) ∧
    (∀ start, s.link.waiting = [] → s.engine = .running → s.clock.openStart = some start → start < s.candidate →
      s.active.expectedSet ≠ [] →
      after s.endSequence = (s.sequenceEnded []).bookOpened [] start s.candidate) := by
  have done (waiting : List Buffered) : (s.sequenceEnded waiting).commandDone = true := by
    have idle' : (s.sequenceEnded waiting).link.executing = none := idle
    simp only [State.commandDone, State.run, idle', Option.map_none]
  obtain ⟨awake, -⟩ := rest []
  have units := (rest []).unitsRest
  refine ⟨fun empty still => ?still, fun tag more waiting still => ?taken,
    fun start empty running opened beyond someone => ?boundary⟩
  case still =>
    rw [State.endSequence_of_still empty still]
    exact settles _ (done []) (State.drive_of_resting (rest []) (done []))
  case taken =>
    rw [State.endSequence_of_readClock idle waiting awake still]
    exact settles _ rfl (State.drive_of_resting (rest more) rfl)
  case boundary =>
    rw [State.endSequence_of_boundary empty books units.notChecking running opened beyond someone]
    have noBook : ((s.sequenceEnded []).bookOpened [] start s.candidate).admissible = none :=
      State.admissible_of_none (by simp [State.bookOpened, State.newBook])
    exact settles _ (done [])
      (State.bookOpened_drive ((rest []).othersRest (done [])) units.noWork units.notChecking units.noMarking noBook)

/-- The book of a boundary taken in step 9, in the form of the statement (R74; log 36). -/
theorem State.bookOpened_alone (s : State) (start candidate : Nat) :
    s.bookOpened [] start candidate =
      { s with
        books := [{
          start := start, close := candidate, mark := s.clock.mark + 1,
          deadline := max (candidate * 60) s.clock.time + s.active.general.grace, state := .collecting,
          holdReason := none, expected := s.active.expectedSet, members := [], missing := 0, counterFaults := 0,
          capture := none, figures := none, owed := false }]
        clock := { s.clock with mark := s.clock.mark + 1, openStart := some candidate }
        activation := { s.activation with
          phase := if s.activation.phase = .awaitBoundary then .awaitQuiet else s.activation.phase }
        live := s.live.map fun l => { l with taken := none } } := by
  rw [State.bookOpened, Activation.boundaryTaken_eq]
  rfl

end

/-! ### Step 8, as start-up ends and as a window closes -/

section
variable {s : State} {f : Feeder} {keepHeld : Bool}

/-- While a port's window keeps step 8 open no unit goes on (R176). -/
theorem State.completed_of_ports (awake : s.isQuiesced = false) (sequence : s.sequence = .ports keepHeld)
    (startup : s.port.startup = .idle) (idle : s.link.executing = none)
    (noNotice : ∀ f : Feeder, s.ports[f].prefetch.isWaiting = false) : s.completed = s := by
  have done : s.commandDone = true := by simp only [State.commandDone, State.run, idle, Option.map_none]
  have still : s.turn = none := by
    simp only [State.turn, awake, sequence, State.noticeTurn_of_none noNotice, Bool.false_eq_true, if_false]
  have units : s.unitWant = none := by
    have runs : (s.sequence == .none) = false := by rw [sequence]; rfl
    simp only [State.unitWant, runs, Bool.and_false, Bool.false_eq_true, if_false]
  have asks : s.want = none := by
    simp only [State.want, awake, sequence, MemoryPort.startupWant, startup, units, State.commandWant_of_done done,
      State.noticeWant_of_none noNotice, Option.map_none, ite_self, Bool.false_eq_true, if_false]
    rfl
  rw [State.completed, State.endCut_of_done done, State.drive_of_none still, State.grant_of_none asks]

/-- The engine as a start-up that finds an EMPTY header leaves the memory (R131). -/
def State.startedUp (s : State) (h : Header) : State :=
  { s with port := { state := .ready, header := some h, inProgress := none, startup := .idle } }

/-- A start-up of a sequence that finds an EMPTY header: every port reaches step 8 (R131, R175). -/
theorem exec_startupHeaderRead_of_empty {returned : Option (List Byte)} {h : Header}
    (op : s.port.inProgress = some .startupHeaderRead) (reading : s.port.startup = .readingHeader)
    (good : headerOf (returned.getD (readBytes s.memory 0 16)) = some h) (journal : h.journal = .empty)
    (sequence : s.sequence = .startup keepHeld) (deaf : ∀ f : Feeder, s.ports[f].enrolment.condition ≠ .listening) :
    exec (.startupHeaderRead returned) s = .next
      (((s.startedUp h).atPorts keepHeld).withPorts (Vector.ofFn (s.reachedPort keepHeld))).sequenceOn.completed := by
  have ended : (s.startedUp h).startupEnded =
      (((s.startedUp h).atPorts keepHeld).withPorts (Vector.ofFn (s.reachedPort keepHeld))).sequenceOn :=
    State.startupEnded_of_startup (s := s.startedUp h) sequence deaf
  rw [exec_startupHeaderRead op reading, good, ← ended]
  exact congrArg (fun t : State => Host.Outcome.next t.completed) (if_pos journal)

/-- A QUIET window that step 8 has reached ends its round, and its port acts (R21; log 13). -/
theorem State.closeQuiet_of_restart {heard : List LineChar} {r : Round} (awake : s.isQuiesced = false)
    (quiet : s.ports[f].window = .quiet) (round : s.ports[f].round = some r)
    (due : s.ports[f].restartDue = some (.restart keepHeld)) (deaf : s.ports[f].enrolment.condition ≠ .listening) :
    s.closeQuiet f heard = (s.setPort f (s.actedPort keepHeld f)).sequenceOn.drive := by
  have next : s.nextWindow f .shut = (s.restartPort keepHeld f).sequenceOn.drive := by
    simp only [State.nextWindow, awake, due, Bool.false_eq_true, if_false]
  simp only [State.closeQuiet, quiet, round, due, Option.isSome_some, Bool.or_true, if_true, next,
    State.restartPort_eq deaf]

/-- A port that has acted owes nothing to a sequence, and the others owed nothing. -/
theorem State.setPort_actedPort_due (others : ∀ g : Feeder, g ≠ f → s.ports[g].restartDue = none) (g : Feeder) :
    (s.setPort f (s.actedPort keepHeld f)).ports[g].restartDue = none := by
  by_cases same : g = f
  · rw [same, State.setPort_self]
    rfl
  · rw [State.setPort_other s (Ne.symm same), others g same]

/-- A port that has acted asks for no record. -/
theorem State.setPort_actedPort_noNotice (noNotice : ∀ g : Feeder, s.ports[g].prefetch.isWaiting = false) (g : Feeder) :
    (s.setPort f (s.actedPort keepHeld f)).ports[g].prefetch.isWaiting = false := by
  by_cases same : g = f
  · rw [same, State.setPort_self]
    rfl
  · rw [State.setPort_other s (Ne.symm same), noNotice g]

theorem State.reachedPort_noNotice (noNotice : s.ports[f].prefetch.isWaiting = false) :
    (s.reachedPort keepHeld f).prefetch.isWaiting = false := by
  rw [State.reachedPort]
  split
  · exact noNotice
  · rfl

theorem State.withPorts_ofFn (s : State) (g : Feeder → FeederPort) (f : Feeder) :
    (s.withPorts (Vector.ofFn g)).ports[f] = g f := by
  simp [State.withPorts]

/-- A window in progress as start-up ends: the ports with none act, and step 8 goes on (R175; log 15). -/
theorem State.completed_of_window {h : Header} (awake : s.isQuiesced = false) (idle : s.link.executing = none)
    (noNotice : ∀ f : Feeder, s.ports[f].prefetch.isWaiting = false) (window : s.ports[f].window.isOpen = true) :
    (((s.startedUp h).atPorts keepHeld).withPorts (Vector.ofFn (s.reachedPort keepHeld))).sequenceOn.completed =
      ((s.startedUp h).atPorts keepHeld).withPorts (Vector.ofFn (s.reachedPort keepHeld)) := by
  have due : (s.reachedPort keepHeld f).restartDue = some (.restart keepHeld) :=
    congrArg FeederPort.restartDue (if_pos window)
  rw [State.sequenceOn_of_due (f := f) (by rw [State.withPorts_ofFn, due]; exact Option.some_ne_none _)]
  refine State.completed_of_ports (keepHeld := keepHeld) awake rfl rfl idle fun g => ?_
  rw [State.withPorts_ofFn, State.reachedPort_noNotice (noNotice g)]

end

/-- Settles O36: the frame that leaves by what it carries; step 8 port by port; step 9 by what waits and is due. -/
theorem sentFramesLeaveTheQueueAndRestartBegins : Obligations.SentFramesLeaveTheQueueAndRestartBegins := by
  refine ⟨fun s => ⟨fun empty => ?empty, fun f rest sent absent => ?ordinary,
    fun f rest keepHeld sent restart awake free => ?restart⟩, fun s keepHeld awake noWork noPosting books notAwaiting
      notChecking noMarking idle deaf noNotice => ?ports⟩
  case empty => exact congrArg Host.Outcome.next (State.frameSent_of_empty empty)
  case ordinary => exact congrArg Host.Outcome.next (State.frameSent_of_ordinary sent absent)
  case restart =>
    intro begun
    have begins : (s.sent rest).beginSequence keepHeld = begun := State.beginSequence_eq _ _
    have driven : exec .frameSent s = .next begun.drive :=
      congrArg Host.Outcome.next ((State.frameSent_of_restart sent restart awake).trans (congrArg State.drive begins))
    refine ⟨fun clean => ?_, fun a more line dirty found => ?_⟩
    · rw [driven, State.drive_of_flushed (s := begun) awake rfl free clean, State.beginStartup_eq]
      rfl
    · rw [driven, State.drive_of_unflushed (s := begun) awake rfl free dirty found]
  case ports =>
    intro acted ended steps
    have actedPort : s.actedPort keepHeld = acted := rfl
    refine ⟨fun returned h sequence op reading good journal => ?startup, fun f r heard sequence quiet round due free
      startup others => ?quiet⟩
    case startup =>
      intro ready
      have ends := exec_startupHeaderRead_of_empty op reading good journal sequence deaf
      refine ⟨fun shut => ?shut, fun ⟨f, window⟩ => ?window⟩
      case shut =>
        have reached : s.reachedPort keepHeld = acted := funext fun f => if_neg (by rw [shut f]; decide)
        rw [reached] at ends
        have rests : (((s.startedUp h).atPorts keepHeld).withPorts (Vector.ofFn acted)).restsAfterSequence :=
          State.restsAfterSequence_of_units awake noWork noPosting rfl rfl notAwaiting notChecking noMarking books
            fun f => by rw [State.withPorts_ofFn]; rfl
        rw [State.sequenceOn_of_acted rfl fun f => by rw [State.withPorts_ofFn]] at ends
        obtain ⟨still, taken, boundary⟩ := State.endSequence_steps
          (s := ((s.startedUp h).atPorts keepHeld).withPorts (Vector.ofFn acted)) (after := State.completed) idle books rests
          fun t done settled => by rw [State.completed, State.endCut_of_done done, settled]
        exact ⟨fun empty none => ends.trans (congrArg _ (still empty none)),
          fun tag more waiting none => ends.trans (congrArg _ (taken tag more waiting none)),
          fun start empty running opened beyond someone => ends.trans (congrArg _
            ((boundary start empty running opened beyond someone).trans (State.bookOpened_alone _ _ _)))⟩
      case window =>
        rw [State.completed_of_window awake idle noNotice window] at ends
        exact ends
    case quiet =>
      have ends : exec (.quietWindowClose f heard) s = .next (s.setPort f (acted f)).endSequence.drive := by
        refine congrArg Host.Outcome.next ((State.closeQuiet_of_restart awake quiet round due (deaf f)).trans ?_)
        rw [actedPort, State.sequenceOn_of_acted (s := s.setPort f (acted f)) sequence
          (State.setPort_actedPort_due others)]
      have rests : (s.setPort f (acted f)).restsAfterSequence :=
        State.restsAfterSequence_of_units awake noWork noPosting free startup notAwaiting notChecking noMarking books
          (State.setPort_actedPort_noNotice noNotice)
      obtain ⟨still, taken, boundary⟩ := State.endSequence_steps (s := s.setPort f (acted f))
        (after := State.drive) idle books rests fun t done settled => settled
      exact ⟨fun empty none => ends.trans (congrArg _ (still empty none)),
        fun tag more waiting none => ends.trans (congrArg _ (taken tag more waiting none)),
        fun start empty running opened beyond someone => ends.trans (congrArg _
          ((boundary start empty running opened beyond someone).trans (State.bookOpened_alone _ _ _)))⟩

end Sys2Proof.Machine
end

section
/-! ## Reading commands (O14): their answers, and the bytes of the objects -/

namespace Sys2Proof.Machine

/-! ### The answers (R12, R181 to R183, R185) -/

/-- The tables a command names. -/
theorem State.copyOf_eq (s : State) (c : TableCopy) :
    s.copyOf c = match c with | .active => s.active | .staged => s.staged := by
  cases c <;> rfl

/-- READ FEEDER's rule on a feeder (R182). -/
theorem State.startReadFeeder_of_feeder (s : State) (f : Feeder) (c : TableCopy) :
    s.startReadFeeder f.val c = s.finish 0 (feederFields ((s.copyOf c).feeder f.val) s.ports[f]) := by
  simp only [State.startReadFeeder, feederOf_val]

/-- READ ROUND STATUS's rule on a feeder whose last round is recorded (R12). -/
theorem State.startReadRoundStatus_of_some {s : State} {f : Feeder} {r : RoundRecord}
    (last : s.ports[f].last = some r) :
    s.startReadRoundStatus f.val = s.finish 0 (roundFields r) := by
  simp only [State.startReadRoundStatus, feederOf_val, last]

/-- READ ROUND STATUS's rule on a feeder that has completed no round (R12). -/
theorem State.startReadRoundStatus_of_none {s : State} {f : Feeder} (last : s.ports[f].last = none) :
    s.startReadRoundStatus f.val = s.finish 1 [] := by
  simp only [State.startReadRoundStatus, feederOf_val, last]

/-! ### The bytes (section 12.3) -/

/-- Bytes that agree part by part. -/
theorem bytes_append {a b c d : List Byte} (front : a = b) (back : c = d) : a ++ c = b ++ d := by
  rw [front, back]

/-- The band at a position is the table's. -/
theorem TableSet.band_eq (t : TableSet) (p : Fin 12) : (t.bands[p.val]?).join = t.bands[p] := by
  rw [Vector.getElem?_eq_getElem p.isLt, Option.join_some]
  rfl

/-- The local price of a present band, absent where F lies above B (R183). -/
theorem bandLocalPrice_some (b : Band) :
    bandLocalPrice (some b) =
      if b.gridPrice < b.feedPrice then none else some (localPrice b.gridPrice b.feedPrice b.share) := rfl

/-- Today's day class in bytes (R50). -/
theorem dayClassCode_dayClass (week : Vector DayClass 7) (weekday day : Nat) :
    dayClassCode (dayClass week weekday day) =
      match week[(weekday + day) % 7]? with | some .rest => 1 | _ => 0 := by
  rw [dayClass]
  rcases week[(weekday + day) % 7]? with _ | c
  · rfl
  · cases c <;> rfl

/-- The state of the book that is SETTLING or POSTING in bytes. -/
theorem bookStateCode_of_busy {b : Book} (h : (b.state == .settling || b.state == .posting) = true) :
    bookStateCode b.state = if b.state = .settling then 2 else 3 := by
  rw [Bool.or_eq_true, beq_iff_eq, beq_iff_eq] at h
  rcases h with settling | posting
  · rw [settling]
    rfl
  · rw [posting]
    rfl

/-- A dirty victim is being evicted exactly while its fill is in progress (R138). -/
theorem MemoryPort.evicting_count (p : MemoryPort) :
    (if p.evicting.isSome then 1 else 0) =
      match p.inProgress with | some (.fill _ _ _ (some _)) => 1 | _ => 0 := by
  rw [MemoryPort.evicting]
  rcases p.inProgress with _ | o
  · rfl
  cases o
  case fill reader account line victim => cases victim <;> rfl
  all_goals rfl

/-- Settles O14: the answers from the rules of the six commands, then each object's bytes, an optional field by
whether it is present. -/
theorem readsReturnTheObjectAndChangeNothing : Obligations.ReadsReturnTheObjectAndChangeNothing := by
  refine ⟨fun s tag c h => ?tables, fun s tag h => ?records, ⟨rfl, rfl, rfl, rfl⟩, ?bytes⟩
  case tables =>
    intro t
    have tables : s.copyOf c = t := s.copyOf_eq c
    refine ⟨fun i hi => ?_, fun f => ?_, fun p hp => ?_⟩
    · have read := exec_accepts h (c := .readParticipant i c) (decide_eq_true hi) tag
      rw [← tables]
      exact read
    · have read := exec_accepts h (c := .readFeeder f.val c) (feeder_inRange f) tag
      rw [State.startCommand, State.startReadFeeder_of_feeder] at read
      rw [← tables]
      exact read
    · have read := exec_accepts h (c := .readBand p c) (decide_eq_true hp) tag
      rw [← tables]
      exact read
  case records =>
    refine ⟨fun f => ?_, exec_accepts h (c := .readClock) rfl tag, exec_accepts h (c := .readEngine) rfl tag⟩
    have read := exec_accepts h (c := .readRoundStatus f.val) (feeder_inRange f) tag
    refine read.trans (congrArg _ ?_)
    rw [State.startCommand]
    rcases last : s.ports[f].last with _ | r
    · exact State.startReadRoundStatus_of_none (s := s.install tag _) last
    · exact State.startReadRoundStatus_of_some (s := s.install tag _) last
  case bytes =>
    intro flag present absent minute
    refine ⟨fun e => ?entry, fun l => ?live, fun e p => ?feeder, fun t p => ?band, fun r => ?round,
      fun e week c => ?clock, fun s => ?engine⟩
    case entry =>
      refine bytes_append rfl ?redirect
      cases e.redirect <;> rfl
    case live =>
      refine bytes_append (bytes_append (bytes_append (bytes_append ?lastRound ?lastMark) rfl) ?taken) rfl
      case lastRound => cases l.lastRound <;> rfl
      case lastMark => cases l.lastMark <;> rfl
      case taken => cases l.taken <;> rfl
    case feeder =>
      refine bytes_append (bytes_append (bytes_append (bytes_append rfl ?enrolment) rfl) rfl) rfl
      rw [enrolmentFields]
      rcases p.enrolment.condition with _ | _ | ending
      · rfl
      · rfl
      · cases ending <;> rfl
    case band =>
      rw [bandResultFields, t.band_eq p]
      rcases t.bands[p] with _ | b
      · rfl
      · rw [bandLocalPrice_some]
        dsimp only
        split <;> rfl
    case round =>
      refine bytes_append rfl ?quiet
      cases r.quiet <;> rfl
    case clock =>
      refine bytes_append (bytes_append (bytes_append rfl ?openStart) rfl) ?dayClass
      case openStart => cases c.openStart <;> rfl
      case dayClass =>
        by_cases unconfigured : e = .unconfigured
        · rw [if_pos unconfigured, if_pos unconfigured]
          rfl
        · rw [if_neg unconfigured, if_neg unconfigured, presence, dayClassCode_dayClass]
          rfl
    case engine =>
      refine bytes_append (bytes_append (bytes_append (bytes_append (bytes_append (bytes_append rfl ?report) rfl)
        ?header) rfl) ?book) ?dirty
      case report =>
        rcases s.activation.report with _ | ⟨check, object⟩
        · rfl
        · cases object <;> rfl
      case header =>
        rcases s.port.header with _ | ⟨lastPosted, journal, book, count⟩
        · rfl
        · cases lastPosted <;> rfl
      case book =>
        generalize busy : s.books.find? _ = found
        rcases found with _ | b
        · rfl
        · have settles := List.find?_some busy
          rw [presence, bookStateCode_of_busy settles]
          rfl
      case dirty =>
        rw [State.dirtyLines, MemoryPort.evicting_count]
        rfl

end Sys2Proof.Machine
end

section
/-! ## READ BOOK (O15): the book named, and the bytes of its parts -/

namespace Sys2Proof.Machine

/-! ### The newest book (R184) -/

/-- Every book of a list but `b` starts before it. -/
def Book.latestOf (b : Book) (books : List Book) : Prop := ∀ x ∈ books, x ≠ b → x.start < b.start

section
variable {b c : Book} {books : List Book} {best : Option Book}

/-- The later of two books is one of them. -/
theorem laterBook_eq_or (best : Option Book) (c : Book) : laterBook best c = some c ∨ laterBook best c = best := by
  rcases best with _ | a
  · exact .inl rfl
  · rw [laterBook]
    split
    · exact .inl rfl
    · exact .inr rfl

/-- The latest book takes the place of any other. -/
theorem laterBook_of_latest (latest : b.latestOf best.toList) : laterBook best b = some b := by
  rcases best with _ | a
  · rfl
  · by_cases same : a = b
    · rw [laterBook, same, ite_self]
    · exact if_pos (latest a (Option.mem_toList.2 rfl) same)

/-- The latest book keeps its place. -/
theorem laterBook_latest (latest : b.latestOf [c]) : laterBook (some b) c = some b := by
  by_cases same : c = b
  · rw [laterBook, same, ite_self]
  · exact if_neg (Nat.lt_asymm (latest c List.mem_cons_self same))

/-- A pass over a list that holds the latest book, or that has it in hand, ends with it. -/
theorem foldl_laterBook (latest : b.latestOf books) (before : b.latestOf best.toList)
    (held : b ∈ books ∨ best = some b) : books.foldl laterBook best = some b := by
  induction books generalizing best with
  | nil => simpa using held
  | cons c rest ih =>
    have rests : b.latestOf rest := fun x hx => latest x (List.mem_cons_of_mem _ hx)
    have first : b.latestOf [c] := fun x hx => latest x (List.mem_cons.2 (.inl (List.mem_singleton.1 hx)))
    have next : b.latestOf (laterBook best c).toList := by
      rcases laterBook_eq_or best c with h | h <;> rw [h]
      · exact first
      · exact before
    refine ih rests next ?_
    rcases held with held | rfl
    · rcases List.mem_cons.1 held with rfl | inRest
      · exact .inr (laterBook_of_latest before)
      · exact .inl inRest
    · exact .inr (laterBook_latest first)

/-- NEWEST names the book with the greatest start minute. -/
theorem State.selectBook_newest {s : State} (held : b ∈ s.books) (latest : b.latestOf s.books) :
    s.selectBook .newest = some b :=
  foldl_laterBook latest (fun _ none => absurd none List.not_mem_nil) (.inl held)

end

/-! ### Its answer -/

/-- The fields of a part of a book. -/
def State.partFields (s : State) (b : Book) : BookPart → List Byte
  | .summary => summaryFields b
  | .members p => membersFields s.live b p

/-- READ BOOK's rule, by the book it names (R184). -/
theorem State.startReadBook_eq (s : State) (selector : BookSelector) (part : BookPart) :
    s.startReadBook selector part =
      (s.selectBook selector).elim (s.refuse noBookCode) fun b => s.finish 0 (s.partFields b part) := by
  unfold State.startReadBook
  rcases s.selectBook selector with _ | b
  · rfl
  · cases part <;> rfl

/-- A start minute and a position in range (R184). -/
theorem readBook_inRange {selector : BookSelector} {part : BookPart}
    (minute : ∀ m, selector = .startMinute m → m ≤ 94371839)
    (position : ∀ p, part = .members p → p ≤ 191) : commandInRange (.readBook selector part) = true := by
  refine Bool.and_eq_true_iff.2 ⟨?_, ?_⟩
  · cases selector with
    | newest => rfl
    | startMinute m => exact decide_eq_true (minute m rfl)
  · cases part with
    | summary => rfl
    | members p => exact decide_eq_true (position p rfl)

/-- An accepted READ BOOK answers with the book it names. -/
theorem exec_readBook {s : State} (h : s.accepts) {selector : BookSelector} {part : BookPart}
    (inRange : commandInRange (.readBook selector part) = true) (tag : Byte) :
    exec (.readBook tag selector part) s = .next
      ((s.selectBook selector).elim (s.answered tag 0x05 .refused 11 []) fun b =>
        s.answered tag 0x05 .done 0 (s.partFields b part)) :=
  (exec_accepts h inRange tag).trans (congrArg _ (State.startReadBook_eq _ selector part))

/-! ### The bytes (section 12.3) -/

/-- The discarded indicator is the state DISCARDED. -/
theorem discardedFlag_eq (b : Book) :
    [flagByte (b.state == .discarded)] = be 1 (if b.state = .discarded then 1 else 0) := by
  rw [be_discarded, flagByte]
  simp only [beq_iff_eq]

/-- A settling that has ended has left a capture and figures (R184). -/
theorem Book.settled_of_some {b : Book} {k : Capture} {f : Figures} (hk : b.capture = some k)
    (hf : b.figures = some f) : b.settled = if b.state = .settling then none else some (k, f) := by
  rw [Book.settled, hk, hf]
  rfl

theorem Book.settled_of_none {b : Book} (h : b.capture = none ∨ b.figures = none) : b.settled = none := by
  rw [Book.settled]
  rcases h with h | h <;> rw [h]
  · exact ite_self _
  · cases b.capture <;> exact ite_self _

/-- A member and its snapshot, absent when it is missing or not yet taken (log 40). -/
theorem memberFields_eq (m : Member) :
    memberFields m = be 1 m.index ++
      match m.snapshot with
      | some x => [1] ++ be 4 x.exported.toNat ++ be 4 x.imported.toNat ++ [flagByte x.counterFault]
      | none => List.replicate 10 0 := by
  rw [memberFields]
  cases m.snapshot <;> rfl

/-- The snapshots of a COLLECTING book stand in the live-state records (R184). -/
theorem snapshotSet_eq (live : Vector LiveState 192) (expected : List Nat) :
    snapshotSet live expected =
      expected.map fun i => { index := i, snapshot := (live[i]?).bind LiveState.taken } := by
  refine List.map_congr_left fun i _ => ?_
  rcases live[i]? with _ | l <;> rfl

/-- Settles O15: the book by its selector, then the two parts field by field. -/
theorem readBookNamesTheBook : Obligations.ReadBookNamesTheBook := by
  refine ⟨?answer, fun b => ?summary, fun live b position => ?members⟩
  case answer =>
    intro s tag part h position fields
    have same (b : Book) : s.partFields b part = fields b := by cases part <;> rfl
    have named (m : Nat) (minute : m ≤ 94371839) := exec_readBook h
      (readBook_inRange (selector := .startMinute m) (fun _ e => BookSelector.startMinute.inj e ▸ minute) position) tag
    have newest := exec_readBook h (readBook_inRange (selector := .newest) nofun position) tag
    simp only [same] at named newest
    refine ⟨fun m minute => (named m minute).trans (congrArg _ ?_), fun empty => newest.trans (congrArg _ ?_),
      fun b held latest => newest.trans (congrArg _ ?_)⟩
    · rw [State.selectBook, State.book]
      generalize s.books.find? _ = found
      cases found <;> rfl
    · rw [State.selectBook, empty]
      rfl
    · rw [State.selectBook_newest held latest]
      rfl
  case summary =>
    refine bytes_append (bytes_append (bytes_append (bytes_append (bytes_append (bytes_append (bytes_append rfl
      ?reason) rfl) (discardedFlag_eq b)) rfl) rfl) rfl) ?settled
    case reason =>
      rcases b.holdReason with _ | reason
      · rfl
      · cases reason <;> rfl
    case settled =>
      rcases hk : b.capture with _ | k
      · rw [Book.settled_of_none (.inl hk)]
        rfl
      rcases hf : b.figures with _ | f
      · rw [Book.settled_of_none (.inr hf)]
        rfl
      rw [Book.settled_of_some hk hf]
      by_cases settling : b.state = .settling
      · simp only [settling, if_true]
        rfl
      · rw [if_neg settling, presence, captureFields, countFields, energyFields, gridFields_eq]
        simp only [settling, if_false, List.append_assoc]
        rfl
  case members =>
    rw [membersFields, membersShown, snapshotSet_eq, funext memberFields_eq]
    rfl

end Sys2Proof.Machine
end

section
/-! ## SWEEP ACCOUNTS (O17) and SCAN ACCOUNTS (O18) as they start -/

namespace Sys2Proof.Machine

/-! ### A run's first account -/

/-- At rest a command whose turn leaves it with a record to ask for is granted the fill. -/
theorem State.drive_of_command_read {s t : State} (rest : s.resting) (rest' : t.resting) (turn : s.commandTurn = some t)
    (still : t.commandTurn = none) {r : Reader} {a line : Nat} (want : t.commandWant = some (.read r a))
    (victim : t.cache.victim none = some line) :
    s.drive = ({ t with cache := t.cache.drop line } : State).onPort
      (.fill r a line (dirtyRecord (t.cache.line line))) := by
  rw [State.drive_of_one ((State.turn_of_resting rest).trans turn) ((State.turn_of_resting rest').trans still),
    State.grant_of_read rest'.freePort ((State.want_of_resting rest').trans want), State.beginFill_of_victim victim]

/-- A run of accounts within the bounds of R186 and R188. -/
theorem runInRange_of {first last step : Nat} (order : first ≤ last) (bound : last ≤ 195) (low : 1 ≤ step)
    (high : step ≤ 16) : runInRange first last step = true := by
  simp [runInRange, order, bound, low, high]

/-- No step from the last account of a run stays within it. -/
theorem last_lt_step {first last step : Nat} (alone : first = last) (low : 1 ≤ step) : last < first + step := by
  omega

/-! ### SWEEP ACCOUNTS (R186) -/

/-- A SWEEP with its first account in hand. -/
def SweepRun.first (o : SweepOrder) : SweepRun :=
  { order := o, inHand := o.first, visited := 0, blocks := 0, damaged := 0, lastVisited := none, block := none,
    ending := .goingOn }

/-- A SWEEP with the account in hand, of a good record, visited (R186). -/
def SweepRun.visit (x : SweepRun) : SweepRun := { x with visited := x.visited + 1, lastVisited := some x.inHand }

/-- A SWEEP that has visited its first account and built its BLOCK. -/
def SweepRun.firstBlocked (o : SweepOrder) (record : Option AccountRecord) (dirty : Bool) : SweepRun :=
  { (SweepRun.first o).visit with block := some (blockBody o.first 0 record dirty) }

/-- A state that executes a SWEEP with its first account in hand. -/
def State.sweeps (s : State) (tag : Byte) (o : SweepOrder) : State := s.executing tag 0x09 (.sweep (.first o))

section
variable {s : State} {tag : Byte} {o : SweepOrder} {line : Nat} {r : AccountRecord}

theorem State.startSweep_of_notReady (notReady : s.port.state = .notReady) : s.startSweep o = s.refuse notReadyCode := by
  simp [State.startSweep, State.memoryReady, notReady]

theorem State.startSweep_of_ready (ready : s.port.state = .ready) :
    (s.install tag 0x09).startSweep o = (s.sweeps tag o).drive := by
  have ready' : (s.install tag 0x09).memoryReady = true := beq_iff_eq.2 ready
  rw [State.startSweep, ready']
  rfl

/-- A SWEEP visits an account in hand that the cache holds (R186, steps 1 and 2). -/
theorem State.sweepTurn_of_good {x : SweepRun} (unblocked : x.block = none)
    (good : s.cache.lookup x.inHand = .good line r) :
    s.sweepTurn x = some ((s.touch line).sweepVisit x (some r) (s.cache.isDirty line)) := by
  simp only [State.sweepTurn, unblocked, good, Option.isSome_none, Bool.false_eq_true, if_false]

/-- The turn of a SWEEP whose first account the cache holds. -/
theorem State.sweeps_turn (good : s.cache.lookup o.first = .good line r) :
    (s.sweeps tag o).commandTurn =
      some (((s.touch line).sweeps tag o).sweepVisit (.first o) (some r) (s.cache.isDirty line)) :=
  State.sweepTurn_of_good (s := s.sweeps tag o) (x := .first o) rfl good

/-- At rest a SWEEP whose first account matches has its BLOCK waiting (R186, step 3). -/
theorem State.resting.sweep_blocks (rest : s.resting) (good : s.cache.lookup o.first = .good line r)
    (hit : filterMatches o.filter (some r) = true) :
    (s.sweeps tag o).drive =
      (s.touch line).executing tag 0x09 (.sweep (.firstBlocked o (some r) (s.cache.isDirty line))) := by
  refine State.drive_of_command (s := s.sweeps tag o) (t := State.executing _ _ _ _) rest rest ?turn rfl rfl
  exact (State.sweeps_turn good).trans (congrArg some (if_pos hit))

/-- At rest a SWEEP of one account that does not match is DONE (R186, step 5). -/
theorem State.resting.sweep_ends (rest : s.resting) (good : s.cache.lookup o.first = .good line r)
    (pass : filterMatches o.filter (some r) = false) (beyond : o.last < o.first + o.step) :
    (s.sweeps tag o).drive =
      (s.touch line).answered tag 0x09 .done 0 (be 1 1 ++ be 1 0 ++ be 1 0 ++ be 1 o.first ++ [0]) := by
  have advanced := State.sweepAdvance_of_end (s := (s.touch line).sweeps tag o) (x := (SweepRun.first o).visit) rfl rfl
    (.inr ⟨rfl, beyond⟩)
  have turn := (State.sweeps_turn (tag := tag) good).trans
    (congrArg some ((if_neg (Bool.eq_false_iff.1 pass)).trans advanced))
  exact State.drive_of_ending (s := s.sweeps tag o) (t := State.answered _ _ _ _ _ _) rest rest turn rfl

/-- At rest a SWEEP whose first account the cache does not hold is granted the fill (R137, R142). -/
theorem State.resting.sweep_fills (rest : s.resting) (miss : s.cache.lookup o.first = .miss)
    (victim : s.cache.victim none = some line) :
    (s.sweeps tag o).drive = (({ s with cache := s.cache.drop line } : State).sweeps tag o).onPort
      (.fill .command o.first line (dirtyRecord (s.cache.line line))) :=
  have waits : (s.sweeps tag o).sweepTurn (.first o) = none := State.sweepTurn_of_waiting (.inr miss)
  State.drive_of_resting_read (s := s.sweeps tag o) rest waits rfl victim

end

/-- Settles O17: the refusal of the start, then the first account by what the cache and the filter answer for it. -/
theorem sweepVisitsItsFirstAccount : Obligations.SweepVisitsItsFirstAccount := by
  intro s tag o h order bound low high
  have start : exec (.sweepAccounts tag o) s = .next ((s.install tag 0x09).startSweep o) :=
    exec_accepts h (c := .sweepAccounts o) (runInRange_of order bound low high) tag
  refine ⟨fun notReady => ?notReady, fun ready rest => ?ready⟩
  case notReady =>
    exact start.trans (congrArg _ (State.startSweep_of_notReady (s := s.install tag 0x09) notReady))
  case ready =>
    rw [start, State.startSweep_of_ready ready]
    exact ⟨fun line r good hit => congrArg _ (rest.sweep_blocks good hit),
      fun line r good pass alone => congrArg _ (rest.sweep_ends good pass (last_lt_step alone low)),
      fun line miss victim => congrArg _ (rest.sweep_fills miss victim)⟩

/-! ### SCAN ACCOUNTS (R188) -/

/-- A SCAN with its first account in hand. -/
def ScanRun.first (o : ScanOrder) : ScanRun :=
  { order := o, inHand := o.first, tested := false, visited := 0, suspended := 0, damaged := 0, lastVisited := none,
    ending := .goingOn }

/-- A SCAN whose first account has passed the suspended test and is being read. -/
def ScanRun.firstTested (o : ScanOrder) : ScanRun := { ScanRun.first o with tested := true }

/-- A SCAN with the account in hand visited (R188). -/
def ScanRun.visit (x : ScanRun) : ScanRun := { x with visited := x.visited + 1, lastVisited := some x.inHand }

/-- A state that executes a SCAN. -/
def State.scans (s : State) (tag : Byte) (x : ScanRun) : State := s.executing tag 0x0A (.scan x)

/-- An account of a suspended participant (R188, step 1). -/
theorem State.isSuspended_iff {s : State} {a : Nat} :
    s.isSuspended a = true ↔
      a < 192 ∧ nonVacant (s.active.entry a) = true ∧ (s.active.entry a).status = .suspended := by
  rw [State.isSuspended, Bool.and_eq_true, Bool.and_eq_true, decide_eq_true_eq, beq_iff_eq, and_assoc]
  exact Iff.rfl

section
variable {s : State} {tag : Byte} {o : ScanOrder} {line : Nat} {r : AccountRecord}

theorem State.startScan_of_notReady (notReady : s.port.state = .notReady) : s.startScan o = s.refuse notReadyCode := by
  simp [State.startScan, State.memoryReady, notReady]

theorem State.startScan_of_ready (ready : s.port.state = .ready) :
    (s.install tag 0x0A).startScan o = (s.scans tag (.first o)).drive := by
  have ready' : (s.install tag 0x0A).memoryReady = true := beq_iff_eq.2 ready
  rw [State.startScan, ready']
  rfl

/-- A SCAN that is not cut and meets a suspended participant's account passes over it, or ends SUSPENDED_MET, without a
read (R188, step 1). -/
theorem State.scanTurn_of_suspended {x : ScanRun} (untested : x.tested = false) (going : x.ending = .goingOn)
    (met : s.isSuspended x.inHand = true) :
    s.scanTurn x = some
      (if x.order.skipSuspended then s.scanAdvance { x.visit with suspended := x.suspended + 1 }
       else s.scanEnd .done 3 x.visit (be 1 x.inHand)) := by
  rw [State.scanTurn, if_pos (by simp [untested, met, going])]
  exact (apply_ite some _ _ _).symm

/-- A SCAN of any other account compares a good record (R188, steps 2 and 3). -/
theorem State.scanTurn_of_good {x : ScanRun} (clear : s.isSuspended x.inHand = false)
    (good : s.cache.lookup x.inHand = .good line r) : s.scanTurn x = some ((s.touch line).scanCompare x.visit r) := by
  simp only [State.scanTurn, clear, good, Bool.and_false, Bool.false_and, Bool.false_eq_true, if_false, ScanRun.visit]

/-- A SCAN passes over a DAMAGED record (R188, step 2). -/
theorem State.scanTurn_of_damaged {x : ScanRun} (clear : s.isSuspended x.inHand = false)
    (damaged : s.cache.lookup x.inHand = .damaged line) :
    s.scanTurn x = some ((s.touch line).scanAdvance { x.visit with damaged := x.damaged + 1 }) := by
  simp only [State.scanTurn, clear, damaged, Bool.and_false, Bool.false_and, Bool.false_eq_true, if_false, ScanRun.visit]

/-- A SCAN that has not tested its account before asks for a record the cache does not hold (R188, step 2). -/
theorem State.scanTurn_of_miss {x : ScanRun} (untested : x.tested = false) (clear : s.isSuspended x.inHand = false)
    (miss : s.cache.lookup x.inHand = .miss) : s.scanTurn x = some (s.setRun (.scan { x with tested := true })) := by
  simp only [State.scanTurn, untested, clear, miss, Bool.and_false, Bool.false_and, Bool.false_eq_true, if_false]

/-- At rest a SCAN whose turn answers is done with the event. -/
theorem State.resting.scan_answers {x y : ScanRun} (rest : s.resting) {t : State} (rest' : t.resting) {d : Nat}
    {fields : List Byte} (turn : (s.scans tag x).scanTurn x = some ((t.scans tag y).answer .done d fields)) :
    (s.scans tag x).drive = t.answered tag 0x0A .done d fields :=
  State.drive_of_answer (s := s.scans tag x) (t := t.scans tag y) rest rest' rfl turn

/-- At rest a SCAN that meets a suspended participant's account and skips none ends SUSPENDED_MET. -/
theorem State.resting.scan_meets (rest : s.resting) (met : s.isSuspended o.first = true)
    (stops : o.skipSuspended = false) :
    (s.scans tag (.first o)).drive =
      s.answered tag 0x0A .done 3 (be 1 o.first ++ (be 1 1 ++ be 1 0 ++ be 1 0 ++ be 1 o.first)) := by
  have turn := State.scanTurn_of_suspended (s := s.scans tag (.first o)) (x := .first o) rfl rfl met
  exact rest.scan_answers (y := .first o) rest (turn.trans (congrArg some (if_neg (Bool.eq_false_iff.1 stops))))

/-- At rest a SCAN of one account that is a suspended participant's and is skipped ends NOT_SATISFIED. -/
theorem State.resting.scan_skips (rest : s.resting) (met : s.isSuspended o.first = true)
    (skips : o.skipSuspended = true) (beyond : o.last < o.first + o.step) :
    (s.scans tag (.first o)).drive =
      s.answered tag 0x0A .done 2 (be 1 1 ++ be 1 1 ++ be 1 0 ++ be 1 o.first) := by
  have turn := State.scanTurn_of_suspended (s := s.scans tag (.first o)) (x := .first o) rfl rfl met
  have ends := State.scanAdvance_of_last (s := s.scans tag (.first o)) (a := o.first)
    (r := { (ScanRun.first o).visit with suspended := 1 }) rfl beyond rfl
  exact rest.scan_answers (y := .first o) rest (turn.trans (congrArg some ((if_pos skips).trans ends)))

/-- At rest a SCAN whose first account satisfies it ends HIT (R188, step 3). -/
theorem State.resting.scan_hits (rest : s.resting) (clear : s.isSuspended o.first = false)
    (good : s.cache.lookup o.first = .good line r) (satisfied : scanHolds o r.balance) :
    (s.scans tag (.first o)).drive =
      (s.touch line).answered tag 0x0A .done 1
        (be 1 o.first ++ signedBe 6 r.balance ++ (be 1 1 ++ be 1 0 ++ be 1 0 ++ be 1 o.first)) := by
  have won : comparisonHolds o.comparison r.balance o.threshold = true := (comparisonHolds_iff o r.balance).2 satisfied
  have turn := State.scanTurn_of_good (s := s.scans tag (.first o)) (x := .first o) clear good
  exact rest.scan_answers (y := .first o) (t := s.touch line) rest (turn.trans (congrArg some (if_pos won)))

/-- At rest a SCAN of one account that does not satisfy it ends NOT_SATISFIED. -/
theorem State.resting.scan_misses (rest : s.resting) (clear : s.isSuspended o.first = false)
    (good : s.cache.lookup o.first = .good line r) (unsatisfied : ¬scanHolds o r.balance)
    (beyond : o.last < o.first + o.step) :
    (s.scans tag (.first o)).drive =
      (s.touch line).answered tag 0x0A .done 2 (be 1 1 ++ be 1 0 ++ be 1 0 ++ be 1 o.first) := by
  have lost : ¬comparisonHolds o.comparison r.balance o.threshold = true :=
    fun won => unsatisfied ((comparisonHolds_iff o r.balance).1 won)
  have turn := State.scanTurn_of_good (s := s.scans tag (.first o)) (x := .first o) clear good
  have ends := State.scanAdvance_of_last (s := (s.touch line).scans tag (.first o)) (a := o.first)
    (r := (ScanRun.first o).visit) rfl beyond rfl
  exact rest.scan_answers (y := .first o) (t := s.touch line) rest
    (turn.trans (congrArg some ((if_neg lost).trans ends)))

/-- At rest a SCAN of one account that is DAMAGED ends NOT_SATISFIED. -/
theorem State.resting.scan_damaged (rest : s.resting) (clear : s.isSuspended o.first = false)
    (damaged : s.cache.lookup o.first = .damaged line) (beyond : o.last < o.first + o.step) :
    (s.scans tag (.first o)).drive =
      (s.touch line).answered tag 0x0A .done 2 (be 1 1 ++ be 1 0 ++ be 1 1 ++ be 1 o.first) := by
  have turn := State.scanTurn_of_damaged (s := s.scans tag (.first o)) (x := .first o) clear damaged
  have ends := State.scanAdvance_of_last (s := (s.touch line).scans tag (.first o)) (a := o.first)
    (r := { (ScanRun.first o).visit with damaged := 1 }) rfl beyond rfl
  exact rest.scan_answers (y := .first o) (t := s.touch line) rest (turn.trans (congrArg some ends))

/-- At rest a SCAN whose first account the cache does not hold has tested it and is granted the fill (R137, R142). -/
theorem State.resting.scan_fills (rest : s.resting) (clear : s.isSuspended o.first = false)
    (miss : s.cache.lookup o.first = .miss) (victim : s.cache.victim none = some line) :
    (s.scans tag (.first o)).drive =
      (({ s with cache := s.cache.drop line } : State).scans tag (.firstTested o)).onPort
        (.fill .command o.first line (dirtyRecord (s.cache.line line))) := by
  have turn := State.scanTurn_of_miss (s := s.scans tag (.first o)) (x := .first o) rfl clear miss
  have waits : (s.scans tag (.firstTested o)).scanTurn (.firstTested o) = none := State.scanTurn_of_waiting rfl miss
  exact State.drive_of_command_read (s := s.scans tag (.first o)) (t := s.scans tag (.firstTested o)) rest rest turn
    waits rfl victim

end

/-- Settles O18: the refusal of the start, then the first account by its status, the cache's answer and the
comparison. -/
theorem scanTestsItsFirstAccount : Obligations.ScanTestsItsFirstAccount := by
  intro s tag o h order bound low high threshold suspended holds
  have inRange : commandInRange (.scanAccounts o) = true :=
    Bool.and_eq_true_iff.2 ⟨runInRange_of order bound low high, threshold⟩
  have start : exec (.scanAccounts tag o) s = .next ((s.install tag 0x0A).startScan o) := exec_accepts h inRange tag
  have clear (h : ¬suspended) : s.isSuspended o.first = false :=
    Bool.eq_false_iff.2 fun met => h (State.isSuspended_iff.1 met)
  refine ⟨fun notReady => ?notReady, fun ready rest => ?ready⟩
  case notReady =>
    exact start.trans (congrArg _ (State.startScan_of_notReady (s := s.install tag 0x0A) notReady))
  case ready =>
    rw [start, State.startScan_of_ready ready]
    exact ⟨fun met stops => congrArg _ (rest.scan_meets (State.isSuspended_iff.2 met) stops),
      fun met skips alone =>
        congrArg _ (rest.scan_skips (State.isSuspended_iff.2 met) skips (last_lt_step alone low)),
      fun line r free good satisfied => congrArg _ (rest.scan_hits (clear free) good satisfied),
      fun line r free good unsatisfied alone =>
        congrArg _ (rest.scan_misses (clear free) good unsatisfied (last_lt_step alone low)),
      fun line free damaged alone => congrArg _ (rest.scan_damaged (clear free) damaged (last_lt_step alone low)),
      fun line free miss victim => congrArg _ (rest.scan_fills (clear free) miss victim)⟩

end Sys2Proof.Machine
end

section
/-! ## The queue of events (O1): what a step does on either shape of the queue -/

namespace Sys2Proof.Machine

section
variable {s : State}

/-- The front event runs in the state that holds the queue's rest. -/
theorem step_of_pending_cons {c : Instr} {rest : List Instr} (queue : s.pending = c :: rest) :
    step s = exec c { s with pending := rest } := by
  simp only [step, queue]

/-- On an empty queue the block idles (log 1). -/
theorem step_of_pending_nil (queue : s.pending = []) : step s = .next s := by
  simp only [step, queue]

end

/-- Settles O1: the two shapes of the queue, an event at its front or none. -/
theorem stepTakesTheFrontEvent : Obligations.StepTakesTheFrontEvent :=
  ⟨fun c rest s => step_of_pending_cons (s := { s with pending := c :: rest }) rfl, fun _ => step_of_pending_nil⟩

end Sys2Proof.Machine
end
